-- ==== Sys2Proof/Word.lean ====
section
/-! DEFINITION. The word types of the CJ40: bytes and wider words as the frames carry them, and the
numbers that name a record, a job slot, a station and the like. -/

namespace Sys2Proof

/-- One byte of a frame. -/
abbrev Byte := BitVec 8
/-- Two bytes, sent most significant byte first (00_scope 1.5). -/
abbrev Word16 := BitVec 16
/-- Three bytes: a case or jacket code. -/
abbrev Word24 := BitVec 24
/-- Four bytes: a job key, or a reading of the millisecond time base (R111). -/
abbrev Word32 := BitVec 32

/-- The number of a piece record in the pool, 0 to 95. -/
abbrev Tag := Fin 96
/-- One of the 32 places of the job table. -/
abbrev JobSlot := Fin 32
/-- One of the four copy tables (R24). -/
abbrev CopyTableId := Fin 4
/-- A press class, 0 to 7. -/
abbrev Class := Fin 8
/-- A station address: the value a is the address a + 1 on the link, 1 to 8. -/
abbrev Address := Fin 8
/-- One of the four lamps. -/
abbrev LampId := Fin 4

end Sys2Proof
end

