-- ==== Sys2Proof/Syntax.lean ====
section
/-! DEFINITION. The commands and events of the CJ40: one constructor of `Instr` for each row of
spec/opcode_table.json. The operands of a host command are its parameter fields as its frame carries
them (R182), so a value out of range is a term too and is refused by the command's own checks. An
event that notes or reads a time carries `time`, the reading of the time base (R111) at which it is
taken. -/

namespace Sys2Proof

/-- The conveyor zones: those with an encoder and an exit eye (00_scope, Terms). -/
inductive ConveyorZone where
  | z1 | z2 | z4 | z5
deriving DecidableEq, Repr

/-- The five zones, in line order. -/
inductive Zone where
  | z1 | z2 | z3 | z4 | z5
deriving DecidableEq, Repr

/-- What abandons a frame in progress besides the gap (R161): a byte (a bad escape, or one that finds
the buffer full), or a byte received without its stop bit. -/
inductive AbandonCause where
  | byte (b : Byte)
  | noStopBit
deriving DecidableEq, Repr

/-- The 26 parameter bytes of LOAD_JOB, in the order they are sent (R26). -/
structure JobParams where
  key : Word32
  nominal : Word16
  tolerance : Word16
  caseCode : Word24
  jacketCode : Word24
  firstCopy : Word16
  lastCopy : Word16
  classOverride : Byte
  ordered : Word16
  allowance : Byte
  casePolicy : Byte
  jacketPolicy : Byte
  mismatchLimit : Byte
  overdwellPolicy : Byte
deriving DecidableEq, Repr

/-- The six figures that WRITE_CLASS carries after the class number (R90). -/
structure ClassParams where
  base : Word16
  rate : Word16
  nominalTemp : Word16
  coldLimit : Word16
  gain : Byte
  factor : Word16
deriving DecidableEq, Repr

/-- The commands and events of the CJ40, one constructor for each row of the opcode table. -/
inductive Instr where
  -- power
  | powerOn (time : Word32) (jawAsserted : Bool)
  | memoryCheckPass
  | memoryCheckFail
  -- the supervisor port's own commands
  | identify
  | readStatus
  | ackAttention (mask : Word16)
  | setAttentionEnable (mask : Word16)
  | setLamp (lamp source polarity stretch : Byte)
  -- jobs
  | loadJob (p : JobParams)
  | releaseJob (key : Word32)
  | holdJob (key : Word32)
  | amendJob (key : Word32) (ordered : Word16) (allowance : Byte)
  | closeJob (key : Word32)
  | readJob (slot : Byte)
  | findJob (key : Word32)
  | readCopies (slot : Byte) (first : Word16) (count : Byte)
  -- press classes
  | writeClass (cls : Byte) (p : ClassParams)
  | writeBin (bin cls : Byte)
  | writeRange (range enabled : Byte) (low high : Word16) (cls : Byte)
  | setClassTable (master fixed defaultClass : Byte)
  -- press settings
  | setFilter (interval shift warmup : Byte)
  | setJawTimes (hit bridge : Word16)
  | readPress (time : Word32)
  -- zones
  | setZone (zone : Byte) (length window : Word16)
  | setZoneMode (zone mode : Byte)
  | readZone (zone : Byte)
  | lineClear
  -- pieces
  | readPiece (tag : Byte) (admission : Word16)
  | listLost (first : Byte)
  | resolveLost (tag : Byte) (admission : Word16)
  | reinstate (tag : Byte) (admission : Word16) (zone : Byte)
  -- stations
  | readStation (address : Byte)
  -- other transactions on the port
  | unknownCommand (written : List Byte)
  | responseRead (clocked : Nat)
  -- field lines and timers
  | forwardAdvance (z : ConveyorZone)
  | reverseAdvance (z : ConveyorZone)
  | exitEyeLeadingEdge (z : ConveyorZone) (time : Word32)
  | pressIndex (time : Word32)
  | jawContactAsserted (time : Word32)
  | jawContactReleased (time : Word32)
  | hitTimerExpiry (time : Word32)
  | bridgeTimerExpiry (time : Word32)
  | overdwellTimerExpiry (time : Word32)
  | lampStretchExpiry (lamp : LampId) (time : Word32)
  -- the station link
  | poll
  | replyFrame (time : Word32)
  | replyTimeout (time : Word32)
  | interByteGapExpiry (time : Word32)
  | frameAbandoned (cause : AbandonCause) (time : Word32)
  | linkByteReceived (b : Byte)
deriving DecidableEq, Repr

end Sys2Proof
end

