-- ==== Sys2Proof/Decode.lean ====
section
/-! DEFINITION. The command that a table word spells. spec/opcode_table.json gives no row any bits, so no
word spells a command (log 13). The frames by which commands do arrive are decoded and encoded in
Machine/Frames.lean. -/

namespace Sys2Proof

/-- The command of a word numbered as the opcode table numbers its bits: the table gives no row bits. -/
def decodeTableWord (_nbits _w : Nat) : Option Instr := none

end Sys2Proof
end

