-- ==== Sys2Proof/Config.lean ====
section
/-! DEFINITION. What one CJ40 fixes for itself and the spec does not: the revision it identifies by. -/

namespace Sys2Proof

/-- R185: the revision byte of IDENTIFY is 1 to 15. Which one is the part's own; nothing constrains
it here beyond that range (the byte is this index plus one). Log 6. -/
opaque Config.revisionIndex : Fin 15

end Sys2Proof
end

