-- ==== Sys2Proof/Machine/Bytes.lean ====
section
/-! DEFINITION. Byte order and sums: multi-byte fields are sent most significant byte first
(00_scope 1.5), and both check fields of the part are computed over bytes. -/

namespace Sys2Proof.Machine

/-- The low eight bits of a number, as one byte of data. -/
def byteOf (n : Nat) : Byte := BitVec.ofNat 8 n

/-- One byte of data for a yes or no. -/
def boolByte (b : Bool) : Byte := if b then 1 else 0

/-- The two bytes of a word, most significant first. -/
def split16 (w : Word16) : List Byte := [w.extractLsb' 8 8, w.extractLsb' 0 8]
/-- The three bytes of a word, most significant first. -/
def split24 (w : Word24) : List Byte := [w.extractLsb' 16 8, w.extractLsb' 8 8, w.extractLsb' 0 8]
/-- The four bytes of a word, most significant first. -/
def split32 (w : Word32) : List Byte :=
  [w.extractLsb' 24 8, w.extractLsb' 16 8, w.extractLsb' 8 8, w.extractLsb' 0 8]

/-- The two bytes of a number, most significant first. -/
def bytes16 (n : Nat) : List Byte := split16 (BitVec.ofNat 16 n)

/-- The word that two bytes spell, most significant first. -/
def join16 (a b : Byte) : Word16 := a ++ b
/-- The word that three bytes spell, most significant first. -/
def join24 (a b c : Byte) : Word24 := (a ++ b) ++ c
/-- The word that four bytes spell, most significant first. -/
def join32 (a b c d : Byte) : Word32 := ((a ++ b) ++ c) ++ d

/-- The sum of bytes modulo 256 (R179, R181). -/
def byteSum (bs : List Byte) : Byte := bs.foldl (· + ·) 0

/-- The check byte that makes the sum of a frame 0 modulo 256 (R179, R181). -/
def checkByte (bs : List Byte) : Byte := -byteSum bs

/-- Milliseconds from one reading of the time base to a later one, modulo 2^32 (R111). -/
def elapsed (since now : Word32) : Nat := (now - since).toNat

/-- The reading `ms` milliseconds after another, modulo 2^32 (R111). -/
def later (reading : Word32) (ms : Nat) : Word32 := reading + BitVec.ofNat 32 ms

/-- A timer started at `start` to run out at `runsOut` has run out by the reading `now`. -/
def hasRunOut (start runsOut now : Word32) : Bool := elapsed start runsOut ≤ elapsed start now

end Sys2Proof.Machine
end

