-- ==== Sys2Proof/Machine/State.lean ====
section
/-! DEFINITION. The state of the CJ40 as plain data, block by block (00_scope 1.3), the fault and
refusal types, and the state after power-on. What the spec says is derived (disposition, travel, loss
position, filter state, hold outputs, the attention line, READY, the lamp outputs) is not held here;
the functions that derive it stand in Flags.lean and Ops.lean (log 3). -/

namespace Sys2Proof.Machine

/-- The spec names no event that stops the CJ40: a command is carried out, refused with a status code
or changes nothing, and so is an event. No meaning faults. -/
inductive Fault where
deriving DecidableEq, Repr

/-- Why a step has no meaning. -/
inductive Refusal where
  /-- Raised only by `exec` for a command of the table that has no meaning yet, named as the table
  spells it. Safe: the machine stops where the part goes on. -/
  | notModelled (mnemonic : String)
deriving DecidableEq, Repr

/-! ### Piece records (chapter 1) -/

/-- R8. -/
inductive CaseStatus where
  | pending | married | skipped
deriving DecidableEq, Repr

/-- R9. -/
inductive JacketStatus where
  | pending | married | notRequired | skipped
deriving DecidableEq, Repr

/-- R7: where a piece is. -/
inductive Place where
  | conveyor (z : ConveyorZone)
  | casingSlot
  | pressEntry
  | press (position : Fin 12)
  | jacketingSlot
  | gateQueue
  | lost
deriving DecidableEq, Repr

/-- R15: the outcome a piece is heading for. The gate orders carry the same three names (R148). -/
inductive Disposition where
  | deliver | deliverMarked | divert
deriving DecidableEq, Repr

/-- R11: the kinds of fault a record can carry. -/
inductive FaultKind where
  | unknownJob | overQuantity | copyRange | duplicateCopy | caliper | caseMismatch | caseUnconfirmed
  | coldPress | underdwell | overdwell | pressSequence | jacketMismatch | jacketUnconfirmed | tracking
  | gateUnconfirmed
deriving DecidableEq, Repr

/-- R11, R20: a set of fault kinds, one bit for each in the order of the readout. -/
abbrev FaultSet := BitVec 16

/-- R6: Dmin and Dmax in milliseconds, made present together. -/
structure DwellLimits where
  dmin : Nat
  dmax : Nat
deriving DecidableEq, Repr

/-- One piece record (R4 to R11). -/
structure Piece where
  admission : Word16
  job : Option JobSlot
  copy : Option Nat
  thickness : Nat
  cls : Class
  limits : Option DwellLimits
  accumulated : Nat
  place : Place
  entryCount : Option Word16
  caseStatus : CaseStatus
  jacketStatus : JacketStatus
  copyVerified : Bool
  faults : FaultSet
deriving DecidableEq, Repr

/-! ### Jobs and copy tables (chapters 2 and 4) -/

/-- R21: the states of a slot that is not EMPTY. -/
inductive JobState where
  | loaded | running | held | complete | closing
deriving DecidableEq, Repr

/-- R21: the case and jacket policies. -/
inductive MismatchPolicy where
  | divertPiece | holdStation
deriving DecidableEq, Repr

/-- R21. -/
inductive OverdwellPolicy where
  | divert | passMarked
deriving DecidableEq, Repr

/-- R24: the copy range of a numbered job and the copy table bound to it. -/
structure Numbering where
  first : Nat
  last : Nat
  table : CopyTableId
deriving DecidableEq, Repr

/-- R21: one job. An EMPTY slot holds none. -/
structure Job where
  state : JobState
  key : Word32
  nominal : Nat
  tolerance : Nat
  caseCode : Word24
  jacketCode : Option Word24
  numbered : Option Numbering
  classOverride : Option Class
  ordered : Nat
  allowance : Nat
  casePolicy : MismatchPolicy
  jacketPolicy : MismatchPolicy
  mismatchLimit : Nat
  overdwellPolicy : OverdwellPolicy
  good : Nat
  diverted : Nat
  spoiled : Nat
  live : Nat
deriving DecidableEq, Repr

/-- R76: the state of one copy entry. -/
inductive CopyState where
  | unseen | inLine | delivered | deliveredUnverified | spoiled
deriving DecidableEq, Repr

/-! ### The class table and the dwell unit (chapters 5 and 6) -/

/-- R79: one variable range. -/
structure ClassRange where
  enabled : Bool
  low : Nat
  high : Nat
  cls : Class
deriving DecidableEq, Repr

/-- R82: one class record, B, K, Tn, C, G and M. -/
structure ClassRecord where
  base : Nat
  rate : Nat
  nominalTemp : Nat
  coldLimit : Nat
  gain : Nat
  factor : Nat
deriving DecidableEq, Repr

/-- R79. A bin that holds none is UNSET. -/
structure ClassTable where
  bins : Vector (Option Class) 16
  ranges : Vector ClassRange 8
  defaultClass : Class
  master : Bool
  fixed : Bool
  records : Vector ClassRecord 8
deriving DecidableEq, Repr

/-- The jaw temperature filter (6.1). -/
structure Filter where
  interval : Nat
  shift : Nat
  warmup : Nat
  reportCounter : Nat
  sampleCount : Nat
  tf : Int
deriving DecidableEq, Repr

/-! ### The press tracker (chapter 7) -/

/-- R112. -/
inductive JawState where
  | opened | closing | closed | opening
deriving DecidableEq, Repr

/-- The press tracker. A timer holds the reading at which it runs out, or none while it is stopped. -/
structure Press where
  positions : Vector (Option Tag) 12
  jaw : JawState
  assertionTime : Word32
  releaseTime : Word32
  closeTime : Word32
  hitTimer : Option Word32
  bridgeTimer : Option Word32
  overdwellTimer : Option Word32
  overdwellDeferred : Bool
  hitTime : Nat
  bridgeTime : Nat
deriving DecidableEq, Repr

/-! ### The zone tracker (chapter 3) -/

/-- The three modes of a zone (3.2). -/
inductive ZoneMode where
  | run | halt | reset
deriving DecidableEq, Repr

/-- What a conveyor zone holds: mode, length L, window W, encoder count and queue, head first. -/
structure Conveyor where
  mode : ZoneMode
  length : Nat
  window : Nat
  encoder : Word16
  queue : List Tag
deriving DecidableEq, Repr

/-! ### The gate unit and the station link (chapters 9 and 10) -/

/-- R175: an order waiting for, or carried to, a station. -/
inductive Order where
  | gate (order : Disposition) (tag : Tag)
  | jawRelease
deriving DecidableEq, Repr

/-- R150: what the gate unit keeps of the gate order in flight. -/
structure GateFlight where
  order : Disposition
  tag : Tag
  admission : Word16
deriving DecidableEq, Repr

/-- R164, R172. -/
inductive Role where
  | infeed | casing | press | jacketing | gate
deriving DecidableEq, Repr

/-- R170: the standing of a station that claims a role. -/
inductive Standing where
  | assigned | conflict
deriving DecidableEq, Repr

/-- One entry of the station table (R170). Abilities are the bits of R164. -/
structure Station where
  present : Bool
  latch : Bool
  silent : Nat
  role : Option Role
  standing : Option Standing
  abilities : Byte
  orders : List Order
deriving DecidableEq, Repr

/-- R161: the states of the link's receiver. -/
inductive RxState where
  | outside | inFrame | escaped
deriving DecidableEq, Repr

/-- R167: in an exchange, the 2 ms window is open with no START yet, or a reply candidate is in
progress. -/
inductive Awaiting where
  | window | candidate
deriving DecidableEq, Repr

/-- R166: the exchange in progress, its polled address and the order its POLL carried. -/
structure Exchange where
  address : Address
  carried : Option Order
  awaiting : Awaiting
deriving DecidableEq, Repr

/-- The station link controller's own state: the address called next, the exchange in progress, the
receiver and its content buffer, the bytes of the last frame sent (log 5), and the direction output, true while
it is asserted (R159). -/
structure Link where
  next : Address
  exchange : Option Exchange
  rx : RxState
  buffer : List Byte
  sent : List Byte
  direction : Bool
deriving DecidableEq, Repr

/-! ### The supervisor port (chapter 11) -/

/-- R183. -/
inductive CheckResult where
  | running | pass | fail
deriving DecidableEq, Repr

/-- R186: the nine attention flags, in the order of their bits. -/
inductive Attention where
  | jobComplete | tracking | mismatch | overdwell | coldPress | pressSequence | stationChange
  | poolExhausted | memoryFail
deriving DecidableEq, Repr

/-- R191: the nine lamp sources, in the order of their codes. -/
inductive LampSource where
  | off | on | allRun | anyHalt | attention | lostPresent | cold | deliverPulse | divertPulse
deriving DecidableEq, Repr

/-- R191. -/
inductive Polarity where
  | activeHigh | activeLow
deriving DecidableEq, Repr

/-- R191: one lamp. `stretchEnd` is the reading at which the running stretch runs out. -/
structure Lamp where
  source : LampSource
  polarity : Polarity
  stretch : Nat
  stretchEnd : Option Word32
deriving DecidableEq, Repr

/-! ### The whole machine -/

/-- Everything the CJ40 holds, and the queue of the commands that wait for it (log 1). -/
structure State where
  timeBase : Word32
  -- record pool
  pool : Vector (Option Piece) 96
  admissionCounter : Word16
  -- job table and copy tables
  jobs : Vector (Option Job) 32
  copyTables : Vector (List CopyState) 4
  -- class table and dwell unit
  classTable : ClassTable
  filter : Filter
  -- press tracker
  press : Press
  -- zone tracker
  z1 : Conveyor
  z2 : Conveyor
  z4 : Conveyor
  z5 : Conveyor
  z3Mode : ZoneMode
  casing : Option Tag
  pressEntry : Option Tag
  jacketing : Option Tag
  lost : List Tag
  -- marriage checker
  casingMismatch : Nat
  jacketingMismatch : Nat
  -- gate unit
  gateQueue : List Tag
  gateInFlight : Option GateFlight
  -- station link controller
  stations : Vector Station 8
  link : Link
  -- supervisor port
  check : CheckResult
  flags : BitVec 9
  enables : BitVec 9
  lamps : Vector Lamp 4
  response : Option (List Byte)
  clockedOut : List Byte
  -- the queue of waiting commands
  pending : List Instr
deriving DecidableEq, Repr

/-! ### Power-on values -/

/-- R79. -/
def ClassRecord.powerOn : ClassRecord :=
  { base := 2000, rate := 100, nominalTemp := 1200, coldLimit := 100, gain := 8, factor := 200 }

/-- R79. -/
def ClassTable.powerOn : ClassTable :=
  { bins := Vector.replicate 16 none
    ranges := Vector.replicate 8 { enabled := false, low := 0, high := 0, cls := 0 }
    defaultClass := 0
    master := false
    fixed := false
    records := Vector.replicate 8 ClassRecord.powerOn }

/-- R93. -/
def Filter.powerOn : Filter :=
  { interval := 0, shift := 3, warmup := 16, reportCounter := 0, sampleCount := 0, tf := 0 }

/-- R110, R112, R114, R117. The noted times have no value of the spec's (log 2). -/
def Press.powerOn : Press :=
  { positions := Vector.replicate 12 none
    jaw := .opened
    assertionTime := 0
    releaseTime := 0
    closeTime := 0
    hitTimer := none
    bridgeTimer := none
    overdwellTimer := none
    overdwellDeferred := false
    hitTime := 20
    bridgeTime := 50 }

/-- R40. -/
def Conveyor.powerOn : Conveyor :=
  { mode := .reset, length := 400, window := 40, encoder := 0, queue := [] }

/-- R170. -/
def Station.powerOn : Station :=
  { present := false, latch := false, silent := 0, role := none, standing := none, abilities := 0
    orders := [] }

/-- R159, R161, R166. -/
def Link.powerOn : Link :=
  { next := 0, exchange := none, rx := .outside, buffer := [], sent := [], direction := false }

/-- R191. -/
def Lamp.powerOn : Lamp :=
  { source := .off, polarity := .activeHigh, stretch := 100, stretchEnd := none }

/-- The part right after power-on, with the power-up check running (R183), the time base at 0 (log 2)
and the jaw-contact input released (log 4). -/
def State.reset : State :=
  { timeBase := 0
    pool := Vector.replicate 96 none
    admissionCounter := 0
    jobs := Vector.replicate 32 none
    copyTables := Vector.replicate 4 []
    classTable := ClassTable.powerOn
    filter := Filter.powerOn
    press := Press.powerOn
    z1 := Conveyor.powerOn
    z2 := Conveyor.powerOn
    z4 := Conveyor.powerOn
    z5 := Conveyor.powerOn
    z3Mode := .reset
    casing := none
    pressEntry := none
    jacketing := none
    lost := []
    casingMismatch := 0
    jacketingMismatch := 0
    gateQueue := []
    gateInFlight := none
    stations := Vector.replicate 8 Station.powerOn
    link := Link.powerOn
    check := .running
    flags := 0
    enables := 0
    lamps := Vector.replicate 4 Lamp.powerOn
    response := none
    clockedOut := []
    pending := [] }

end Sys2Proof.Machine
end

