-- ==== Sys2Proof/Machine/Flags.lean ====
section
/-! DEFINITION. The flag computations: fault sets, ability sets, the attention flags with their line,
and what each lamp shows. -/

namespace Sys2Proof.Machine

/-! ### Fault sets (R11, R20) -/

/-- The bit of a fault kind in the readout, which is also its place in the set (R20). -/
def FaultKind.bit : FaultKind → FaultSet
  | .unknownJob => 0x0001
  | .overQuantity => 0x0002
  | .copyRange => 0x0004
  | .duplicateCopy => 0x0008
  | .caliper => 0x0010
  | .caseMismatch => 0x0020
  | .caseUnconfirmed => 0x0040
  | .coldPress => 0x0080
  | .underdwell => 0x0100
  | .overdwell => 0x0200
  | .pressSequence => 0x0400
  | .jacketMismatch => 0x0800
  | .jacketUnconfirmed => 0x1000
  | .tracking => 0x2000
  | .gateUnconfirmed => 0x4000

/-- R11: adding a kind already in the set leaves the set as it is. -/
def FaultSet.add (f : FaultSet) (k : FaultKind) : FaultSet := f ||| k.bit

/-- Adds a kind when a condition holds. -/
def FaultSet.addIf (f : FaultSet) (c : Bool) (k : FaultKind) : FaultSet := if c then f.add k else f

/-- Whether a kind is in the set. -/
def FaultSet.has (f : FaultSet) (k : FaultKind) : Bool := f &&& k.bit != 0

/-- R155, R76: the piece carries its copy as a clean block of it. -/
def FaultSet.cleanCopy (f : FaultSet) : Bool := !f.has .duplicateCopy && !f.has .copyRange

/-! ### Roles and abilities (R164, R172) -/

/-- R164: the abilities, in the order of their bits. -/
inductive Ability where
  | thickness | caseRefeed | tempReport | jawRelease | jacketRefeed | copyRead | mark
deriving DecidableEq, Repr

/-- R164: the bit of an ability in the abilities byte. -/
def Ability.bit : Ability → Byte
  | .thickness => 0x01
  | .caseRefeed => 0x02
  | .tempReport => 0x04
  | .jawRelease => 0x08
  | .jacketRefeed => 0x10
  | .copyRead => 0x20
  | .mark => 0x40

/-- R172: the abilities a role may announce, as a mask; the other bits are not taken. -/
def Role.mayAnnounce : Role → Byte
  | .infeed => 0x01
  | .casing => 0x02
  | .press => 0x0C
  | .jacketing => 0x30
  | .gate => 0x40

/-- Whether an ability is in an abilities byte. -/
def hasAbility (abilities : Byte) (a : Ability) : Bool := abilities &&& a.bit != 0

/-! ### Attention (R186, R187) -/

/-- R186: the bit of a flag in every attention mask. -/
def Attention.bit : Attention → BitVec 9
  | .jobComplete => 0x001
  | .tracking => 0x002
  | .mismatch => 0x004
  | .overdwell => 0x008
  | .coldPress => 0x010
  | .pressSequence => 0x020
  | .stationChange => 0x040
  | .poolExhausted => 0x080
  | .memoryFail => 0x100

/-- R186: a flag raised while already set stays set. -/
def State.raise (s : State) (a : Attention) : State := { s with flags := s.flags ||| a.bit }

/-- Raises a flag when a condition holds. -/
def State.raiseIf (s : State) (c : Bool) (a : Attention) : State := if c then s.raise a else s

/-- Whether a flag is set. -/
def State.flagSet (s : State) (a : Attention) : Bool := s.flags &&& a.bit != 0

/-- R187, R190: the flags that are set and enabled; MEMORY_FAIL is active whatever its enable. -/
def State.activeFlags (s : State) : BitVec 9 := s.flags &&& (s.enables ||| Attention.memoryFail.bit)

/-- R187: the attention line is asserted while any flag is active. -/
def State.attentionLine (s : State) : Bool := s.activeFlags != 0

/-- R190: a mask of nine bits as two bytes, most significant first. -/
def maskBytes (m : BitVec 9) : List Byte := split16 (m.setWidth 16)

/-- R188, R189: whether a mask names a flag that does not exist (bits 9 to 15). -/
def maskIllegal (mask : Word16) : Bool := mask &&& 0xFE00 != 0

/-! ### Outputs that follow other state (log 3) -/

/-- The mode of a zone. -/
def State.mode (s : State) : Zone → ZoneMode
  | .z1 => s.z1.mode
  | .z2 => s.z2.mode
  | .z3 => s.z3Mode
  | .z4 => s.z4.mode
  | .z5 => s.z5.mode

/-- The five zones in line order. -/
def allZones : List Zone := [.z1, .z2, .z3, .z4, .z5]

/-- R41: a zone's hold output is asserted in HALT and RESET and released in RUN. -/
def State.holdOutput (s : State) (z : Zone) : Bool := s.mode z != .run

/-- R180: READY is asserted while the port holds a response. -/
def State.ready (s : State) : Bool := s.response.isSome

/-- R191: whether a lamp is lit. -/
def State.lampLit (s : State) (l : LampId) : Bool :=
  match s.lamps[l].source with
  | .off => false
  | .on => true
  | .allRun => allZones.all fun z => s.mode z == .run
  | .anyHalt => allZones.any fun z => s.mode z == .halt
  | .attention => s.attentionLine
  | .lostPresent => !s.lost.isEmpty
  | .cold => s.flagSet .coldPress
  | .deliverPulse => s.lamps[l].stretchEnd.isSome
  | .divertPulse => s.lamps[l].stretchEnd.isSome

/-- R191: the level a lamp drives, high or not. -/
def State.lampOutput (s : State) (l : LampId) : Bool :=
  match s.lamps[l].polarity with
  | .activeHigh => s.lampLit l
  | .activeLow => !s.lampLit l

/-- R156: a pulse starts the stretch of every lamp whose source it is, from this reading. -/
def State.pulse (s : State) (source : LampSource) : State :=
  { s with lamps := s.lamps.map fun l =>
      if l.source = source then { l with stretchEnd := some (later s.timeBase l.stretch) } else l }

end Sys2Proof.Machine
end

