-- ==== Sys2Proof/Machine/Operands.lean ====
section
/-! DEFINITION. Every operand form: how the parameter bytes of a host command and the fields of a
report name a tag, slot, zone, class and so on, and which values name none. -/

namespace Sys2Proof.Machine

/-- A byte as an index below a bound, when it is one. -/
def indexOf (n : Nat) (b : Byte) : Option (Fin n) := if h : b.toNat < n then some ⟨b.toNat, h⟩ else none

/-- R3: a tag is 0 to 95. -/
def tagOf (b : Byte) : Option Tag := indexOf 96 b

/-- R32: a job slot is 0 to 31. -/
def slotOf (b : Byte) : Option JobSlot := indexOf 32 b

/-- A class is 0 to 7. -/
def classOf (b : Byte) : Option Class := indexOf 8 b

/-- A class byte in which 0xFF stands for none (R26, R87): `none` is a bad value. -/
def optionalClassOf (b : Byte) : Option (Option Class) := if b = 0xFF then some none else (classOf b).map some

/-- R170, R176: a station address is 1 to 8. -/
def addressOf (b : Byte) : Option Address := if b = 0 then none else indexOf 8 (b - 1)

/-- The byte of a station address on the link. -/
def addressByte (a : Address) : Byte := byteOf (a.val + 1)

/-- R42, R62: a zone number is 1 to 5. -/
def zoneOf (b : Byte) : Option Zone :=
  match b.toNat with
  | 1 => some .z1
  | 2 => some .z2
  | 3 => some .z3
  | 4 => some .z4
  | 5 => some .z5
  | _ => none

/-- R46, R61: a conveyor zone number is 1, 2, 4 or 5. -/
def conveyorZoneOf (b : Byte) : Option ConveyorZone :=
  match b.toNat with
  | 1 => some .z1
  | 2 => some .z2
  | 4 => some .z4
  | 5 => some .z5
  | _ => none

/-- R42: the mode codes. -/
def modeOf (b : Byte) : Option ZoneMode :=
  match b.toNat with
  | 0 => some .run
  | 1 => some .halt
  | 2 => some .reset
  | _ => none

/-- R42, R62: the code of a mode. -/
def ZoneMode.code : ZoneMode → Byte
  | .run => 0
  | .halt => 1
  | .reset => 2

/-- R26: the case and jacket policy bytes. -/
def mismatchPolicyOf (b : Byte) : Option MismatchPolicy :=
  match b.toNat with
  | 0 => some .divertPiece
  | 1 => some .holdStation
  | _ => none

/-- R26: the code of a policy. -/
def MismatchPolicy.code : MismatchPolicy → Byte
  | .divertPiece => 0
  | .holdStation => 1

/-- R26: the overdwell policy byte. -/
def overdwellPolicyOf (b : Byte) : Option OverdwellPolicy :=
  match b.toNat with
  | 0 => some .divert
  | 1 => some .passMarked
  | _ => none

/-- R26: the code of an overdwell policy. -/
def OverdwellPolicy.code : OverdwellPolicy → Byte
  | .divert => 0
  | .passMarked => 1

/-- R88: an enabled byte. -/
def boolOf (b : Byte) : Option Bool :=
  match b.toNat with
  | 0 => some false
  | 1 => some true
  | _ => none

/-- R89: an enable byte, 0 off, 1 on, 2 keep; the outcome is the enable to hold. -/
def enableOf (held : Bool) (b : Byte) : Option Bool :=
  match b.toNat with
  | 0 => some false
  | 1 => some true
  | 2 => some held
  | _ => none

/-- R191: the source codes. -/
def lampSourceOf (b : Byte) : Option LampSource :=
  match b.toNat with
  | 0 => some .off
  | 1 => some .on
  | 2 => some .allRun
  | 3 => some .anyHalt
  | 4 => some .attention
  | 5 => some .lostPresent
  | 6 => some .cold
  | 7 => some .deliverPulse
  | 8 => some .divertPulse
  | _ => none

/-- R192: the polarity codes. -/
def polarityOf (b : Byte) : Option Polarity :=
  match b.toNat with
  | 0 => some .activeHigh
  | 1 => some .activeLow
  | _ => none

/-- R192: the stretch codes, in milliseconds. -/
def stretchOf (b : Byte) : Option Nat :=
  match b.toNat with
  | 0 => some 50
  | 1 => some 100
  | 2 => some 200
  | 3 => some 500
  | _ => none

/-- R164: the role codes. -/
def roleOf (b : Byte) : Option Role :=
  match b.toNat with
  | 1 => some .infeed
  | 2 => some .casing
  | 3 => some .press
  | 4 => some .jacketing
  | 5 => some .gate
  | _ => none

/-- R164, R176: the code of a claimed role, 0 when absent. -/
def roleCode : Option Role → Byte
  | none => 0
  | some .infeed => 1
  | some .casing => 2
  | some .press => 3
  | some .jacketing => 4
  | some .gate => 5

/-- R176: the code of a standing, 0 when absent. -/
def standingCode : Option Standing → Byte
  | none => 0
  | some .assigned => 1
  | some .conflict => 2

/-- R163: the order and tag bytes of an order, as a POLL carries them and READ_STATION shows them. -/
def orderBytes : Option Order → List Byte
  | none => [0, 0]
  | some (.gate .deliver t) => [1, byteOf t.val]
  | some (.gate .deliverMarked t) => [2, byteOf t.val]
  | some (.gate .divert t) => [3, byteOf t.val]
  | some .jawRelease => [4, 0]

end Sys2Proof.Machine

namespace Sys2Proof

/-- The zone that a conveyor belongs to. -/
def ConveyorZone.zone : ConveyorZone → Zone
  | .z1 => .z1
  | .z2 => .z2
  | .z4 => .z4
  | .z5 => .z5

/-- 3.1, R39: how many pieces a conveyor queue may hold. -/
def ConveyorZone.capacity : ConveyorZone → Nat
  | .z1 => 24
  | .z2 => 8
  | .z4 => 12
  | .z5 => 12

end Sys2Proof
end

