-- ==== Sys2Proof/Machine/Ops.lean ====
section
/-! DEFINITION. The named operations over records, jobs, stations and places that the meanings share:
moves between places, losses, retirement with all its effects, entry of a zone into RESET, holders of
roles, and the disposition. -/

namespace Sys2Proof.Machine

/-! ### Records, jobs, stations, conveyors by name -/

/-- R1: the record of a tag, none when the tag is free. -/
def State.piece (s : State) (t : Tag) : Option Piece := s.pool[t]

/-- Writes or frees the record of a tag. -/
def State.setPiece (s : State) (t : Tag) (p : Option Piece) : State := { s with pool := s.pool.set t p }

/-- Changes the record of a tag, when it is in use. -/
def State.updatePiece (s : State) (t : Tag) (f : Piece → Piece) : State := s.setPiece t ((s.piece t).map f)

/-- Changes the record of each tag of a list once, when it is in use. -/
def State.updatePieces (s : State) (ts : List Tag) (f : Piece → Piece) : State :=
  { s with pool := Vector.ofFn fun t => if t ∈ ts then (s.piece t).map f else s.piece t }

/-- R11: the record with a fault added. -/
def Piece.addFault (p : Piece) (k : FaultKind) : Piece := { p with faults := p.faults.add k }

/-- R11: adds a fault to the record of a tag. -/
def State.addFault (s : State) (k : FaultKind) (t : Tag) : State := s.updatePiece t (·.addFault k)

/-- The job of a slot, none when the slot is EMPTY. -/
def State.job (s : State) (j : JobSlot) : Option Job := s.jobs[j]

/-- Writes or empties a job slot. -/
def State.setJob (s : State) (j : JobSlot) (b : Option Job) : State := { s with jobs := s.jobs.set j b }

/-- The job of a piece, when it has one. -/
def State.jobOf (s : State) (p : Piece) : Option Job := p.job.bind s.job

/-- R25: the slot that holds a key and is not EMPTY, with its job. -/
def State.findJob (s : State) (key : Word32) : Option (JobSlot × Job) :=
  (List.finRange 32).findSome? fun j =>
    match s.job j with
    | some b => if b.key = key then some (j, b) else none
    | none => none

/-- R170: the entry of an address. -/
def State.station (s : State) (a : Address) : Station := s.stations[a]

/-- Writes the entry of an address. -/
def State.setStation (s : State) (a : Address) (st : Station) : State :=
  { s with stations := s.stations.set a st }

/-- What a conveyor zone holds. -/
def State.conveyor (s : State) : ConveyorZone → Conveyor
  | .z1 => s.z1
  | .z2 => s.z2
  | .z4 => s.z4
  | .z5 => s.z5

/-- Writes what a conveyor zone holds. -/
def State.setConveyor (s : State) (z : ConveyorZone) (c : Conveyor) : State :=
  match z with
  | .z1 => { s with z1 := c }
  | .z2 => { s with z2 := c }
  | .z4 => { s with z4 := c }
  | .z5 => { s with z5 := c }

/-- Sets a zone's mode; its hold output follows in the same step (R41). -/
def State.setMode (s : State) (z : Zone) (m : ZoneMode) : State :=
  match z with
  | .z1 => { s with z1 := { s.z1 with mode := m } }
  | .z2 => { s with z2 := { s.z2 with mode := m } }
  | .z3 => { s with z3Mode := m }
  | .z4 => { s with z4 := { s.z4 with mode := m } }
  | .z5 => { s with z5 := { s.z5 with mode := m } }

/-- R111: the command is taken at this reading of the time base. -/
def State.atReading (s : State) (now : Word32) : State := { s with timeBase := now }

/-! ### The free tags (R1, R2) -/

/-- R2: the lowest-numbered free tag. -/
def State.lowestFree (s : State) : Option Tag := (List.finRange 96).find? fun t => (s.piece t).isNone

/-- R1: how many tags are free. -/
def State.freeCount (s : State) : Nat := (List.finRange 96).countP fun t => (s.piece t).isNone

/-! ### Holders of roles and the disposition -/

/-- R170: the station that holds a role, the one that claims it with standing ASSIGNED. -/
def State.holder (s : State) (r : Role) : Option Address :=
  (List.finRange 8).find? fun a => (s.station a).role = some r && (s.station a).standing = some .assigned

/-- Whether a role has a holder with an ability, as the table stands. -/
def State.holderHas (s : State) (r : Role) (a : Ability) : Bool :=
  match s.holder r with
  | some h => hasAbility (s.station h).abilities a
  | none => false

/-- R15. -/
def State.disposition (s : State) (p : Piece) : Disposition :=
  if p.faults = 0 then .deliver
  else if p.faults = FaultKind.overdwell.bit then
    match s.jobOf p with
    | some b =>
      if b.overdwellPolicy = .passMarked && s.holderHas .gate .mark then .deliverMarked else .divert
    | none => .divert
  else .divert

/-! ### Places -/

/-- Takes a tag out of a one-piece place, when it is there. -/
def emptyOf (t : Tag) (place : Option Tag) : Option Tag := if place = some t then none else place

/-- Takes a tag out of a queue; the pieces behind close up in their order (R18, R39). -/
def Conveyor.without (c : Conveyor) (t : Tag) : Conveyor := { c with queue := c.queue.filter (· ≠ t) }

/-- Withdraws waiting gate orders from every station's order queue; the others keep their order (R175). -/
def State.withdrawGateOrders (s : State) (which : Disposition → Tag → Bool) : State :=
  { s with stations := s.stations.map fun st =>
      { st with orders := st.orders.filter fun
          | .gate o t => !which o t
          | .jawRelease => true } }

/-- R18, step 1: takes a piece out of its place, its waiting gate order with it. A piece is in one
place (R13), so taking it out of every place is taking it out of that one. -/
def State.takeOut (s : State) (t : Tag) : State :=
  { s with
    z1 := s.z1.without t
    z2 := s.z2.without t
    z4 := s.z4.without t
    z5 := s.z5.without t
    casing := emptyOf t s.casing
    pressEntry := emptyOf t s.pressEntry
    jacketing := emptyOf t s.jacketing
    press := { s.press with positions := s.press.positions.map (emptyOf t) }
    gateQueue := s.gateQueue.filter (· ≠ t)
    lost := s.lost.filter (· ≠ t) }.withdrawGateOrders fun _ u => u = t

/-- R48: a piece joins the tail of a conveyor queue, with its entry count the encoder's count now. -/
def State.joinQueue (s : State) (z : ConveyorZone) (t : Tag) : State :=
  let c := s.conveyor z
  (s.setConveyor z { c with queue := c.queue ++ [t] }).updatePiece t fun p =>
    { p with place := .conveyor z, entryCount := some c.encoder }

/-- R7: a piece is put in a place other than a conveyor queue: its entry count becomes absent. -/
def Piece.putIn (p : Piece) (place : Place) : Piece := { p with place := place, entryCount := none }

/-- R58: a piece, already out of its former place, gains TRACKING and joins the tail of the lost set;
attention TRACKING is raised. -/
def State.lose (s : State) (t : Tag) : State :=
  ({ s with lost := s.lost ++ [t] }.updatePiece t fun p => (p.addFault .tracking).putIn .lost).raise .tracking

/-- R12: the loss position of a tag, 0 when it is not in the lost set. -/
def State.lossPosition (s : State) (t : Tag) : Nat := if t ∈ s.lost then s.lost.idxOf t + 1 else 0

/-- The pieces in the heated positions 1 to 8 (7.1). -/
def State.heated (s : State) : List Tag := ((s.press.positions.toList.drop 1).take 8).filterMap id

/-- R43: the pieces in the places a zone owns. -/
def State.piecesOf (s : State) : Zone → List Tag
  | .z1 => s.z1.queue ++ s.casing.toList
  | .z2 => s.z2.queue ++ s.pressEntry.toList
  | .z3 => s.press.positions.toList.filterMap id
  | .z4 => s.z4.queue ++ s.jacketing.toList
  | .z5 => s.z5.queue ++ s.gateQueue

/-! ### Retirement (R17, R18, R155) -/

/-- R17: the kinds of retirement. -/
inductive Retirement where
  | delivered | diverted | spoiled
deriving DecidableEq, Repr

/-- R33, R34: the counts of a job after a retirement of one of its pieces. -/
def Job.settled (b : Job) (k : Retirement) : Job :=
  match k with
  | .delivered => { b with live := b.live - 1, good := b.good + 1 }
  | .diverted => { b with live := b.live - 1, diverted := min (b.diverted + 1) 65535 }
  | .spoiled => { b with live := b.live - 1, spoiled := min (b.spoiled + 1) 65535 }

/-- R76: what the copy entry of a clean block becomes. -/
def Retirement.copyState (k : Retirement) (verified : Bool) : CopyState :=
  match k with
  | .delivered => if verified then .delivered else .deliveredUnverified
  | .diverted => .spoiled
  | .spoiled => .spoiled

/-- R76: the entry of a copy number, when it is in the copy range. -/
def State.copyEntry (s : State) (n : Numbering) (copy : Nat) : Option CopyState :=
  if n.first ≤ copy ∧ copy ≤ n.last then (s.copyTables[n.table])[copy - n.first]? else none

/-- Writes the entry of a copy number, when it is in the copy range. -/
def State.setCopyEntry (s : State) (n : Numbering) (copy : Nat) (c : CopyState) : State :=
  if n.first ≤ copy ∧ copy ≤ n.last then
    { s with copyTables := s.copyTables.set n.table ((s.copyTables[n.table]).set (copy - n.first) c) }
  else s

/-- R155, step 2: the copy entry of a retired piece of a job. -/
def State.settleCopy (s : State) (k : Retirement) (p : Piece) (b : Job) : State :=
  match b.numbered, p.copy with
  | some n, some copy =>
    if p.faults.cleanCopy then s.setCopyEntry n copy (k.copyState p.copyVerified) else s
  | _, _ => s

/-- R23: a job slot becomes EMPTY, and the copy table of a numbered job is released. -/
def State.emptyJob (s : State) (j : JobSlot) (b : Job) : State :=
  match b.numbered with
  | some n => { s.setJob j none with copyTables := s.copyTables.set n.table [] }
  | none => s.setJob j none

/-- R35: a job goes to COMPLETE, and attention JOB_COMPLETE is raised. -/
def State.completeJob (s : State) (j : JobSlot) (b : Job) : State :=
  (s.setJob j (some { b with state := .complete })).raise .jobComplete

/-- R155, steps 1 to 4: the job and copy table effects of a retirement. -/
def State.settleJob (s : State) (k : Retirement) (p : Piece) : State :=
  match p.job with
  | none => s
  | some j =>
    match s.job j with
    | none => s
    | some b =>
      let b' := b.settled k
      let s := (s.setJob j (some b')).settleCopy k p b
      if k = .delivered ∧ b'.state = .running ∧ b'.ordered ≤ b'.good then s.completeJob j b'
      else if b'.state = .closing ∧ b'.live = 0 then s.emptyJob j b'
      else s

/-- R155, step 5, R156: the pulse of a retirement. -/
def State.retirePulse (s : State) (k : Retirement) : State :=
  match k with
  | .delivered => s.pulse .deliverPulse
  | .diverted => s.pulse .divertPulse
  | .spoiled => s

/-- R18: a retirement. The piece leaves its place, its job, copy and lamp effects are made from the
record as it stands, and the tag is freed. A free tag has nothing to settle. -/
def State.retire (s : State) (k : Retirement) (t : Tag) : State :=
  match s.piece t with
  | none => s.takeOut t
  | some p => (((s.takeOut t).settleJob k p).retirePulse k).setPiece t none

/-- R19: one event retires several pieces. -/
def State.retireAll (s : State) (k : Retirement) (ts : List Tag) : State := ts.foldl (fun s t => s.retire k t) s

/-- R149, R152, R153: a piece gains GATE_UNCONFIRMED and is retired as diverted in the same step. -/
def State.divertUnconfirmed (s : State) (t : Tag) : State := (s.addFault .gateUnconfirmed t).retire .diverted t

/-- Each piece of a list gains GATE_UNCONFIRMED and is retired as diverted. -/
def State.divertAllUnconfirmed (s : State) (ts : List Tag) : State := ts.foldl State.divertUnconfirmed s

/-! ### Handovers and RESET -/

/-- R55, R56, R124, R134, R142: a piece, already out of its former place, is handed into a conveyor
zone: retired spoiled when the zone is in RESET (R44), lost when its queue is full, otherwise at the
queue's tail. -/
def State.handOver (s : State) (z : ConveyorZone) (t : Tag) : State :=
  if (s.conveyor z).mode = .reset then s.retire .spoiled t
  else if z.capacity ≤ (s.conveyor z).queue.length then s.lose t
  else s.joinQueue z t

/-- R117, R127: the overdwell timer is stopped, a deferred expiry with it. -/
def State.stopOverdwell (s : State) : State :=
  { s with press := { s.press with overdwellTimer := none, overdwellDeferred := false } }

/-- R43, R127, R130, R154: a zone that is not in RESET enters it: its pieces are retired spoiled, and
what belongs to the zone beside its pieces is cleared as its chapter gives. -/
def State.enterReset (s : State) (z : Zone) : State :=
  if s.mode z = .reset then s
  else
    let s := (s.setMode z .reset).retireAll .spoiled (s.piecesOf z)
    match z with
    | .z1 => { s with casingMismatch := 0 }
    | .z2 => s
    | .z3 => s.stopOverdwell
    | .z4 => { s with jacketingMismatch := 0 }
    | .z5 => s.withdrawGateOrders fun _ _ => true

/-- R45, R52, R57: the zone tracker halts a zone. -/
def State.haltZone (s : State) (z : ConveyorZone) : State := s.setMode z.zone .halt

end Sys2Proof.Machine
end

