-- ==== Sys2Proof/Machine/Frames.lean ====
section
/-! DEFINITION. The frames of the two lines: the supervisor port's command and response frames (R179 to
R182) with the decoder and encoder of every host command, and the station link's frames with their
marks, escapes, CRC and payloads (R160 to R165). -/

namespace Sys2Proof.Machine

/-! ### Responses (R181) -/

/-- R181: the status codes. -/
inductive Status where
  | ok | badFrame | unknownCommand | badValue | noSuchJob | duplicateKey | tableFull | copyTableFull
  | wrongState | noSuchPiece | zoneFull | notReady
deriving DecidableEq, Repr

/-- R181. -/
def Status.code : Status → Byte
  | .ok => 0x00
  | .badFrame => 0x01
  | .unknownCommand => 0x02
  | .badValue => 0x03
  | .noSuchJob => 0x04
  | .duplicateKey => 0x05
  | .tableFull => 0x06
  | .copyTableFull => 0x07
  | .wrongState => 0x08
  | .noSuchPiece => 0x09
  | .zoneFull => 0x0A
  | .notReady => 0x0B

/-- What a command answers: a status and its data. -/
structure Reply where
  status : Status
  data : List Byte
deriving DecidableEq, Repr

/-- A command carried out, with its data. -/
def Reply.ok (data : List Byte) : Reply := { status := .ok, data := data }

/-- A refusal by status code: it carries no data (R181). -/
def Reply.refuse (status : Status) : Reply := { status := status, data := [] }

/-- R183, R185: the code of the check result. -/
def CheckResult.code : CheckResult → Byte
  | .running => 0
  | .pass => 1
  | .fail => 2

/-- R181: NOT_READY carries the check result. -/
def Reply.notReady (c : CheckResult) : Reply := { status := .notReady, data := [c.code] }

/-- R181: the response frame. -/
def Reply.frame (r : Reply) : List Byte :=
  let body := r.status.code :: byteOf r.data.length :: r.data
  body ++ [checkByte body]

/-- R180: the response of a judged frame of `written` bytes replaces any response held. In a write the
port clocks out 0xFF throughout (R178). -/
def State.respond (s : State) (written : Nat) (r : Reply) : State :=
  { s with response := some r.frame, clockedOut := List.replicate written 0xFF }

/-- R179: a command whose frame, with `params` parameter bytes, has passed checks 1 to 3. It is
answered NOT_READY unless the power-up check has passed (check 4), and otherwise taken whole. -/
def State.command (s : State) (params : Nat) (body : State → Reply × State) : State :=
  if s.check = .pass then (body s).2.respond (params + 3) (body s).1
  else s.respond (params + 3) (.notReady s.check)

/-- R183 to R185, R190: IDENTIFY and READ_STATUS are taken also after a failed check. -/
def State.commandAfterCheck (s : State) (params : Nat) (body : State → Reply × State) : State :=
  if s.check = .running then s.respond (params + 3) (.notReady s.check)
  else (body s).2.respond (params + 3) (body s).1

/-! ### Command frames (R179, R182) -/

/-- R182: the parameter count of each command code; none where the code names no command. -/
def parameterCount (code : Byte) : Option Nat :=
  match code.toNat with
  | 0x01 => some 0
  | 0x02 => some 0
  | 0x03 => some 2
  | 0x04 => some 2
  | 0x05 => some 4
  | 0x10 => some 26
  | 0x11 => some 4
  | 0x12 => some 4
  | 0x13 => some 7
  | 0x14 => some 4
  | 0x15 => some 1
  | 0x16 => some 4
  | 0x17 => some 4
  | 0x20 => some 12
  | 0x21 => some 2
  | 0x22 => some 7
  | 0x23 => some 3
  | 0x28 => some 3
  | 0x29 => some 4
  | 0x2A => some 0
  | 0x30 => some 5
  | 0x31 => some 2
  | 0x32 => some 1
  | 0x33 => some 0
  | 0x38 => some 3
  | 0x39 => some 1
  | 0x3A => some 3
  | 0x3B => some 4
  | 0x40 => some 1
  | _ => none

/-- R26: the parameters of LOAD_JOB. -/
def parseJobParams : List Byte → Option JobParams
  | [k0, k1, k2, k3, n0, n1, t0, t1, c0, c1, c2, j0, j1, j2, f0, f1, l0, l1, co, o0, o1, al, cp, jp, ml, op] =>
    some
      { key := join32 k0 k1 k2 k3
        nominal := join16 n0 n1
        tolerance := join16 t0 t1
        caseCode := join24 c0 c1 c2
        jacketCode := join24 j0 j1 j2
        firstCopy := join16 f0 f1
        lastCopy := join16 l0 l1
        classOverride := co
        ordered := join16 o0 o1
        allowance := al
        casePolicy := cp
        jacketPolicy := jp
        mismatchLimit := ml
        overdwellPolicy := op }
  | _ => none

/-- R90: the figures of WRITE_CLASS. -/
def parseClassParams : List Byte → Option ClassParams
  | [b0, b1, k0, k1, t0, t1, c0, c1, g, m0, m1] =>
    some
      { base := join16 b0 b1
        rate := join16 k0 k1
        nominalTemp := join16 t0 t1
        coldLimit := join16 c0 c1
        gain := g
        factor := join16 m0 m1 }
  | _ => none

/-- Commands without parameters. -/
def parse0 (i : Instr) : List Byte → Option Instr
  | [] => some i
  | _ => none

/-- Commands with one byte of parameters. -/
def parse1 (f : Byte → Instr) : List Byte → Option Instr
  | [a] => some (f a)
  | _ => none

/-- Commands with two bytes of parameters. -/
def parse2 (f : Byte → Byte → Instr) : List Byte → Option Instr
  | [a, b] => some (f a b)
  | _ => none

/-- Commands with three bytes of parameters. -/
def parse3 (f : Byte → Byte → Byte → Instr) : List Byte → Option Instr
  | [a, b, c] => some (f a b c)
  | _ => none

/-- Commands with four bytes of parameters. -/
def parse4 (f : Byte → Byte → Byte → Byte → Instr) : List Byte → Option Instr
  | [a, b, c, d] => some (f a b c d)
  | _ => none

/-- SET_ZONE (R46). -/
def parseSetZone : List Byte → Option Instr
  | [z, l0, l1, w0, w1] => some (.setZone z (join16 l0 l1) (join16 w0 w1))
  | _ => none

/-- AMEND_JOB (R30). -/
def parseAmendJob : List Byte → Option Instr
  | [k0, k1, k2, k3, o0, o1, al] => some (.amendJob (join32 k0 k1 k2 k3) (join16 o0 o1) al)
  | _ => none

/-- WRITE_RANGE (R88). -/
def parseWriteRange : List Byte → Option Instr
  | [r, e, l0, l1, h0, h1, c] => some (.writeRange r e (join16 l0 l1) (join16 h0 h1) c)
  | _ => none

/-- WRITE_CLASS (R90). -/
def parseWriteClass : List Byte → Option Instr
  | c :: ps => (parseClassParams ps).map (.writeClass c)
  | [] => none

/-- R182: the command that a code and its parameter bytes spell; `time` is the reading at which the
frame is judged. -/
def parseCommand (time : Word32) (code : Byte) (ps : List Byte) : Option Instr :=
  match code.toNat with
  | 0x01 => parse0 .identify ps
  | 0x02 => parse0 .readStatus ps
  | 0x03 => parse2 (fun a b => .ackAttention (join16 a b)) ps
  | 0x04 => parse2 (fun a b => .setAttentionEnable (join16 a b)) ps
  | 0x05 => parse4 .setLamp ps
  | 0x10 => (parseJobParams ps).map .loadJob
  | 0x11 => parse4 (fun a b c d => .releaseJob (join32 a b c d)) ps
  | 0x12 => parse4 (fun a b c d => .holdJob (join32 a b c d)) ps
  | 0x13 => parseAmendJob ps
  | 0x14 => parse4 (fun a b c d => .closeJob (join32 a b c d)) ps
  | 0x15 => parse1 .readJob ps
  | 0x16 => parse4 (fun a b c d => .findJob (join32 a b c d)) ps
  | 0x17 => parse4 (fun a b c d => .readCopies a (join16 b c) d) ps
  | 0x20 => parseWriteClass ps
  | 0x21 => parse2 .writeBin ps
  | 0x22 => parseWriteRange ps
  | 0x23 => parse3 .setClassTable ps
  | 0x28 => parse3 .setFilter ps
  | 0x29 => parse4 (fun a b c d => .setJawTimes (join16 a b) (join16 c d)) ps
  | 0x2A => parse0 (.readPress time) ps
  | 0x30 => parseSetZone ps
  | 0x31 => parse2 .setZoneMode ps
  | 0x32 => parse1 .readZone ps
  | 0x33 => parse0 .lineClear ps
  | 0x38 => parse3 (fun a b c => .readPiece a (join16 b c)) ps
  | 0x39 => parse1 .listLost ps
  | 0x3A => parse3 (fun a b c => .resolveLost a (join16 b c)) ps
  | 0x3B => parse4 (fun a b c d => .reinstate a (join16 b c) d) ps
  | 0x40 => parse1 .readStation ps
  | _ => none

/-- What checks 1 to 3 of R179 make of a written frame. -/
inductive Judged where
  | badFrame
  | unknownCommand
  | command (i : Instr)
deriving DecidableEq, Repr

/-- R179, checks 1 to 3; the first that fails gives the response. -/
def judgeFrame (time : Word32) (written : List Byte) : Judged :=
  match written with
  | code :: n :: rest =>
    if rest.length = 0 ∨ 60 < n.toNat ∨ written.length ≠ n.toNat + 3 ∨ byteSum written ≠ 0 then .badFrame
    else
      match parameterCount code with
      | none => .unknownCommand
      | some k =>
        if n.toNat ≠ k then .badFrame
        else
          match parseCommand time code (rest.take k) with
          | some i => .command i
          | none => .badFrame
  | _ => .badFrame

/-- R182: the code of a host command; none for what is no host command. -/
def commandCode : Instr → Option Byte
  | .identify => some 0x01
  | .readStatus => some 0x02
  | .ackAttention _ => some 0x03
  | .setAttentionEnable _ => some 0x04
  | .setLamp _ _ _ _ => some 0x05
  | .loadJob _ => some 0x10
  | .releaseJob _ => some 0x11
  | .holdJob _ => some 0x12
  | .amendJob _ _ _ => some 0x13
  | .closeJob _ => some 0x14
  | .readJob _ => some 0x15
  | .findJob _ => some 0x16
  | .readCopies _ _ _ => some 0x17
  | .writeClass _ _ => some 0x20
  | .writeBin _ _ => some 0x21
  | .writeRange _ _ _ _ _ => some 0x22
  | .setClassTable _ _ _ => some 0x23
  | .setFilter _ _ _ => some 0x28
  | .setJawTimes _ _ => some 0x29
  | .readPress _ => some 0x2A
  | .setZone _ _ _ => some 0x30
  | .setZoneMode _ _ => some 0x31
  | .readZone _ => some 0x32
  | .lineClear => some 0x33
  | .readPiece _ _ => some 0x38
  | .listLost _ => some 0x39
  | .resolveLost _ _ => some 0x3A
  | .reinstate _ _ _ => some 0x3B
  | .readStation _ => some 0x40
  | .powerOn _ _ => none
  | .memoryCheckPass => none
  | .memoryCheckFail => none
  | .unknownCommand _ => none
  | .responseRead _ => none
  | .forwardAdvance _ => none
  | .reverseAdvance _ => none
  | .exitEyeLeadingEdge _ _ => none
  | .pressIndex _ => none
  | .jawContactAsserted _ => none
  | .jawContactReleased _ => none
  | .hitTimerExpiry _ => none
  | .bridgeTimerExpiry _ => none
  | .overdwellTimerExpiry _ => none
  | .lampStretchExpiry _ _ => none
  | .poll => none
  | .replyFrame _ => none
  | .replyTimeout _ => none
  | .interByteGapExpiry _ => none
  | .frameAbandoned _ _ => none
  | .linkByteReceived _ => none

/-- R26: the parameter bytes of LOAD_JOB. -/
def jobParamBytes (p : JobParams) : List Byte :=
  split32 p.key ++ split16 p.nominal ++ split16 p.tolerance ++ split24 p.caseCode ++ split24 p.jacketCode
    ++ split16 p.firstCopy ++ split16 p.lastCopy ++ [p.classOverride] ++ split16 p.ordered
    ++ [p.allowance, p.casePolicy, p.jacketPolicy, p.mismatchLimit, p.overdwellPolicy]

/-- R90: the figure bytes of WRITE_CLASS. -/
def classParamBytes (p : ClassParams) : List Byte :=
  split16 p.base ++ split16 p.rate ++ split16 p.nominalTemp ++ split16 p.coldLimit ++ [p.gain]
    ++ split16 p.factor

/-- The parameter bytes of a host command, in the order its chapter sends them. -/
def parameterBytes : Instr → List Byte
  | .ackAttention m => split16 m
  | .setAttentionEnable m => split16 m
  | .setLamp l src pol str => [l, src, pol, str]
  | .loadJob p => jobParamBytes p
  | .releaseJob k => split32 k
  | .holdJob k => split32 k
  | .amendJob k o al => split32 k ++ split16 o ++ [al]
  | .closeJob k => split32 k
  | .readJob j => [j]
  | .findJob k => split32 k
  | .readCopies j f n => [j] ++ split16 f ++ [n]
  | .writeClass c p => c :: classParamBytes p
  | .writeBin b c => [b, c]
  | .writeRange r e l h c => [r, e] ++ split16 l ++ split16 h ++ [c]
  | .setClassTable m f d => [m, f, d]
  | .setFilter n k w => [n, k, w]
  | .setJawTimes h b => split16 h ++ split16 b
  | .setZone z l w => [z] ++ split16 l ++ split16 w
  | .setZoneMode z m => [z, m]
  | .readZone z => [z]
  | .readPiece t a => [t] ++ split16 a
  | .listLost p => [p]
  | .resolveLost t a => [t] ++ split16 a
  | .reinstate t a z => [t] ++ split16 a ++ [z]
  | .readStation a => [a]
  | _ => []

/-- R179: the frame by which the host writes a command; none for what is no host command. -/
def commandFrame (i : Instr) : Option (List Byte) :=
  (commandCode i).map fun code =>
    let body := code :: byteOf (parameterBytes i).length :: parameterBytes i
    body ++ [checkByte body]

/-! ### Link frames (R160 to R162) -/

/-- One bit of the CRC register: generator x^16 + x^15 + x^2 + 1, most significant bit first. -/
def crcBit (c : Word16) : Word16 := if c.msb then (c <<< 1) ^^^ 0x8005 else c <<< 1

/-- One byte taken into the CRC register. -/
def crcByte (c : Word16) (b : Byte) : Word16 :=
  (List.range 8).foldl (fun c _ => crcBit c) (c ^^^ (b.setWidth 16 <<< 8))

/-- R160: the check over bytes, the register preset to all ones, with no final complement. -/
def crc16 (bs : List Byte) : Word16 := bs.foldl crcByte 0xFFFF

/-- R160: the START mark. -/
def startMark : Byte := 0xF2
/-- R160: the END mark. -/
def endMark : Byte := 0xF3
/-- R160: the escape byte. -/
def escapeMark : Byte := 0xF4

/-- R160: the frame kinds. -/
def kindPoll : Byte := 0x50
/-- R160. -/
def kindVerdict : Byte := 0x56
/-- R160. -/
def kindReply : Byte := 0x5A

/-- R160: a frame's content, CRC included. -/
def frameContent (destination source kind : Byte) (payload : List Byte) : List Byte :=
  let body := destination :: source :: kind :: byteOf payload.length :: payload
  body ++ split16 (crc16 body)

/-- R160: a content byte as it is sent. -/
def escapeByte (b : Byte) : List Byte :=
  if b = startMark ∨ b = endMark ∨ b = escapeMark then [escapeMark, b ^^^ 0x10] else [b]

/-- R160: the bytes of a frame on the line. -/
def onLine (content : List Byte) : List Byte := startMark :: content.flatMap escapeByte ++ [endMark]

/-- R162: the source and payload of a well-formed reply, none when a check discards the frame. -/
def judgeReply (buffer : List Byte) : Option (Byte × List Byte) :=
  match buffer with
  | destination :: source :: kind :: n :: rest =>
    if 32 < n.toNat ∨ buffer.length ≠ n.toNat + 6 then none
    else if crc16 buffer ≠ 0 then none
    else if destination ≠ 0 then none
    else if kind ≠ kindReply then none
    else some (source, rest.take n.toNat)
  | _ => none

/-! ### Payloads (R163 to R165) -/

/-- R164: a report. -/
inductive Report where
  | blockScan (key : Word32) (copy thickness : Word16)
  | caseScan (code : Word24)
  | temp (sample : Word16)
  | jacketScan (code : Word24) (copy : Word16)
  | announce (role abilities : Byte)
deriving DecidableEq, Repr

/-- R164: the report of a non-empty payload, none when it is malformed. -/
def parseReport (payload : List Byte) : Option Report :=
  match payload with
  | [t, k0, k1, k2, k3, c0, c1, h0, h1] =>
    if t = 1 then some (.blockScan (join32 k0 k1 k2 k3) (join16 c0 c1) (join16 h0 h1)) else none
  | [t, c0, c1, c2] => if t = 2 then some (.caseScan (join24 c0 c1 c2)) else none
  | [t, a, b] => if t = 3 then some (.temp (join16 a b)) else if t = 5 then some (.announce a b) else none
  | [t, c0, c1, c2, n0, n1] => if t = 4 then some (.jacketScan (join24 c0 c1 c2) (join16 n0 n1)) else none
  | _ => none

/-- R164: the payload of a report. -/
def Report.bytes : Report → List Byte
  | .blockScan key copy thickness => [1] ++ split32 key ++ split16 copy ++ split16 thickness
  | .caseScan code => [2] ++ split24 code
  | .temp sample => [3] ++ split16 sample
  | .jacketScan code copy => [4] ++ split24 code ++ split16 copy
  | .announce role abilities => [5, role, abilities]

/-- R65: why a block is held at the infeed. -/
inductive HoldReason where
  | zoneStopped | queueFull | noRecord | jobWaiting
deriving DecidableEq, Repr

/-- R165. -/
def HoldReason.code : HoldReason → Byte
  | .zoneStopped => 1
  | .queueFull => 2
  | .noRecord => 3
  | .jobWaiting => 4

/-- R165: the verdicts. -/
inductive Verdict where
  | admitted (tag : Tag) (admission : Word16) (faults : FaultSet)
  | admitReject (tag : Tag) (admission : Word16) (faults : FaultSet)
  | holdFeed (reason : HoldReason)
  | accept
  | skip
  | rejectPass
  | rejectHold
  | hold
deriving DecidableEq, Repr

/-- R165: the payload of a verdict. -/
def Verdict.bytes : Verdict → List Byte
  | .admitted t a f => [0x01, byteOf t.val] ++ split16 a ++ split16 f
  | .admitReject t a f => [0x02, byteOf t.val] ++ split16 a ++ split16 f
  | .holdFeed r => [0x03, r.code]
  | .accept => [0x10]
  | .skip => [0x11]
  | .rejectPass => [0x12]
  | .rejectHold => [0x13]
  | .hold => [0x14]

/-- R159: the direction output is asserted or released. -/
def State.setDirection (s : State) (asserted : Bool) : State :=
  { s with link := { s.link with direction := asserted } }

/-- R159: the CJ40 drives bytes on the line, which it can while its direction output is asserted. -/
def State.drive (s : State) (bytes : List Byte) : State :=
  if s.link.direction then { s with link := { s.link with sent := bytes } } else s

/-- R161: the receiver's state and content buffer. -/
def State.setReceiver (s : State) (rx : RxState) (buffer : List Byte) : State :=
  { s with link := { s.link with rx := rx, buffer := buffer } }

/-- R159 to R161: the CJ40 sends a frame to a station. It asserts its direction output, drives the frame from
its START to its END and releases the line; the receiver is then OUTSIDE with an empty buffer. -/
def State.sendFrame (s : State) (a : Address) (kind : Byte) (payload : List Byte) : State :=
  (((s.setDirection true).drive (onLine (frameContent (addressByte a) 0 kind payload))).setDirection
    false).setReceiver .outside []

end Sys2Proof.Machine
end

