-- ==== Sys2Proof/Machine/Jobs.lean ====
section
/-! DEFINITION. The job table (chapter 2) and the reading of copy tables (R78): the commands that load,
move and read jobs. -/

namespace Sys2Proof.Machine

/-! ### LOAD_JOB (R26, R27) -/

/-- A number within a range, ends included. -/
def within (lo hi n : Nat) : Bool := lo ≤ n && n ≤ hi

/-- R26: the copy range of two copy numbers: both 0 for absent; `none` is a bad value. -/
def copyRangeOf (first last : Word16) : Option (Option (Nat × Nat)) :=
  if first = 0 ∧ last = 0 then some none
  else if first ≠ 0 ∧ last ≠ 0 ∧ first.toNat ≤ last.toNat ∧ last.toNat - first.toNat + 1 ≤ 2048 then
    some (some (first.toNat, last.toNat))
  else none

/-- R26, check 1, for the fields that hold a number in a range of R21. -/
def JobParamsInRange (p : JobParams) : Bool :=
  p.key != 0 && within 40 1600 p.nominal.toNat && within 0 200 p.tolerance.toNat && p.caseCode != 0
    && within 1 60000 p.ordered.toNat && within 1 15 p.mismatchLimit.toNat

/-- R26, check 1: the job that the parameters describe, LOADED and with its counts at 0, and its copy
range; none when any field is outside its range. The copy table is bound later. -/
def jobOfParams (p : JobParams) : Option (Job × Option (Nat × Nat)) :=
  if JobParamsInRange p then
    match copyRangeOf p.firstCopy p.lastCopy, optionalClassOf p.classOverride, mismatchPolicyOf p.casePolicy,
        mismatchPolicyOf p.jacketPolicy, overdwellPolicyOf p.overdwellPolicy with
    | some range, some override, some casePolicy, some jacketPolicy, some overdwell =>
      some
        ({ state := .loaded
           key := p.key
           nominal := p.nominal.toNat
           tolerance := p.tolerance.toNat
           caseCode := p.caseCode
           jacketCode := if p.jacketCode = 0 then none else some p.jacketCode
           numbered := none
           classOverride := override
           ordered := p.ordered.toNat
           allowance := p.allowance.toNat
           casePolicy := casePolicy
           jacketPolicy := jacketPolicy
           mismatchLimit := p.mismatchLimit.toNat
           overdwellPolicy := overdwell
           good := 0
           diverted := 0
           spoiled := 0
           live := 0 }, range)
    | _, _, _, _, _ => none
  else none

/-- R27: the lowest-numbered EMPTY slot. -/
def State.lowestEmpty (s : State) : Option JobSlot := (List.finRange 32).find? fun j => (s.job j).isNone

/-- R24: whether a copy table is bound to a job slot that is not EMPTY. -/
def State.tableInUse (s : State) (t : CopyTableId) : Bool :=
  (List.finRange 32).any fun j =>
    match s.job j with
    | some b => b.numbered.any fun n => n.table == t
    | none => false

/-- R24: a free copy table; which one is not seen from outside, the lowest is taken (log 7). -/
def State.freeTable (s : State) : Option CopyTableId := (List.finRange 4).find? fun t => !s.tableInUse t

/-- R24, R27: a job is written to a slot, bound to a copy table of UNSEEN entries when it is numbered. -/
def State.bindJob (s : State) (j : JobSlot) (b : Job) (range : Option (Nat × Nat × CopyTableId)) : State :=
  match range with
  | none => s.setJob j (some b)
  | some (first, last, t) =>
    { s.setJob j (some { b with numbered := some { first := first, last := last, table := t } }) with
      copyTables := s.copyTables.set t (List.replicate (last - first + 1) .unseen) }

/-- R26, R27. -/
def State.loadJob (s : State) (p : JobParams) : Reply × State :=
  match jobOfParams p with
  | none => (.refuse .badValue, s)
  | some (b, range) =>
    if (s.findJob p.key).isSome then (.refuse .duplicateKey, s)
    else
      match s.lowestEmpty with
      | none => (.refuse .tableFull, s)
      | some j =>
        match range with
        | none => (.ok [byteOf j.val], s.bindJob j b none)
        | some (first, last) =>
          match s.freeTable with
          | none => (.refuse .copyTableFull, s)
          | some t => (.ok [byteOf j.val], s.bindJob j b (some (first, last, t)))

/-! ### Commands by key (R28 to R32) -/

/-- R32: the lookup each command by key makes before its own checks. -/
def State.withJob (s : State) (key : Word32) (body : JobSlot → Job → Reply × State) : Reply × State :=
  if key = 0 then (.refuse .badValue, s)
  else
    match s.findJob key with
    | none => (.refuse .noSuchJob, s)
    | some (j, b) => if b.state = .closing then (.refuse .wrongState, s) else body j b

/-- R28. -/
def State.releaseJob (s : State) (key : Word32) : Reply × State :=
  s.withJob key fun j b =>
    if b.state = .loaded ∨ b.state = .held then
      if b.ordered ≤ b.good then (.ok [], s.completeJob j b)
      else (.ok [], s.setJob j (some { b with state := .running }))
    else (.refuse .wrongState, s)

/-- R29. -/
def State.holdJob (s : State) (key : Word32) : Reply × State :=
  s.withJob key fun j b =>
    if b.state = .running then (.ok [], s.setJob j (some { b with state := .held }))
    else (.refuse .wrongState, s)

/-- R30: the state and attention that follow from the amended figures. -/
def State.placeAmended (s : State) (j : JobSlot) (b : Job) : State :=
  if b.state = .running ∧ b.ordered ≤ b.good then s.completeJob j b
  else if b.state = .complete ∧ b.good < b.ordered then s.setJob j (some { b with state := .running })
  else s.setJob j (some b)

/-- R30. -/
def State.amendJob (s : State) (key : Word32) (ordered allowance : Nat) : Reply × State :=
  s.withJob key fun j b =>
    if within 1 60000 ordered && within 0 255 allowance && (b.good + b.live ≤ ordered + allowance : Bool) then
      (.ok [], s.placeAmended j { b with ordered := ordered, allowance := allowance })
    else (.refuse .badValue, s)

/-- R31. -/
def State.closeJob (s : State) (key : Word32) : Reply × State :=
  s.withJob key fun j b =>
    if b.live = 0 then (.ok [], s.emptyJob j b) else (.ok [], s.setJob j (some { b with state := .closing }))

/-! ### Reading jobs and copies (R32, R78) -/

/-- R32: the code of a job's state; 0 is EMPTY. -/
def JobState.code : JobState → Byte
  | .loaded => 1
  | .running => 2
  | .held => 3
  | .complete => 4
  | .closing => 5

/-- R26: an optional class as a byte. -/
def optionalClassByte : Option Class → Byte
  | none => 0xFF
  | some c => byteOf c.val

/-- R32: the 34 bytes of a slot; an EMPTY slot reads all zeros (R23). -/
def jobBytes : Option Job → List Byte
  | none => List.replicate 34 0
  | some b =>
    [b.state.code] ++ split32 b.key ++ bytes16 b.nominal ++ bytes16 b.tolerance ++ split24 b.caseCode
      ++ split24 (b.jacketCode.getD 0)
      ++ (match b.numbered with
          | some n => bytes16 n.first ++ bytes16 n.last
          | none => [0, 0, 0, 0])
      ++ [optionalClassByte b.classOverride] ++ bytes16 b.ordered
      ++ [byteOf b.allowance, b.casePolicy.code, b.jacketPolicy.code, byteOf b.mismatchLimit,
          b.overdwellPolicy.code]
      ++ bytes16 b.good ++ bytes16 b.diverted ++ bytes16 b.spoiled ++ [byteOf b.live]

/-- R32, READ_JOB. -/
def State.readJob (s : State) (slot : Byte) : Reply :=
  match slotOf slot with
  | none => .refuse .badValue
  | some j => .ok (jobBytes (s.job j))

/-- R32, FIND_JOB. -/
def State.readFoundJob (s : State) (key : Word32) : Reply × State :=
  s.withJob key fun j b => (.ok (byteOf j.val :: jobBytes (some b)), s)

/-- R78: the code of a copy entry. -/
def CopyState.code : CopyState → Byte
  | .unseen => 0
  | .inLine => 1
  | .delivered => 2
  | .deliveredUnverified => 3
  | .spoiled => 4

/-- R78, READ_COPIES. -/
def State.readCopies (s : State) (slot : Byte) (first : Word16) (count : Byte) : Reply :=
  match slotOf slot with
  | none => .refuse .badValue
  | some j =>
    if within 1 64 count.toNat then
      match (s.job j).bind Job.numbered with
      | none => .refuse .wrongState
      | some n =>
        if n.first ≤ first.toNat ∧ first.toNat + count.toNat - 1 ≤ n.last then
          .ok ((((s.copyTables[n.table]).drop (first.toNat - n.first)).take count.toNat).map CopyState.code)
        else .refuse .badValue
    else .refuse .badValue

/-! ### Meanings -/

/-- LOAD_JOB, R26 and R27. -/
def execLoadJob (p : JobParams) (s : State) : Host.Outcome State Fault Refusal :=
  .next (s.command 26 fun s => s.loadJob p)

/-- RELEASE_JOB, R28. -/
def execReleaseJob (key : Word32) (s : State) : Host.Outcome State Fault Refusal :=
  .next (s.command 4 fun s => s.releaseJob key)

/-- HOLD_JOB, R29. -/
def execHoldJob (key : Word32) (s : State) : Host.Outcome State Fault Refusal :=
  .next (s.command 4 fun s => s.holdJob key)

/-- AMEND_JOB, R30. -/
def execAmendJob (key : Word32) (ordered : Word16) (allowance : Byte) (s : State) :
    Host.Outcome State Fault Refusal :=
  .next (s.command 7 fun s => s.amendJob key ordered.toNat allowance.toNat)

/-- CLOSE_JOB, R31. -/
def execCloseJob (key : Word32) (s : State) : Host.Outcome State Fault Refusal :=
  .next (s.command 4 fun s => s.closeJob key)

/-- READ_JOB, R32. -/
def execReadJob (slot : Byte) (s : State) : Host.Outcome State Fault Refusal :=
  .next (s.command 1 fun s => (s.readJob slot, s))

/-- FIND_JOB, R32. -/
def execFindJob (key : Word32) (s : State) : Host.Outcome State Fault Refusal :=
  .next (s.command 4 fun s => s.readFoundJob key)

/-- READ_COPIES, R78. -/
def execReadCopies (slot : Byte) (first : Word16) (count : Byte) (s : State) :
    Host.Outcome State Fault Refusal :=
  .next (s.command 4 fun s => (s.readCopies slot first count, s))

end Sys2Proof.Machine
end

