-- ==== Sys2Proof/Machine/Classes.lean ====
section
/-! DEFINITION. Press classes (chapter 5): the class a piece resolves to and the commands that write and
read the class table. -/

namespace Sys2Proof.Machine

/-! ### Resolution (R80 to R85) -/

/-- R80: the class in the fixed bin of a thickness, none for UNSET or 800 and above. -/
def ClassTable.binClass (c : ClassTable) (thickness : Nat) : Option Class :=
  if h : thickness / 50 < 16 then c.bins[thickness / 50] else none

/-- R81. -/
def ClassRange.contains (r : ClassRange) (thickness : Nat) : Bool :=
  r.enabled && r.low ≤ thickness && thickness ≤ r.high

/-- R85: of two classes, the one with the larger base dwell, or the higher number where they are
equal. -/
def ClassTable.heavier (c : ClassTable) (a b : Class) : Class :=
  if (c.records[a]).base < (c.records[b]).base then b
  else if (c.records[b]).base < (c.records[a]).base then a
  else if a.val ≤ b.val then b
  else a

/-- R81: the classes of the enabled ranges that contain a thickness, in range order. -/
def ClassTable.rangeClasses (c : ClassTable) (thickness : Nat) : List Class :=
  (c.ranges.toList.filter fun r => r.contains thickness).map ClassRange.cls

/-- R84, steps 4 to 6. -/
def ClassTable.rangeClass (c : ClassTable) (thickness : Nat) : Class :=
  match c.rangeClasses thickness with
  | [] => c.defaultClass
  | a :: rest => rest.foldl c.heavier a

/-- R84: the class of a thickness under a job's override. -/
def ClassTable.resolve (c : ClassTable) (override : Option Class) (thickness : Nat) : Class :=
  match override with
  | some o => o
  | none =>
    if !c.master then 7
    else
      match (if c.fixed then c.binClass thickness else none) with
      | some b => b
      | none => c.rangeClass thickness

/-! ### Commands (R87 to R90) -/

/-- R87, WRITE_BIN. -/
def State.writeBin (s : State) (bin cls : Byte) : Reply × State :=
  match indexOf 16 bin, optionalClassOf cls with
  | some b, some c => (.ok [], { s with classTable := { s.classTable with bins := s.classTable.bins.set b c } })
  | _, _ => (.refuse .badValue, s)

/-- R88, WRITE_RANGE. -/
def State.writeRange (s : State) (range enabled : Byte) (low high : Word16) (cls : Byte) : Reply × State :=
  match indexOf 8 range, boolOf enabled, classOf cls with
  | some r, some e, some c =>
    if high.toNat ≤ 1600 ∧ low.toNat ≤ high.toNat then
      (.ok [], { s with classTable := { s.classTable with
        ranges := s.classTable.ranges.set r { enabled := e, low := low.toNat, high := high.toNat, cls := c } } })
    else (.refuse .badValue, s)
  | _, _, _ => (.refuse .badValue, s)

/-- R89: the class table as 155 bytes. -/
def ClassTable.bytes (c : ClassTable) : List Byte :=
  [boolByte c.master, boolByte c.fixed, byteOf c.defaultClass.val]
    ++ c.bins.toList.map optionalClassByte
    ++ c.ranges.toList.flatMap (fun r => [boolByte r.enabled] ++ bytes16 r.low ++ bytes16 r.high ++ [byteOf r.cls.val])
    ++ c.records.toList.flatMap (fun r => bytes16 r.base ++ bytes16 r.rate ++ bytes16 r.nominalTemp
        ++ bytes16 r.coldLimit ++ [byteOf r.gain] ++ bytes16 r.factor)

/-- R89: the default class byte, 0xFF keep; the outcome is the class to hold. -/
def keptClassOf (held : Class) (b : Byte) : Option Class := (optionalClassOf b).map fun c => c.getD held

/-- R89, SET_CLASS_TABLE. The readout is the table after the command. -/
def State.setClassTable (s : State) (master fixed defaultClass : Byte) : Reply × State :=
  match enableOf s.classTable.master master, enableOf s.classTable.fixed fixed,
      keptClassOf s.classTable.defaultClass defaultClass with
  | some m, some f, some d =>
    let c := { s.classTable with master := m, fixed := f, defaultClass := d }
    (.ok c.bytes, { s with classTable := c })
  | _, _, _ => (.refuse .badValue, s)

/-- R82, R90: the class record that the figures describe, none when one is outside its range. -/
def recordOfParams (p : ClassParams) : Option ClassRecord :=
  if within 500 20000 p.base.toNat && within 0 2000 p.rate.toNat && within 500 2500 p.nominalTemp.toNat
      && within 0 500 p.coldLimit.toNat && within 110 400 p.factor.toNat then
    some
      { base := p.base.toNat
        rate := p.rate.toNat
        nominalTemp := p.nominalTemp.toNat
        coldLimit := p.coldLimit.toNat
        gain := p.gain.toNat
        factor := p.factor.toNat }
  else none

/-- R90, WRITE_CLASS. -/
def State.writeClass (s : State) (cls : Byte) (p : ClassParams) : Reply × State :=
  match classOf cls, recordOfParams p with
  | some c, some r =>
    (.ok [], { s with classTable := { s.classTable with records := s.classTable.records.set c r } })
  | _, _ => (.refuse .badValue, s)

/-! ### Meanings -/

/-- WRITE_CLASS, R90. -/
def execWriteClass (cls : Byte) (p : ClassParams) (s : State) : Host.Outcome State Fault Refusal :=
  .next (s.command 12 fun s => s.writeClass cls p)

/-- WRITE_BIN, R87. -/
def execWriteBin (bin cls : Byte) (s : State) : Host.Outcome State Fault Refusal :=
  .next (s.command 2 fun s => s.writeBin bin cls)

/-- WRITE_RANGE, R88. -/
def execWriteRange (range enabled : Byte) (low high : Word16) (cls : Byte) (s : State) :
    Host.Outcome State Fault Refusal :=
  .next (s.command 7 fun s => s.writeRange range enabled low high cls)

/-- SET_CLASS_TABLE, R89. -/
def execSetClassTable (master fixed defaultClass : Byte) (s : State) : Host.Outcome State Fault Refusal :=
  .next (s.command 3 fun s => s.setClassTable master fixed defaultClass)

end Sys2Proof.Machine
end

