-- ==== Sys2Proof/Machine/Dwell.lean ====
section
/-! DEFINITION. The dwell unit (chapter 6): the jaw temperature filter and the minimum and maximum dwell
fixed at press entry. -/

namespace Sys2Proof.Machine

/-! ### The filter (R93 to R100) -/

/-- R94. -/
inductive FilterState where
  | off | unloaded | warming | settled
deriving DecidableEq, Repr

/-- R94: the filter state follows from the interval and the sample count. -/
def Filter.state (f : Filter) : FilterState :=
  if f.interval = 0 then .off
  else if f.sampleCount = 0 then .unloaded
  else if f.sampleCount < f.warmup then .warming
  else .settled

/-- R102: the code of a filter state. -/
def FilterState.code : FilterState → Byte
  | .off => 0
  | .unloaded => 1
  | .warming => 2
  | .settled => 3

/-- R95: a sample is clamped to −500 to 3000. -/
def clampSample (sample : Int) : Int := max (-500) (min 3000 sample)

/-- R97: the smoothing step, rounded half up; integer division here is toward minus infinity. -/
def smoothed (shift : Nat) (tf sample : Int) : Int := tf + (sample - tf + 2 ^ (shift - 1)) / 2 ^ shift

/-- R97, R98: a sample is taken into the filter. -/
def Filter.take (f : Filter) (sample : Int) : Filter :=
  { f with
    tf := if f.sampleCount = 0 then sample else smoothed f.shift f.tf sample
    sampleCount := min (f.sampleCount + 1) f.warmup }

/-- R96: a clamped sample meets the interval divider. -/
def Filter.receive (f : Filter) (sample : Int) : Filter :=
  if f.interval = 0 then f
  else if f.reportCounter + 1 < f.interval then { f with reportCounter := f.reportCounter + 1 }
  else { f.take sample with reportCounter := 0 }

/-- R100: the filter becomes unsettled; Tf keeps its value. -/
def Filter.unsettle (f : Filter) : Filter := { f with reportCounter := 0, sampleCount := 0 }

/-- R100. -/
def State.unsettleFilter (s : State) : State := { s with filter := s.filter.unsettle }

/-- R95, R96: a TEMP report of the press station with TEMP_REPORT, its sample signed. -/
def State.takeTemp (s : State) (sample : Word16) : State :=
  { s with filter := s.filter.receive (clampSample sample.toInt) }

/-- R101, SET_FILTER. -/
def State.setFilter (s : State) (interval shift warmup : Byte) : Reply × State :=
  if within 1 6 shift.toNat && warmup != 0 then
    let f := { s.filter with interval := interval.toNat, shift := shift.toNat, warmup := warmup.toNat }
    (.ok [], { s with filter := f.unsettle })
  else (.refuse .badValue, s)

/-! ### Dwell at press entry (R103 to R107) -/

/-- R104: the raw dwell in milliseconds. -/
def rawDwell (r : ClassRecord) (thickness : Nat) : Nat := r.base + (r.rate * thickness + 10) / 20

/-- R105: the temperature deficit. -/
def deficit (f : Filter) (r : ClassRecord) : Nat :=
  match f.state with
  | .off => 0
  | .unloaded => r.coldLimit
  | .warming => r.coldLimit
  | .settled => min (r.nominalTemp - f.tf).toNat r.coldLimit

/-- R105: the settled filter shows the jaws colder than the class allows. -/
def coldPressed (f : Filter) (r : ClassRecord) : Bool :=
  f.state == .settled && (r.coldLimit : Int) < r.nominalTemp - f.tf

/-- R106: the minimum dwell, rounded up and then clamped to 100 to 60000. -/
def minDwell (draw gain delta : Nat) : Nat :=
  min 60000 (max 100 ((draw * (1024 + gain * delta) + 1023) / 1024))

/-- R107: the maximum dwell, raised to Dmin + 200 and then lowered to 65000. -/
def maxDwell (dmin factor : Nat) : Nat := min 65000 (max (dmin + 200) (dmin * factor / 100))

/-- R104 to R107: both limits of a piece from its class record, thickness and the filter. -/
def dwellLimits (f : Filter) (r : ClassRecord) (thickness : Nat) : DwellLimits :=
  let dmin := minDwell (rawDwell r thickness) r.gain (deficit f r)
  { dmin := dmin, dmax := maxDwell dmin r.factor }

/-- R103: the limits of a piece that enters position 0, and COLD_PRESS where R105 finds it. A piece
that has limits from an earlier pass keeps them, and no deficit is taken for it. -/
def State.computeDwell (s : State) (t : Tag) : State :=
  match s.piece t with
  | none => s
  | some p =>
    match p.limits with
    | some _ => s
    | none =>
      let r := s.classTable.records[p.cls]
      let p' := { p with limits := some (dwellLimits s.filter r p.thickness) }
      if coldPressed s.filter r then (s.setPiece t (some (p'.addFault .coldPress))).raise .coldPress
      else s.setPiece t (some p')

/-! ### Meanings -/

/-- SET_FILTER, R101. -/
def execSetFilter (interval shift warmup : Byte) (s : State) : Host.Outcome State Fault Refusal :=
  .next (s.command 3 fun s => s.setFilter interval shift warmup)

end Sys2Proof.Machine
end

