-- ==== Sys2Proof/Machine/Admission.lean ====
section
/-! DEFINITION. The admission unit (chapter 4): what a BLOCK_SCAN report does and the verdict it gets. -/

namespace Sys2Proof.Machine

/-- R69: the job of a scanned key: none when the key names no job or a CLOSING one. -/
def State.admittingJob (s : State) (key : Word32) : Option (JobSlot × Job) :=
  if key = 0 then none
  else
    match s.findJob key with
    | some (j, b) => if b.state = .closing then none else some (j, b)
    | none => none

/-- R68: the thickness field. -/
def admittedThickness (measured : Bool) (b : Option Job) (reported : Nat) : Nat :=
  if measured then min reported 1600
  else
    match b with
    | some b => b.nominal
    | none => 0

/-- R72: the reported value and the nominal differ by more than the tolerance. -/
def offCaliper (b : Job) (reported : Nat) : Bool :=
  b.nominal + b.tolerance < reported || reported + b.tolerance < b.nominal

/-- R70. -/
def overQuantity (b : Job) : Bool :=
  b.state == .complete || (b.state == .running && b.ordered + b.allowance ≤ b.good + b.live)

/-- R73: the copy's entry shows the copy in line or delivered. -/
def takenCopy : Option CopyState → Bool
  | some .inLine => true
  | some .delivered => true
  | some .deliveredUnverified => true
  | some .unseen => false
  | some .spoiled => false
  | none => false

/-- R71: a copy number lies in a numbered job's copy range. -/
def Numbering.inRange (n : Numbering) (copy : Nat) : Bool := n.first ≤ copy && copy ≤ n.last

/-- R71: the copy field. -/
def admittedCopy (b : Option Job) (reported : Nat) : Option Nat :=
  match b.bind Job.numbered with
  | some _ => if reported = 0 then none else some reported
  | none => none

/-- R71, R73: the copy faults. -/
def State.copyFaults (s : State) (b : Job) (reported : Nat) : FaultSet :=
  match b.numbered with
  | none => 0
  | some n =>
    if reported = 0 ∨ n.inRange reported = false then FaultKind.copyRange.bit
    else FaultSet.addIf 0 (takenCopy (s.copyEntry n reported)) .duplicateCopy

/-- R69 to R74: the admission faults. -/
def State.admissionFaults (s : State) (measured : Bool) (b : Option Job) (copy thickness : Nat) : FaultSet :=
  match b with
  | none => FaultKind.unknownJob.bit
  | some b =>
    FaultSet.addIf (FaultSet.addIf (s.copyFaults b copy) (overQuantity b) .overQuantity)
      (measured && offCaliper b thickness) .caliper

/-- R67: the jacket status at admission. -/
def admittedJacket : Option Job → JacketStatus
  | none => .pending
  | some b => if b.jacketCode.isSome then .pending else .notRequired

/-- R67: the new record, before it joins Z1. -/
def State.newPiece (s : State) (measured : Bool) (found : Option (JobSlot × Job)) (copy thickness : Nat) : Piece :=
  let b := found.map Prod.snd
  let t := admittedThickness measured b thickness
  { admission := s.admissionCounter
    job := found.map Prod.fst
    copy := admittedCopy b copy
    thickness := t
    cls := s.classTable.resolve (b.bind Job.classOverride) t
    limits := none
    accumulated := 0
    place := .conveyor .z1
    entryCount := some s.z1.encoder
    caseStatus := .pending
    jacketStatus := admittedJacket b
    copyVerified := false
    faults := s.admissionFaults measured b copy thickness }

/-- R66, steps 4 and 5: the job's live count rises, and the copy entry of a clean block becomes IN_LINE. -/
def State.enterJob (s : State) (found : Option (JobSlot × Job)) (p : Piece) : State :=
  match found with
  | none => s
  | some (j, b) =>
    let s := s.setJob j (some { b with live := b.live + 1 })
    match b.numbered, p.copy with
    | some n, some copy => if p.faults.cleanCopy then s.setCopyEntry n copy .inLine else s
    | _, _ => s

/-- R66: the record is made for a free tag and joins the tail of Z1. -/
def State.admitted (s : State) (t : Tag) (p : Piece) (found : Option (JobSlot × Job)) : State :=
  ({ s.setPiece t (some p) with admissionCounter := s.admissionCounter + 1 }.enterJob found p).joinQueue .z1 t

/-- R74: the verdict of an admitted piece. -/
def admissionVerdict (t : Tag) (p : Piece) : Verdict :=
  if p.faults = 0 then .admitted t p.admission p.faults else .admitReject t p.admission p.faults

/-- R65, row 4: the key names a job that is LOADED or HELD. -/
def State.jobWaits (s : State) (key : Word32) : Bool :=
  match s.admittingJob key with
  | some (_, b) => b.state == .loaded || b.state == .held
  | none => false

/-- R65: a BLOCK_SCAN taken from the infeed station; `measured` is whether that station has THICKNESS. -/
def State.blockScan (s : State) (measured : Bool) (key : Word32) (copy thickness : Word16) : Verdict × State :=
  if s.z1.mode ≠ .run then (.holdFeed .zoneStopped, s)
  else if ConveyorZone.z1.capacity ≤ s.z1.queue.length then (.holdFeed .queueFull, s)
  else
    match s.lowestFree with
    | none => (.holdFeed .noRecord, s.raise .poolExhausted)
    | some t =>
      if s.jobWaits key then (.holdFeed .jobWaiting, s)
      else
        let found := s.admittingJob key
        let p := s.newPiece measured found copy.toNat thickness.toNat
        (admissionVerdict t p, s.admitted t p found)

end Sys2Proof.Machine
end

