-- ==== Sys2Proof/Machine/Gate.lean ====
section
/-! DEFINITION. The gate unit (chapter 9): the decision at X5, the placing of a gate order, the end of
the order in flight and the loss of the gate station. -/

namespace Sys2Proof.Machine

/-- R149: the gate order queue holds at most 4 pieces. -/
def gateCapacity : Nat := 4

/-- R148: the gate order from the jacket status and the disposition. -/
def gateOrder (jacket : JacketStatus) (d : Disposition) : Disposition :=
  match jacket with
  | .pending => .divert
  | .skipped => .divert
  | .married => d
  | .notRequired => d

/-- R149: the order joins the tail of the gate station's order queue and the piece that of the gate order
queue. -/
def State.queueGateOrder (s : State) (a : Address) (order : Disposition) (t : Tag) : State :=
  let st := s.station a
  { s.setStation a { st with orders := st.orders ++ [Order.gate order t] } with
    gateQueue := s.gateQueue ++ [t] }.updatePiece t (·.putIn .gateQueue)

/-- R148, R149: a piece, already out of the Z5 queue, is handed to the gate unit. -/
def State.gateArrival (s : State) (t : Tag) : State :=
  match s.piece t with
  | none => s
  | some p =>
    match s.holder .gate with
    | none => s.divertUnconfirmed t
    | some a =>
      if gateCapacity ≤ s.gateQueue.length then s.divertUnconfirmed t
      else s.queueGateOrder a (gateOrder p.jacketStatus (s.disposition p)) t

/-- R151, R152: the piece that the order in flight names is still in the gate order queue. -/
def State.flightPresent (s : State) (f : GateFlight) : Bool :=
  s.gateQueue.contains f.tag &&
    match s.piece f.tag with
    | some p => p.admission == f.admission
    | none => false

/-- R151: what a confirmed order retires its piece as. -/
def confirmedAs : Disposition → Retirement
  | .deliver => .delivered
  | .deliverMarked => .delivered
  | .divert => .diverted

/-- R151: a valid reply confirms the gate order in flight, and the order in flight is cleared. -/
def State.confirmFlight (s : State) : State :=
  match s.gateInFlight with
  | none => s
  | some f =>
    let s := { s with gateInFlight := none }
    if s.flightPresent f then s.retire (confirmedAs f.order) f.tag else s

/-- R152: silence leaves the gate order in flight unconfirmed, and the order in flight is cleared. -/
def State.failFlight (s : State) : State :=
  match s.gateInFlight with
  | none => s
  | some f =>
    let s := { s with gateInFlight := none }
    if s.flightPresent f then s.divertUnconfirmed f.tag else s

/-- R153: the gate station ceases to hold its role: every piece of the gate order queue is retired as
diverted. -/
def State.loseGateStation (s : State) : State := s.divertAllUnconfirmed s.gateQueue

/-- The tags of the DELIVER_MARKED orders of an order queue. -/
def markedTags (orders : List Order) : List Tag :=
  orders.filterMap fun
    | .gate .deliverMarked t => some t
    | .gate .deliver _ => none
    | .gate .divert _ => none
    | .jawRelease => none

/-- R153: the gate station drops MARK: its waiting DELIVER_MARKED orders are withdrawn and their pieces
retired as diverted. -/
def State.dropMark (s : State) (a : Address) : State :=
  (s.divertAllUnconfirmed (markedTags (s.station a).orders)).withdrawGateOrders fun o _ => o = .deliverMarked

end Sys2Proof.Machine
end

