-- ==== Sys2Proof/Machine/Marriage.lean ====
section
/-! DEFINITION. The marriage checker (chapter 8): the judgement of a CASE_SCAN against the piece in the
casing slot and of a JACKET_SCAN against the piece in the jacketing slot. -/

namespace Sys2Proof.Machine

/-- R8: the case status is settled once; a piece already MARRIED or SKIPPED keeps it. -/
def Piece.settleCase (p : Piece) (c : CaseStatus) : Piece :=
  if p.caseStatus = .pending then { p with caseStatus := c } else p

/-- R9: the jacket status is settled once. -/
def Piece.settleJacket (p : Piece) (j : JacketStatus) : Piece :=
  if p.jacketStatus = .pending then { p with jacketStatus := j } else p

/-- R132, R135, R139: under HOLD_STATION, on a station that can re-feed, another mismatch is still
allowed. -/
def mayHold (policy : MismatchPolicy) (refeed : Bool) (count limit : Nat) : Bool :=
  policy == .holdStation && refeed && (count + 1 < limit : Bool)

/-- R134: the piece in the casing slot leaves it for Z2. -/
def State.leaveCasing (s : State) (t : Tag) : State := { s with casing := none }.handOver .z2 t

/-- R142: the piece in the jacketing slot leaves it for Z5. -/
def State.leaveJacketing (s : State) (t : Tag) : State := { s with jacketing := none }.handOver .z5 t

/-- R132, row 6, R136. -/
def State.passCaseMismatch (s : State) (t : Tag) : State :=
  ((s.updatePiece t fun p => (p.addFault .caseMismatch).settleCase .skipped).raise .mismatch).leaveCasing t

/-- R132, rows 4 to 6: the scan is judged against the piece's job. -/
def State.judgeCase (s : State) (t : Tag) (b : Option Job) (code : Word24) (refeed : Bool) : Verdict × State :=
  match b with
  | none => (.rejectPass, s.passCaseMismatch t)
  | some b =>
    if code = b.caseCode then (.accept, (s.updatePiece t (·.settleCase .married)).leaveCasing t)
    else if mayHold b.casePolicy refeed s.casingMismatch b.mismatchLimit then
      (.rejectHold, { s with casingMismatch := s.casingMismatch + 1 })
    else (.rejectPass, s.passCaseMismatch t)

/-- R132: a CASE_SCAN taken from the casing station; `refeed` is whether it has CASE_REFEED. -/
def State.caseScan (s : State) (code : Word24) (refeed : Bool) : Verdict × State :=
  match s.casing with
  | none => (.hold, s)
  | some t =>
    if s.z2.mode = .halt ∨ ConveyorZone.z2.capacity ≤ s.z2.queue.length then (.hold, s)
    else
      match s.piece t with
      | none => (.hold, s)
      | some p =>
        if s.disposition p = .divert then (.skip, (s.updatePiece t (·.settleCase .skipped)).leaveCasing t)
        else s.judgeCase t (s.jobOf p) code refeed

/-- R140: the jacket scan's copy number is compared. -/
def comparesCopy (b : Job) (copyRead : Bool) : Bool := b.numbered.isSome && copyRead

/-- R140: the scan matches the piece. -/
def jacketMatches (b : Job) (p : Piece) (code : Word24) (copy : Nat) (copyRead : Bool) : Bool :=
  b.jacketCode == some code && (!comparesCopy b copyRead || p.copy == some copy)

/-- R139, row 5, R140, R10: an accepted piece; copy verified, once yes, stays yes. -/
def Piece.acceptJacket (p : Piece) (verified : Bool) : Piece :=
  { p.settleJacket .married with copyVerified := p.copyVerified || verified }

/-- R139, row 7, R136. -/
def State.passJacketMismatch (s : State) (t : Tag) : State :=
  ((s.updatePiece t fun p => (p.addFault .jacketMismatch).settleJacket .skipped).raise .mismatch).leaveJacketing t

/-- R139, rows 5 to 7: the scan is judged against the piece and its job. -/
def State.judgeJacket (s : State) (t : Tag) (p : Piece) (b : Option Job) (code : Word24) (copy : Nat)
    (refeed copyRead : Bool) : Verdict × State :=
  match b with
  | none => (.rejectPass, s.passJacketMismatch t)
  | some b =>
    if jacketMatches b p code copy copyRead then
      (.accept, (s.updatePiece t (·.acceptJacket (comparesCopy b copyRead))).leaveJacketing t)
    else if mayHold b.jacketPolicy refeed s.jacketingMismatch b.mismatchLimit then
      (.rejectHold, { s with jacketingMismatch := s.jacketingMismatch + 1 })
    else (.rejectPass, s.passJacketMismatch t)

/-- R139: a JACKET_SCAN taken from the jacketing station; `refeed` and `copyRead` are whether it has
JACKET_REFEED and COPY_READ. -/
def State.jacketScan (s : State) (code : Word24) (copy : Word16) (refeed copyRead : Bool) : Verdict × State :=
  match s.jacketing with
  | none => (.hold, s)
  | some t =>
    if s.z5.mode = .halt ∨ ConveyorZone.z5.capacity ≤ s.z5.queue.length then (.hold, s)
    else
      match s.piece t with
      | none => (.hold, s)
      | some p =>
        if p.jacketStatus = .notRequired then (.skip, s.leaveJacketing t)
        else if s.disposition p = .divert then
          (.skip, (s.updatePiece t (·.settleJacket .skipped)).leaveJacketing t)
        else s.judgeJacket t p (s.jobOf p) code copy.toNat refeed copyRead

end Sys2Proof.Machine
end

