-- ==== Sys2Proof/Machine/Link.lean ====
section
/-! DEFINITION. The station link controller (chapter 10): the station table and its roles, the poll cycle,
the receiver, and the effects of a valid reply and of silence. -/

namespace Sys2Proof.Machine

/-! ### Roles (R171 to R174) -/

/-- R173: the PRESENT stations that claim a role. -/
def State.claimants (s : State) (r : Role) : List Address :=
  (List.finRange 8).filter fun a => (s.station a).present && (s.station a).role == some r

/-- R153, R174: what the blocks do when the holder of a role ceases to hold it. -/
def State.blocksLose (s : State) (r : Role) : State :=
  match r with
  | .gate => s.loseGateStation
  | .press => s.unsettleFilter
  | .infeed => s
  | .casing => s
  | .jacketing => s

/-- R174: the holder of a role ceases to hold it: the blocks lose their station and its order queue is
emptied. -/
def State.holderLost (s : State) (a : Address) (r : Role) : State :=
  let s := s.blocksLose r
  s.setStation a { s.station a with orders := [] }

/-- R174: the entry of a station claims no role. -/
def State.clearRole (s : State) (a : Address) : State :=
  s.setStation a { s.station a with role := none, standing := none }

/-- R173, R174: a station's standing changes, and attention STATION_CHANGE is raised. -/
def State.setStanding (s : State) (a : Address) (st : Standing) : State :=
  (s.setStation a { s.station a with standing := some st }).raise .stationChange

/-- R174: a station has left a conflict; the last PRESENT claimant of the role becomes ASSIGNED. -/
def State.resolveConflict (s : State) (r : Role) : State :=
  match s.claimants r with
  | [b] => s.setStanding b .assigned
  | _ => s

/-- R174: a station leaves its claimed role, if it has one. -/
def State.leaveRole (s : State) (a : Address) : State :=
  match (s.station a).role, (s.station a).standing with
  | some r, some .assigned => (s.holderLost a r).clearRole a
  | some r, some .conflict => (s.clearRole a).resolveConflict r
  | _, _ => s.clearRole a

/-- R173: an ASSIGNED station is put in CONFLICT; it keeps its claimed role and its abilities. -/
def State.putInConflict (s : State) (a : Address) (r : Role) : State := (s.holderLost a r).setStanding a .conflict

/-- R173: a station that has no role claims one. -/
def State.claimRole (s : State) (a : Address) (r : Role) (abilities : Byte) : State :=
  let others := (s.claimants r).filter (· ≠ a)
  let s :=
    match others.find? fun b => (s.station b).standing == some .assigned with
    | some b => s.putInConflict b r
    | none => s
  let standing := if others.isEmpty then Standing.assigned else .conflict
  (s.setStation a { s.station a with role := some r, standing := some standing, abilities := abilities }).raise
    .stationChange

/-- R173: the abilities of a role's holder change: a GATE holder that drops MARK loses its DELIVER_MARKED
orders, a PRESS holder that drops JAW_RELEASE loses its JAW_RELEASE. -/
def State.holderAbilities (s : State) (a : Address) (r : Role) (before after : Byte) : State :=
  match r with
  | .gate => if hasAbility before .mark && !hasAbility after .mark then s.dropMark a else s
  | .press =>
    if hasAbility before .jawRelease && !hasAbility after .jawRelease then
      s.setStation a { s.station a with orders := (s.station a).orders.filter (· ≠ .jawRelease) }
    else s
  | .infeed => s
  | .casing => s
  | .jacketing => s

/-- R173: an ANNOUNCE of the role the station already claims replaces its abilities. One that repeats
them changes nothing. -/
def State.reannounce (s : State) (a : Address) (r : Role) (abilities : Byte) : State :=
  let st := s.station a
  if st.abilities = abilities then s
  else
    let s := if st.standing = some .assigned then s.holderAbilities a r st.abilities abilities else s
    (s.setStation a { s.station a with abilities := abilities }).raise .stationChange

/-- R172, R100: an ANNOUNCE from a station. -/
def State.announce (s : State) (a : Address) (role abilities : Byte) : State :=
  match roleOf role with
  | none => s
  | some r =>
    let taken := abilities &&& r.mayAnnounce
    let s :=
      if (s.station a).role = some r then s.reannounce a r taken else (s.leaveRole a).claimRole a r taken
    if r = .press ∧ hasAbility taken .tempReport = false then s.unsettleFilter else s

/-- R171: a PRESENT station goes ABSENT. -/
def State.goAbsent (s : State) (a : Address) : State :=
  let s := s.leaveRole a
  (s.setStation a
    { s.station a with present := false, latch := true, silent := 3, abilities := 0, orders := [] }).raise
    .stationChange

/-! ### The end of an exchange (R168, R169) -/

/-- The exchange's POLL carried a gate order. -/
def Exchange.carriesGate (ex : Exchange) : Bool :=
  match ex.carried with
  | some (.gate _ _) => true
  | some .jawRelease => false
  | none => false

/-- R166: the exchange ends. -/
def State.endExchange (s : State) : State := { s with link := { s.link with exchange := none } }

/-- R168, step 1: a valid reply makes an ABSENT station PRESENT and its silent count 0. -/
def State.markPresent (s : State) (a : Address) : State :=
  let st := s.station a
  (s.setStation a { st with present := true, silent := 0 }).raiseIf (!st.present) .stationChange

/-- R169, step 2: the silent count of the polled station. -/
def State.countSilence (s : State) (a : Address) : State :=
  let st := s.station a
  if st.present then
    if st.silent + 1 < 3 then s.setStation a { st with silent := st.silent + 1 } else s.goAbsent a
  else s.setStation a { st with silent := 3 }

/-- R169: a silence ends the exchange. -/
def State.silence (s : State) (ex : Exchange) : State :=
  ((if ex.carriesGate then s.failFlight else s).countSilence ex.address).endExchange

/-- R168, step 3: a report from a station whose role is ASSIGNED is handed to its block, which takes it
only from the role it serves (R64, R95, R131). -/
def State.handReport (s : State) (r : Role) (abilities : Byte) (report : Report) : Option Verdict × State :=
  match report, r with
  | .blockScan key copy thickness, .infeed =>
    let o := s.blockScan (hasAbility abilities .thickness) key copy thickness
    (some o.1, o.2)
  | .caseScan code, .casing =>
    let o := s.caseScan code (hasAbility abilities .caseRefeed)
    (some o.1, o.2)
  | .jacketScan code copy, .jacketing =>
    let o := s.jacketScan code copy (hasAbility abilities .jacketRefeed) (hasAbility abilities .copyRead)
    (some o.1, o.2)
  | .temp sample, .press => (none, if hasAbility abilities .tempReport then s.takeTemp sample else s)
  | _, _ => (none, s)

/-- R168, step 3: a report by the standing of the station that sent it. -/
def State.takeReport (s : State) (a : Address) (report : Report) : Option Verdict × State :=
  match report with
  | .announce role abilities => (none, s.announce a role abilities)
  | report =>
    match (s.station a).role, (s.station a).standing with
    | some r, some .assigned => s.handReport r (s.station a).abilities report
    | _, _ => (none, s)

/-- R168, steps 3 and 4: the payload of a valid reply; a verdict is sent in the same exchange. An empty
payload and a malformed report (R164) do nothing. -/
def State.takePayload (s : State) (a : Address) (payload : List Byte) : State :=
  match parseReport payload with
  | none => s
  | some report =>
    match s.takeReport a report with
    | (some v, t) => t.sendFrame a kindVerdict v.bytes
    | (none, t) => t

/-- R168: a valid reply from the polled station, and the end of its exchange. -/
def State.validReply (s : State) (ex : Exchange) (payload : List Byte) : State :=
  let s := s.markPresent ex.address
  let s := if ex.carriesGate then s.confirmFlight else s
  (s.takePayload ex.address payload).endExchange

/-! ### The receiver (R161, R167) -/

/-- R161, R167: the frame in progress is abandoned; where it is the reply candidate, that is silence. -/
def State.abandonFrame (s : State) : State :=
  let s := s.setReceiver .outside []
  match s.link.exchange with
  | some ex => if ex.awaiting = .candidate then s.silence ex else s
  | none => s

/-- R161, R167: a START begins a frame; inside the 2 ms window it is the reply candidate. -/
def State.beginFrame (s : State) : State :=
  let s := s.setReceiver .inFrame []
  match s.link.exchange with
  | some ex => { s with link := { s.link with exchange := some { ex with awaiting := .candidate } } }
  | none => s

/-- R161: a content byte; a frame whose buffer already holds 38 bytes is abandoned. -/
def State.takeContent (s : State) (b : Byte) : State :=
  if 38 ≤ s.link.buffer.length then s.abandonFrame else s.setReceiver .inFrame (s.link.buffer ++ [b])

/-- R162, R167: a completed frame. Only the reply candidate acts on the part: as a valid reply, or as
silence. -/
def State.completeFrame (s : State) : State :=
  let buffer := s.link.buffer
  let s := s.setReceiver .outside []
  match s.link.exchange with
  | none => s
  | some ex =>
    if ex.awaiting = .window then s
    else
      match judgeReply buffer with
      | none => s.silence ex
      | some (source, payload) =>
        if source = addressByte ex.address then s.validReply ex payload else s.silence ex

/-- R161: one byte taken by the receiver. -/
def State.receiveByte (s : State) (b : Byte) : State :=
  match s.link.rx with
  | .outside => if b = startMark then s.beginFrame else s
  | .inFrame =>
    if b = startMark then s.beginFrame
    else if b = endMark then s.completeFrame
    else if b = escapeMark then s.setReceiver .escaped s.link.buffer
    else s.takeContent b
  | .escaped =>
    if b = startMark then s.beginFrame
    else if b = 0xE2 ∨ b = 0xE3 ∨ b = 0xE4 then s.takeContent (b ^^^ 0x10)
    else s.abandonFrame

/-- R159: while the link is silent, and while the CJ40 drives the line, it takes no byte from it. -/
def State.linkByte (s : State) (b : Byte) : State :=
  if s.check = .pass ∧ s.link.direction = false then s.receiveByte b else s

/-- R161: the frame in progress, if there is one, is abandoned. -/
def State.breakFrame (s : State) : State := if s.link.rx = .outside then s else s.abandonFrame

/-! ### The poll cycle (R150, R166, R167) -/

/-- R163: the payload of a POLL. -/
def pollPayload (st : Station) (carried : Option Order) : List Byte :=
  boolByte st.role.isNone :: orderBytes carried

/-- R150: what the gate unit keeps of the order that a POLL carries. -/
def State.flightOf (s : State) : Option Order → Option GateFlight
  | some (.gate o t) => (s.piece t).map fun p => { order := o, tag := t, admission := p.admission }
  | some .jawRelease => none
  | none => none

/-- R166, R175: a POLL to the next address of the cycle, with the oldest order of its queue. The link
polls only after a passed check and outside any exchange (log 10). -/
def State.sendPoll (s : State) : State :=
  if s.check = .pass ∧ s.link.exchange = none then
    let a := s.link.next
    let st := s.station a
    let carried := st.orders.head?
    let s := { s.setStation a { st with orders := st.orders.tail } with gateInFlight := s.flightOf carried }
    let s := s.sendFrame a kindPoll (pollPayload st carried)
    { s with link :=
        { s.link with
          next := a + 1
          exchange := some { address := a, carried := carried, awaiting := .window } } }
  else s

/-- R167: no START within the window is silence. -/
def State.replyTimeout (s : State) : State :=
  match s.link.exchange with
  | some ex => if ex.awaiting = .window then s.silence ex else s
  | none => s

/-! ### READ_STATION (R176) -/

/-- R176: the order in flight of an address. -/
def State.carriedTo (s : State) (a : Address) : Option Order :=
  match s.link.exchange with
  | some ex => if ex.address = a then ex.carried else none
  | none => none

/-- R176: the data of READ_STATION. -/
def State.stationBytes (s : State) (a : Address) : List Byte :=
  let st := s.station a
  [boolByte st.present, boolByte st.latch, byteOf st.silent, roleCode st.role, standingCode st.standing,
    st.abilities]
    ++ orderBytes (s.carriedTo a)
    ++ [byteOf st.orders.length]
    ++ st.orders.flatMap fun o => orderBytes (some o)

/-- R176: the entry is read, then its absent-since-read latch is cleared. -/
def State.readStation (s : State) (address : Byte) : Reply × State :=
  match addressOf address with
  | none => (.refuse .badValue, s)
  | some a => (.ok (s.stationBytes a), s.setStation a { s.station a with latch := false })

/-! ### Meanings -/

/-- READ_STATION, R176. -/
def execReadStation (address : Byte) (s : State) : Host.Outcome State Fault Refusal :=
  .next (s.command 1 fun s => s.readStation address)

/-- POLL, R166. -/
def execPoll (s : State) : Host.Outcome State Fault Refusal := .next s.sendPoll

/-- REPLY_FRAME, R162: the END mark that completes a frame comes, at the reading `time`. -/
def execReplyFrame (time : Word32) (s : State) : Host.Outcome State Fault Refusal :=
  .next ((s.atReading time).linkByte endMark)

/-- REPLY_TIMEOUT, R167, at the reading `time`. -/
def execReplyTimeout (time : Word32) (s : State) : Host.Outcome State Fault Refusal :=
  .next (s.atReading time).replyTimeout

/-- INTER_BYTE_GAP_EXPIRY, R161, at the reading `time`. -/
def execInterByteGapExpiry (time : Word32) (s : State) : Host.Outcome State Fault Refusal :=
  .next (s.atReading time).breakFrame

/-- FRAME_ABANDONED, R161: the byte, or the missing stop bit, that abandons a frame comes, at the reading
`time`. -/
def execFrameAbandoned (cause : AbandonCause) (time : Word32) (s : State) : Host.Outcome State Fault Refusal :=
  match cause with
  | .byte b => .next ((s.atReading time).linkByte b)
  | .noStopBit => .next (s.atReading time).breakFrame

/-- LINK_BYTE_RECEIVED, R161: a byte is taken from the line. -/
def execLinkByteReceived (b : Byte) (s : State) : Host.Outcome State Fault Refusal := .next (s.linkByte b)

end Sys2Proof.Machine
end

