-- ==== Sys2Proof/Machine/Press.lean ====
section
/-! DEFINITION. The press tracker (chapter 7): jaw qualification, dwell accumulation, the overdwell timer
and the index. Every operation here reads the time at which it is taken from `timeBase`. -/

namespace Sys2Proof.Machine

/-! ### Accumulation and the overdwell timer (R115 to R120) -/

/-- R115: the accumulated dwell saturates at 65535. -/
def Piece.accumulate (p : Piece) (contact : Nat) : Piece := { p with accumulated := min 65535 (p.accumulated + contact) }

/-- R115: at a qualified open each heated piece gains the closure's contact time, and the overdwell timer
is stopped. -/
def State.qualifyOpen (s : State) (openTime : Word32) : State :=
  (s.updatePieces s.heated (·.accumulate (elapsed s.press.closeTime openTime))).stopOverdwell

/-- R117: a piece's headroom. -/
def Piece.headroom (p : Piece) : Option Nat := p.limits.map fun l => l.dmax - p.accumulated

/-- R117: the headrooms of the heated pieces. -/
def State.headrooms (s : State) : List Nat := s.heated.filterMap fun t => (s.piece t).bind Piece.headroom

/-- R112, R117: a closure begins with its close time: the jaws are CLOSED and the overdwell timer is armed
for the smallest headroom among the heated pieces, if there is any. -/
def State.armClosure (s : State) (closeTime : Word32) : State :=
  { s with press :=
      { s.press with
        jaw := .closed
        closeTime := closeTime
        hitTimer := none
        overdwellTimer := s.headrooms.min?.map (later closeTime)
        overdwellDeferred := false } }

/-- Whether the overdwell timer is running, its expiry not yet deferred, and has run out at `timeBase`. -/
def State.overdwellRunOut (s : State) : Bool :=
  match s.press.overdwellTimer with
  | some d => !s.press.overdwellDeferred && hasRunOut s.press.closeTime d s.timeBase
  | none => false

/-- R120: a JAW_RELEASE is queued for the press station when it has the ability and none is waiting. -/
def State.offerJawRelease (s : State) : State :=
  match s.holder .press with
  | none => s
  | some a =>
    let st := s.station a
    if hasAbility st.abilities .jawRelease && !st.orders.contains Order.jawRelease then
      s.setStation a { st with orders := st.orders ++ [Order.jawRelease] }
    else s

/-- R119: whether a piece is within the margin of the closure's elapsed time. -/
def Piece.overdue (p : Piece) (closureTime : Nat) : Bool :=
  match p.limits with
  | some l => l.dmax - p.accumulated ≤ closureTime
  | none => false

/-- R119: OVERDWELL is added where the piece is within the margin. -/
def Piece.markOverdue (p : Piece) (closureTime : Nat) : Piece :=
  if p.overdue closureTime then p.addFault .overdwell else p

/-- R119: an expiry of the overdwell timer is taken. -/
def State.takeOverdwell (s : State) : State :=
  (((s.updatePieces s.heated (·.markOverdue (elapsed s.press.closeTime s.timeBase))).raise .overdwell).stopOverdwell).offerJawRelease

/-- R112, R117: a close is qualified at `timeBase`, with its close time. A timer armed for a reading that has
come by then runs out at once: its expiry is taken in the same step (log 16). -/
def State.qualifyClose (s : State) (closeTime : Word32) : State :=
  let armed := s.armClosure closeTime
  if armed.overdwellRunOut then armed.takeOverdwell else armed

/-! ### Jaw events (R112, R113, R118) -/

/-- R112: the input is asserted in OPEN. With a hit time of 0 it is a qualified close at once (R113). -/
def State.beginClosing (s : State) : State :=
  let s := { s with press := { s.press with assertionTime := s.timeBase } }
  if s.press.hitTime = 0 then s.qualifyClose s.timeBase
  else { s with press :=
      { s.press with jaw := .closing, hitTimer := some (later s.timeBase s.press.hitTime) } }

/-- R112, R118: the input is asserted in OPENING: the dropout is bridged, and a deferred overdwell expiry
is taken. -/
def State.bridgeDropout (s : State) : State :=
  let deferred := s.press.overdwellDeferred
  let s := { s with press := { s.press with jaw := .closed, bridgeTimer := none } }
  if deferred then s.takeOverdwell else s

/-- R112: the jaw-contact input is asserted, at `timeBase`. In CLOSING and CLOSED it is asserted already
(log 10). -/
def State.jawAsserted (s : State) : State :=
  match s.press.jaw with
  | .opened => s.beginClosing
  | .opening => s.bridgeDropout
  | .closing => s
  | .closed => s

/-- R112: the input is released in CLOSED. With a bridge time of 0 it is a qualified open at once
(R113). -/
def State.beginOpening (s : State) : State :=
  let s := { s with press := { s.press with releaseTime := s.timeBase } }
  if s.press.bridgeTime = 0 then
    let s := s.qualifyOpen s.timeBase
    { s with press := { s.press with jaw := .opened } }
  else { s with press :=
      { s.press with jaw := .opening, bridgeTimer := some (later s.timeBase s.press.bridgeTime) } }

/-- R112: the jaw-contact input is released, at `timeBase`. In OPEN and OPENING it is released already
(log 10). -/
def State.jawReleased (s : State) : State :=
  match s.press.jaw with
  | .closing => { s with press := { s.press with jaw := .opened, hitTimer := none } }
  | .closed => s.beginOpening
  | .opened => s
  | .opening => s

/-- Whether the hit timer is running and has run out at `timeBase`. -/
def State.hitRunOut (s : State) : Bool :=
  match s.press.hitTimer with
  | some d => s.press.jaw == .closing && hasRunOut s.press.assertionTime d s.timeBase
  | none => false

/-- Whether the bridge timer is running and has run out at `timeBase`. -/
def State.bridgeRunOut (s : State) : Bool :=
  match s.press.bridgeTimer with
  | some d => s.press.jaw == .opening && hasRunOut s.press.releaseTime d s.timeBase
  | none => false

/-- R112: the hit timer's expiry qualifies the close at the noted assertion time. -/
def State.hitExpiry (s : State) : State := if s.hitRunOut then s.qualifyClose s.press.assertionTime else s

/-- R112: the bridge timer's expiry qualifies the open at the noted release time. -/
def State.bridgeExpiry (s : State) : State :=
  if s.bridgeRunOut then
    let s := s.qualifyOpen s.press.releaseTime
    { s with press := { s.press with jaw := .opened, bridgeTimer := none } }
  else s

/-- R118, R119: the overdwell timer's expiry is taken in CLOSED and deferred in OPENING. -/
def State.overdwellExpiry (s : State) : State :=
  if s.overdwellRunOut then
    match s.press.jaw with
    | .closed => s.takeOverdwell
    | .opening => { s with press := { s.press with overdwellDeferred := true } }
    | .opened => s
    | .closing => s
  else s

/-! ### The index (R122 to R126) -/

/-- R122: the heated pieces gain PRESS_SEQUENCE, and the attention is raised whether there are any or
not. -/
def State.markSequence (s : State) : State :=
  (s.updatePieces s.heated (·.addFault .pressSequence)).raise .pressSequence

/-- R122, stage 1. -/
def State.indexJaws (s : State) : State :=
  match s.press.jaw with
  | .opened => s
  | .closed => (s.qualifyOpen s.timeBase).markSequence
  | .opening =>
    let s := (s.qualifyOpen s.press.releaseTime).markSequence
    { s with press := { s.press with bridgeTimer := none } }
  | .closing => { s with press := { s.press with hitTimer := none } }

/-- R123: the dwell judgement of a piece at discharge, and whether OVERDWELL is added by it. -/
def Piece.judged (p : Piece) : Piece × Bool :=
  match p.limits with
  | none => (p, false)
  | some l =>
    if p.accumulated < l.dmin then (p.addFault .underdwell, false)
    else if l.dmax < p.accumulated then (p.addFault .overdwell, !p.faults.has .overdwell)
    else (p, false)

/-- R123: the piece in position 11 is judged. -/
def State.judgeDischarge (s : State) (t : Tag) : State :=
  match s.piece t with
  | none => s
  | some p => (s.setPiece t (some p.judged.1)).raiseIf p.judged.2 .overdwell

/-- R122, stage 2, R123, R124: the piece in position 11 is judged and handed to Z4. -/
def State.discharge (s : State) : State :=
  match s.press.positions[11] with
  | none => s
  | some t =>
    let s := s.judgeDischarge t
    { s with press := { s.press with positions := s.press.positions.set 11 none } }.handOver .z4 t

/-- R125: the positions after the shift; position 0 is left empty. -/
def shiftedPositions (v : Vector (Option Tag) 12) : Vector (Option Tag) 12 :=
  Vector.ofFn fun i => if i.val = 0 then none else v[i.val - 1]

/-- R125: the place of a piece in the press after the shift. -/
def Piece.shifted (p : Piece) : Piece :=
  match p.place with
  | .press i => { p with place := .press (if i.val < 11 then i + 1 else i) }
  | _ => p

/-- R122, stage 3, R125: every piece moves up one position. -/
def State.shiftPress (s : State) : State :=
  let moved := s.updatePieces (s.press.positions.toList.filterMap id) Piece.shifted
  { moved with press := { moved.press with positions := shiftedPositions s.press.positions } }

/-- R122, stage 4, R125, R103: the piece in the press entry hold enters position 0, or is retired spoiled
when Z3 is in RESET. -/
def State.enterPress (s : State) : State :=
  match s.pressEntry with
  | none => s
  | some t =>
    let s := { s with pressEntry := none }
    if s.z3Mode = .reset then s.retire .spoiled t
    else
      ({ s with press := { s.press with positions := s.press.positions.set 0 (some t) } }.updatePiece t
        (·.putIn (.press 0))).computeDwell t

/-- R122, stage 5, R126: the jaws after the index, by the jaw state it found. -/
def State.settleJaws (s : State) (found : JawState) : State :=
  match found with
  | .opened => s
  | .closed => s.qualifyClose s.timeBase
  | .opening => { s with press := { s.press with jaw := .opened } }
  | .closing => { s with press :=
      { s.press with
        assertionTime := s.timeBase
        hitTimer := some (later s.timeBase s.press.hitTime) } }

/-- R122: one index of the press, at `timeBase`. -/
def State.index (s : State) : State :=
  ((((s.indexJaws).discharge).shiftPress).enterPress).settleJaws s.press.jaw

/-! ### Commands (R102, R114) -/

/-- R114, SET_JAW_TIMES: a running window keeps the reading at which it runs out. -/
def State.setJawTimes (s : State) (hit bridge : Word16) : Reply × State :=
  if hit.toNat ≤ 200 ∧ bridge.toNat ≤ 200 then
    (.ok [], { s with press := { s.press with hitTime := hit.toNat, bridgeTime := bridge.toNat } })
  else (.refuse .badValue, s)

/-- R102: the code of a jaw state. -/
def JawState.code : JawState → Byte
  | .opened => 0
  | .closing => 1
  | .closed => 2
  | .opening => 3

/-- R102, R118: the time left on the overdwell timer: 0 once its reading has come, deferred or not. -/
def State.overdwellLeft (s : State) : Nat :=
  match s.press.overdwellTimer with
  | none => 0
  | some d =>
    if s.press.overdwellDeferred then 0
    else elapsed s.press.closeTime d - elapsed s.press.closeTime s.timeBase

/-- R102, READ_PRESS: 16 bytes, at `timeBase`. -/
def State.pressBytes (s : State) : List Byte :=
  [s.filter.state.code, byteOf s.filter.interval, byteOf s.filter.shift, byteOf s.filter.warmup,
    byteOf s.filter.reportCounter, byteOf s.filter.sampleCount]
    ++ split16 (BitVec.ofInt 16 s.filter.tf)
    ++ [s.press.jaw.code]
    ++ bytes16 s.press.hitTime ++ bytes16 s.press.bridgeTime
    ++ [boolByte s.press.overdwellTimer.isSome]
    ++ bytes16 s.overdwellLeft

/-! ### Meanings -/

/-- SET_JAW_TIMES, R114. -/
def execSetJawTimes (hit bridge : Word16) (s : State) : Host.Outcome State Fault Refusal :=
  .next (s.command 4 fun s => s.setJawTimes hit bridge)

/-- READ_PRESS, R102, taken at the reading `time`. -/
def execReadPress (time : Word32) (s : State) : Host.Outcome State Fault Refusal :=
  .next ((s.atReading time).command 0 fun s => (.ok s.pressBytes, s))

/-- PRESS_INDEX, R122, taken at the reading `time`. -/
def execPressIndex (time : Word32) (s : State) : Host.Outcome State Fault Refusal :=
  .next (s.atReading time).index

/-- JAW_CONTACT_ASSERTED, R112, taken at the reading `time`. -/
def execJawContactAsserted (time : Word32) (s : State) : Host.Outcome State Fault Refusal :=
  .next (s.atReading time).jawAsserted

/-- JAW_CONTACT_RELEASED, R112, taken at the reading `time`. -/
def execJawContactReleased (time : Word32) (s : State) : Host.Outcome State Fault Refusal :=
  .next (s.atReading time).jawReleased

/-- HIT_TIMER_EXPIRY, R112, taken at the reading `time`. -/
def execHitTimerExpiry (time : Word32) (s : State) : Host.Outcome State Fault Refusal :=
  .next (s.atReading time).hitExpiry

/-- BRIDGE_TIMER_EXPIRY, R112, taken at the reading `time`. -/
def execBridgeTimerExpiry (time : Word32) (s : State) : Host.Outcome State Fault Refusal :=
  .next (s.atReading time).bridgeExpiry

/-- OVERDWELL_TIMER_EXPIRY, R118 and R119, taken at the reading `time`. -/
def execOverdwellTimerExpiry (time : Word32) (s : State) : Host.Outcome State Fault Refusal :=
  .next (s.atReading time).overdwellExpiry

end Sys2Proof.Machine
end

