-- ==== Sys2Proof/Machine/Zones.lean ====
section
/-! DEFINITION. Zones and tracking (chapter 3): encoder advances, exit-eye arrivals and overruns, the zone
commands and LINE_CLEAR. -/

namespace Sys2Proof.Machine

/-! ### Travel and overdue pieces (R47 to R50) -/

/-- R49: travel, with a negative one counted as 0. -/
def Conveyor.travel (c : Conveyor) (p : Piece) : Nat :=
  match p.entryCount with
  | some e => (c.encoder - e).toInt.toNat
  | none => 0

/-- R50: the piece's travel exceeds L + W. -/
def State.isOverdue (s : State) (z : ConveyorZone) (t : Tag) : Bool :=
  match s.piece t with
  | some p => (s.conveyor z).length + (s.conveyor z).window < (s.conveyor z).travel p
  | none => false

/-- R50: the head of the queue is lost while it is overdue, and the check repeats on the new head. -/
def State.dropOverdue (s : State) (z : ConveyorZone) : List Tag → State
  | [] => s
  | t :: rest =>
    if s.isOverdue z t then
      ((s.setConveyor z { s.conveyor z with queue := rest }).lose t).dropOverdue z rest
    else s

/-- R47: the encoder count moves by a step. -/
def State.turnEncoder (s : State) (z : ConveyorZone) (step : Word16) : State :=
  s.setConveyor z { s.conveyor z with encoder := (s.conveyor z).encoder + step }

/-- R47, R50: a forward advance adds one to the count and checks the head. -/
def State.advance (s : State) (z : ConveyorZone) : State :=
  (s.turnEncoder z 1).dropOverdue z (s.conveyor z).queue

/-- R47: a reverse advance subtracts one and makes no check. -/
def State.retreat (s : State) (z : ConveyorZone) : State := s.turnEncoder z (-1)

/-! ### Slots and overruns (R54 to R57) -/

/-- R54: a piece enters the casing slot, and the slot's mismatch count becomes 0. -/
def State.enterCasing (s : State) (t : Tag) : State :=
  { s with casing := some t, casingMismatch := 0 }.updatePiece t (·.putIn .casingSlot)

/-- R54: a piece enters the jacketing slot, and the slot's mismatch count becomes 0. -/
def State.enterJacketing (s : State) (t : Tag) : State :=
  { s with jacketing := some t, jacketingMismatch := 0 }.updatePiece t (·.putIn .jacketingSlot)

/-- R54: a piece enters the press entry hold. -/
def State.enterHold (s : State) (t : Tag) : State :=
  { s with pressEntry := some t }.updatePiece t (·.putIn .pressEntry)

/-- R55, step 1. -/
def Piece.passCasing (p : Piece) : Piece := (p.addFault .caseUnconfirmed).settleCase .skipped

/-- R56: the occupant gains JACKET_UNCONFIRMED unless its jacket status is NOT_REQUIRED. -/
def Piece.passJacketing (p : Piece) : Piece :=
  if p.jacketStatus = .notRequired then p else (p.addFault .jacketUnconfirmed).settleJacket .skipped

/-- R51, R54, R55: an X1 arrival at the casing slot. -/
def State.arriveCasing (s : State) (t : Tag) : State :=
  match s.casing with
  | none => s.enterCasing t
  | some o =>
    ((({ s with casing := none }.updatePiece o Piece.passCasing).handOver .z2 o).enterCasing t).raise .tracking

/-- R51, R54, R56: an X4 arrival at the jacketing slot. -/
def State.arriveJacketing (s : State) (t : Tag) : State :=
  match s.jacketing with
  | none => s.enterJacketing t
  | some o =>
    ((({ s with jacketing := none }.updatePiece o Piece.passJacketing).handOver .z5 o).enterJacketing t).raise
      .tracking

/-- R51, R54, R57: an X2 arrival at the press entry hold. -/
def State.arriveHold (s : State) (t : Tag) : State :=
  match s.pressEntry with
  | none => s.enterHold t
  | some o => ((({ s with pressEntry := none }.lose o).haltZone .z2).enterHold t).raise .tracking

/-- R51: a normal arrival goes to the zone's downstream place. -/
def State.arrive (s : State) (z : ConveyorZone) (t : Tag) : State :=
  match z with
  | .z1 => s.arriveCasing t
  | .z2 => s.arriveHold t
  | .z4 => s.arriveJacketing t
  | .z5 => s.gateArrival t

/-- R52: an early or unexpected arrival halts the zone. -/
def State.unforeseen (s : State) (z : ConveyorZone) : State := (s.haltZone z).raise .tracking

/-- R51: the piece has travelled at least L − W. -/
def State.hasArrived (s : State) (z : ConveyorZone) (t : Tag) : Bool :=
  match s.piece t with
  | some p => (s.conveyor z).length - (s.conveyor z).window ≤ (s.conveyor z).travel p
  | none => false

/-- R44, R51, R52: the leading edge of a zone's exit eye. -/
def State.exitEye (s : State) (z : ConveyorZone) : State :=
  if (s.conveyor z).mode = .reset then s
  else
    match (s.conveyor z).queue with
    | [] => s.unforeseen z
    | t :: rest =>
      if s.hasArrived z t then (s.setConveyor z { s.conveyor z with queue := rest }).arrive z t
      else s.unforeseen z

/-! ### Commands (R42, R46, R62, R63) -/

/-- R46: the length and window lie in their ranges. -/
def legalLength (length window : Nat) : Bool :=
  within 400 30000 length && within 40 2000 window && (length + window ≤ 32000 : Bool)

/-- R46, SET_ZONE. -/
def State.setZone (s : State) (zone : Byte) (length window : Word16) : Reply × State :=
  match conveyorZoneOf zone with
  | none => (.refuse .badValue, s)
  | some z =>
    if legalLength length.toNat window.toNat then
      if (s.conveyor z).mode = .reset then
        (.ok [], s.setConveyor z { s.conveyor z with length := length.toNat, window := window.toNat })
      else (.refuse .wrongState, s)
    else (.refuse .badValue, s)

/-- R42: a zone changes to a mode; naming the mode it has changes nothing. -/
def State.changeMode (s : State) (z : Zone) (m : ZoneMode) : State :=
  if s.mode z = m then s
  else
    match m with
    | .reset => s.enterReset z
    | .run => s.setMode z .run
    | .halt => s.setMode z .halt

/-- R42, SET_ZONE_MODE. -/
def State.setZoneMode (s : State) (zone mode : Byte) : Reply × State :=
  match zoneOf zone, modeOf mode with
  | some z, some m => (.ok [], s.changeMode z m)
  | _, _ => (.refuse .badValue, s)

/-- R62: the entry of a piece, its tag and admission number. -/
def State.entryBytes (s : State) (t : Tag) : List Byte :=
  byteOf t.val :: split16 (match s.piece t with
    | some p => p.admission
    | none => 0)

/-- R62: the entry of a one-piece place; an empty one reads tag 0xFF with admission number 0. -/
def State.placeBytes (s : State) : Option Tag → List Byte
  | some t => s.entryBytes t
  | none => [0xFF, 0, 0]

/-- R62: mode, L, W, encoder count, number of pieces and their entries. -/
def State.conveyorBytes (s : State) (c : Conveyor) : List Byte :=
  [c.mode.code] ++ bytes16 c.length ++ bytes16 c.window ++ split16 c.encoder ++ [byteOf c.queue.length]
    ++ c.queue.flatMap s.entryBytes

/-- R62: the data of READ_ZONE. -/
def State.zoneBytes (s : State) : Zone → List Byte
  | .z1 => s.conveyorBytes s.z1 ++ s.placeBytes s.casing
  | .z2 => s.conveyorBytes s.z2 ++ s.placeBytes s.pressEntry
  | .z3 => [s.z3Mode.code] ++ List.replicate 7 0 ++ s.press.positions.toList.flatMap s.placeBytes
  | .z4 => s.conveyorBytes s.z4 ++ s.placeBytes s.jacketing
  | .z5 => s.conveyorBytes s.z5 ++ [byteOf s.gateQueue.length] ++ s.gateQueue.flatMap s.entryBytes

/-- R62, READ_ZONE. -/
def State.readZone (s : State) (zone : Byte) : Reply :=
  match zoneOf zone with
  | some z => .ok (s.zoneBytes z)
  | none => .refuse .badValue

/-- R63: every zone enters RESET, the lost set is retired spoiled, both mismatch counts become 0 (R130)
and the overdwell timer stops (R127). -/
def State.lineClear (s : State) : State :=
  let s := allZones.foldl State.enterReset s
  let s := s.retireAll .spoiled s.lost
  { s.stopOverdwell with casingMismatch := 0, jacketingMismatch := 0 }

/-! ### Meanings -/

/-- SET_ZONE, R46. -/
def execSetZone (zone : Byte) (length window : Word16) (s : State) : Host.Outcome State Fault Refusal :=
  .next (s.command 5 fun s => s.setZone zone length window)

/-- SET_ZONE_MODE, R42. -/
def execSetZoneMode (zone mode : Byte) (s : State) : Host.Outcome State Fault Refusal :=
  .next (s.command 2 fun s => s.setZoneMode zone mode)

/-- READ_ZONE, R62. -/
def execReadZone (zone : Byte) (s : State) : Host.Outcome State Fault Refusal :=
  .next (s.command 1 fun s => (s.readZone zone, s))

/-- LINE_CLEAR, R63. -/
def execLineClear (s : State) : Host.Outcome State Fault Refusal :=
  .next (s.command 0 fun s => (.ok [], s.lineClear))

/-- FORWARD_ADVANCE, R50. -/
def execForwardAdvance (z : ConveyorZone) (s : State) : Host.Outcome State Fault Refusal := .next (s.advance z)

/-- REVERSE_ADVANCE, R47. -/
def execReverseAdvance (z : ConveyorZone) (s : State) : Host.Outcome State Fault Refusal := .next (s.retreat z)

/-- EXIT_EYE_LEADING_EDGE, R51, at the reading `time`. -/
def execExitEyeLeadingEdge (z : ConveyorZone) (time : Word32) (s : State) : Host.Outcome State Fault Refusal :=
  .next ((s.atReading time).exitEye z)

end Sys2Proof.Machine
end

