-- ==== Sys2Proof/Machine/Pieces.lean ====
section
/-! DEFINITION. The commands that name pieces: READ_PIECE (R20), LIST_LOST (R59), RESOLVE_LOST (R60) and
REINSTATE (R61). -/

namespace Sys2Proof.Machine

/-- R3: a tag and an admission number name a piece in use. -/
def State.named (s : State) (t : Tag) (admission : Word16) : Option Piece :=
  match s.piece t with
  | some p => if p.admission = admission then some p else none
  | none => none

/-! ### READ_PIECE -/

/-- R20: the code of a place. -/
def Place.code : Place → Byte
  | .conveyor .z1 => 0
  | .casingSlot => 1
  | .conveyor .z2 => 2
  | .pressEntry => 3
  | .press _ => 4
  | .conveyor .z4 => 5
  | .jacketingSlot => 6
  | .conveyor .z5 => 7
  | .gateQueue => 8
  | .lost => 9

/-- R20: the place detail. -/
def State.placeDetail (s : State) (t : Tag) : Place → Nat
  | .conveyor z => (s.conveyor z).queue.idxOf t
  | .gateQueue => s.gateQueue.idxOf t
  | .press i => i.val
  | .casingSlot => 0
  | .pressEntry => 0
  | .jacketingSlot => 0
  | .lost => 0

/-- R20. -/
def CaseStatus.code : CaseStatus → Byte
  | .pending => 0
  | .married => 1
  | .skipped => 2

/-- R20. -/
def JacketStatus.code : JacketStatus → Byte
  | .pending => 0
  | .married => 1
  | .notRequired => 2
  | .skipped => 3

/-- R20. -/
def Disposition.code : Disposition → Byte
  | .deliver => 0
  | .deliverMarked => 1
  | .divert => 2

/-- R20: the loss position byte, 0 outside the lost set. -/
def State.lossByte (s : State) (t : Tag) (p : Piece) : Byte :=
  if p.place = .lost then byteOf (s.lossPosition t) else 0

/-- R20: the 26 bytes of the readout. -/
def State.pieceBytes (s : State) (t : Tag) (p : Piece) : List Byte :=
  [byteOf t.val] ++ split16 p.admission
    ++ [match p.job with
        | some j => byteOf j.val
        | none => 0xFF]
    ++ bytes16 (p.copy.getD 0) ++ bytes16 p.thickness ++ [byteOf p.cls.val]
    ++ (match p.limits with
        | some l => bytes16 l.dmin ++ bytes16 l.dmax
        | none => [0, 0, 0, 0])
    ++ bytes16 p.accumulated
    ++ [p.place.code, byteOf (s.placeDetail t p.place)]
    ++ split16 (p.entryCount.getD 0)
    ++ [p.caseStatus.code, p.jacketStatus.code, boolByte p.copyVerified]
    ++ split16 p.faults
    ++ [(s.disposition p).code, s.lossByte t p]

/-- R20, READ_PIECE. -/
def State.readPiece (s : State) (tag : Byte) (admission : Word16) : Reply :=
  match tagOf tag with
  | none => .refuse .badValue
  | some t =>
    match s.named t admission with
    | none => .refuse .noSuchPiece
    | some p => .ok (s.pieceBytes t p)

/-! ### The lost set -/

/-- R59, LIST_LOST: the size of the lost set and up to 32 entries from a position. -/
def State.listLost (s : State) (first : Byte) : Reply :=
  if within 1 96 first.toNat then
    .ok (byteOf s.lost.length :: ((s.lost.drop (first.toNat - 1)).take 32).flatMap s.entryBytes)
  else .refuse .badValue

/-- R60, RESOLVE_LOST. -/
def State.resolveLost (s : State) (tag : Byte) (admission : Word16) : Reply × State :=
  match tagOf tag with
  | none => (.refuse .badValue, s)
  | some t =>
    match s.named t admission with
    | none => (.refuse .noSuchPiece, s)
    | some _ => if t ∈ s.lost then (.ok [], s.retire .spoiled t) else (.refuse .wrongState, s)

/-- R61: the piece leaves the lost set and joins the tail of the named zone's queue. -/
def State.returnTo (s : State) (z : ConveyorZone) (t : Tag) : State :=
  { s with lost := s.lost.filter (· ≠ t) }.joinQueue z t

/-- R61, REINSTATE. -/
def State.reinstate (s : State) (tag : Byte) (admission : Word16) (zone : Byte) : Reply × State :=
  match tagOf tag, conveyorZoneOf zone with
  | some t, some z =>
    match s.named t admission with
    | none => (.refuse .noSuchPiece, s)
    | some _ =>
      if t ∉ s.lost then (.refuse .wrongState, s)
      else if (s.conveyor z).mode = .reset then (.refuse .wrongState, s)
      else if z.capacity ≤ (s.conveyor z).queue.length then (.refuse .zoneFull, s)
      else (.ok [], s.returnTo z t)
  | _, _ => (.refuse .badValue, s)

/-! ### Meanings -/

/-- READ_PIECE, R20. -/
def execReadPiece (tag : Byte) (admission : Word16) (s : State) : Host.Outcome State Fault Refusal :=
  .next (s.command 3 fun s => (s.readPiece tag admission, s))

/-- LIST_LOST, R59. -/
def execListLost (first : Byte) (s : State) : Host.Outcome State Fault Refusal :=
  .next (s.command 1 fun s => (s.listLost first, s))

/-- RESOLVE_LOST, R60. -/
def execResolveLost (tag : Byte) (admission : Word16) (s : State) : Host.Outcome State Fault Refusal :=
  .next (s.command 3 fun s => s.resolveLost tag admission)

/-- REINSTATE, R61. -/
def execReinstate (tag : Byte) (admission : Word16) (zone : Byte) (s : State) :
    Host.Outcome State Fault Refusal :=
  .next (s.command 4 fun s => s.reinstate tag admission zone)

end Sys2Proof.Machine
end

