-- ==== Sys2Proof/Machine/Port.lean ====
section
/-! DEFINITION. The supervisor port (chapter 11): its own commands, lamps, the reading of a response, the
judgement of a written frame, and the power-up check. -/

namespace Sys2Proof.Machine

/-! ### The power-up check (R183, R184) -/

/-- R40, R112, R183: the power-on values, at a reading of the time base and with the jaw-contact input as
it stands; an asserted input is taken as an assertion at that reading. The queue of waiting commands is
the model's own and stays. -/
def State.poweredOn (s : State) (time : Word32) (jawAsserted : Bool) : State :=
  let fresh := { State.reset with timeBase := time, pending := s.pending }
  if jawAsserted then fresh.jawAsserted else fresh

/-- R183: the check ends with PASS. It ends once in a power-up (log 10). -/
def State.checkPasses (s : State) : State := if s.check = .running then { s with check := .pass } else s

/-- R184: the check ends with FAIL, and MEMORY_FAIL is set. -/
def State.checkFails (s : State) : State :=
  if s.check = .running then { s with check := .fail }.raise .memoryFail else s

/-! ### IDENTIFY, READ_STATUS and attention (R185 to R190) -/

/-- R185: family, part, revision and check result. -/
def State.identity (s : State) : List Byte :=
  [0x3C, 0x28, byteOf (Config.revisionIndex.val + 1), s.check.code]

/-- R190: the 13 bytes of READ_STATUS. -/
def State.statusBytes (s : State) : List Byte :=
  maskBytes s.flags ++ maskBytes s.enables ++ maskBytes s.activeFlags
    ++ allZones.map (fun z => (s.mode z).code)
    ++ [byteOf s.freeCount, byteOf s.lost.length]

/-- R188, ACK_ATTENTION. -/
def State.ackAttention (s : State) (mask : Word16) : Reply × State :=
  if maskIllegal mask then (.refuse .badValue, s)
  else (.ok [], { s with flags := s.flags &&& ~~~(mask.setWidth 9) })

/-- R189, SET_ATTENTION_ENABLE. -/
def State.setAttentionEnable (s : State) (mask : Word16) : Reply × State :=
  if maskIllegal mask then (.refuse .badValue, s) else (.ok [], { s with enables := mask.setWidth 9 })

/-! ### Lamps (R191, R192) -/

/-- R192, SET_LAMP: the three settings are replaced and any stretch running on the lamp is ended. -/
def State.setLamp (s : State) (lamp source polarity stretch : Byte) : Reply × State :=
  match indexOf 4 lamp, lampSourceOf source, polarityOf polarity, stretchOf stretch with
  | some l, some src, some pol, some ms =>
    (.ok [], { s with lamps := s.lamps.set l { source := src, polarity := pol, stretch := ms, stretchEnd := none } })
  | _, _, _, _ => (.refuse .badValue, s)

/-- Whether the stretch of a lamp is running and has run out at `timeBase`. The stretch began its own
length before its end. -/
def State.stretchRunOut (s : State) (l : LampId) : Bool :=
  match s.lamps[l].stretchEnd with
  | some e => hasRunOut (e - BitVec.ofNat 32 s.lamps[l].stretch) e s.timeBase
  | none => false

/-- R156, R191: a lamp's stretch runs out, and a pulse lamp goes dark. -/
def State.endStretch (s : State) (l : LampId) : State :=
  if s.stretchRunOut l then { s with lamps := s.lamps.set l { s.lamps[l] with stretchEnd := none } } else s

/-! ### Reading the response (R178, R180) -/

/-- R178: the bytes clocked out over a read of `clocked` bytes after the 0x80. Nothing is known of the
transaction while its first byte is clocked, so 0xFF goes out against it (log 8). -/
def readOut (response : List Byte) (clocked : Nat) : List Byte :=
  0xFF :: (response.take clocked ++ List.replicate (clocked - response.length) 0xFF)

/-- R178, R180: a read transaction. A response clocked out whole is consumed; one cut short stays held. -/
def State.readResponse (s : State) (clocked : Nat) : State :=
  match s.response with
  | none => { s with clockedOut := readOut [] clocked }
  | some r =>
    { s with
      clockedOut := readOut r clocked
      response := if r.length ≤ clocked then none else some r }

/-! ### Meanings -/

/-- POWER_ON, R183, at the reading `time`. -/
def execPowerOn (time : Word32) (jawAsserted : Bool) (s : State) : Host.Outcome State Fault Refusal :=
  .next (s.poweredOn time jawAsserted)

/-- MEMORY_CHECK_PASS, R183. -/
def execMemoryCheckPass (s : State) : Host.Outcome State Fault Refusal := .next s.checkPasses

/-- MEMORY_CHECK_FAIL, R184. -/
def execMemoryCheckFail (s : State) : Host.Outcome State Fault Refusal := .next s.checkFails

/-- IDENTIFY, R185. -/
def execIdentify (s : State) : Host.Outcome State Fault Refusal :=
  .next (s.commandAfterCheck 0 fun s => (.ok s.identity, s))

/-- READ_STATUS, R190. -/
def execReadStatus (s : State) : Host.Outcome State Fault Refusal :=
  .next (s.commandAfterCheck 0 fun s => (.ok s.statusBytes, s))

/-- ACK_ATTENTION, R188. -/
def execAckAttention (mask : Word16) (s : State) : Host.Outcome State Fault Refusal :=
  .next (s.command 2 fun s => s.ackAttention mask)

/-- SET_ATTENTION_ENABLE, R189. -/
def execSetAttentionEnable (mask : Word16) (s : State) : Host.Outcome State Fault Refusal :=
  .next (s.command 2 fun s => s.setAttentionEnable mask)

/-- SET_LAMP, R192. -/
def execSetLamp (lamp source polarity stretch : Byte) (s : State) : Host.Outcome State Fault Refusal :=
  .next (s.command 4 fun s => s.setLamp lamp source polarity stretch)

/-- LAMP_STRETCH_EXPIRY, R156, at the reading `time`. -/
def execLampStretchExpiry (lamp : LampId) (time : Word32) (s : State) : Host.Outcome State Fault Refusal :=
  .next ((s.atReading time).endStretch lamp)

/-- RESPONSE_READ, R180. -/
def execResponseRead (clocked : Nat) (s : State) : Host.Outcome State Fault Refusal :=
  .next (s.readResponse clocked)

/-! ### Written frames (R179) -/

/-- R182: a host command is carried out; what is no host command is carried by no frame. -/
def runHostCommand (i : Instr) (s : State) : Host.Outcome State Fault Refusal :=
  match i with
  | .identify => execIdentify s
  | .readStatus => execReadStatus s
  | .ackAttention m => execAckAttention m s
  | .setAttentionEnable m => execSetAttentionEnable m s
  | .setLamp l src pol str => execSetLamp l src pol str s
  | .loadJob p => execLoadJob p s
  | .releaseJob k => execReleaseJob k s
  | .holdJob k => execHoldJob k s
  | .amendJob k o al => execAmendJob k o al s
  | .closeJob k => execCloseJob k s
  | .readJob j => execReadJob j s
  | .findJob k => execFindJob k s
  | .readCopies j f n => execReadCopies j f n s
  | .writeClass c p => execWriteClass c p s
  | .writeBin b c => execWriteBin b c s
  | .writeRange r e l h c => execWriteRange r e l h c s
  | .setClassTable m f d => execSetClassTable m f d s
  | .setFilter n k w => execSetFilter n k w s
  | .setJawTimes h b => execSetJawTimes h b s
  | .readPress time => execReadPress time s
  | .setZone z l w => execSetZone z l w s
  | .setZoneMode z m => execSetZoneMode z m s
  | .readZone z => execReadZone z s
  | .lineClear => execLineClear s
  | .readPiece t a => execReadPiece t a s
  | .listLost p => execListLost p s
  | .resolveLost t a => execResolveLost t a s
  | .reinstate t a z => execReinstate t a z s
  | .readStation a => execReadStation a s
  | .powerOn _ _ => .next s
  | .memoryCheckPass => .next s
  | .memoryCheckFail => .next s
  | .unknownCommand _ => .next s
  | .responseRead _ => .next s
  | .forwardAdvance _ => .next s
  | .reverseAdvance _ => .next s
  | .exitEyeLeadingEdge _ _ => .next s
  | .pressIndex _ => .next s
  | .jawContactAsserted _ => .next s
  | .jawContactReleased _ => .next s
  | .hitTimerExpiry _ => .next s
  | .bridgeTimerExpiry _ => .next s
  | .overdwellTimerExpiry _ => .next s
  | .lampStretchExpiry _ _ => .next s
  | .poll => .next s
  | .replyFrame _ => .next s
  | .replyTimeout _ => .next s
  | .interByteGapExpiry _ => .next s
  | .frameAbandoned _ _ => .next s
  | .linkByteReceived _ => .next s

/-- R178, R179: a transaction is judged by its bytes: none is ignored, a first byte 0x80 is a read, and
any other is a written frame, answered BAD_FRAME or UNKNOWN_COMMAND or, where it spells a command, carried
out as that command. -/
def State.transact (s : State) (written : List Byte) : Host.Outcome State Fault Refusal :=
  match written with
  | [] => .next s
  | first :: rest =>
    if first = 0x80 then .next (s.readResponse rest.length)
    else
      match judgeFrame s.timeBase written with
      | .badFrame => .next (s.respond written.length (.refuse .badFrame))
      | .unknownCommand => .next (s.respond written.length (.refuse .unknownCommand))
      | .command i => runHostCommand i s

/-- UNKNOWN_COMMAND, R179: the bytes of a frame that is malformed or names no command. -/
def execUnknownCommand (written : List Byte) (s : State) : Host.Outcome State Fault Refusal := s.transact written

end Sys2Proof.Machine
end

