-- ==== Sys2Proof/Machine/Dispatch.lean ====
section
/-! DEFINITION. One arm per command of the table, each one call of its meaning. -/

namespace Sys2Proof.Machine

/-- The effect of a command on everything but the queue of waiting commands. -/
def exec (i : Instr) (s : State) : Host.Outcome State Fault Refusal :=
  match i with
  | .powerOn time jawAsserted => Sys2Proof.Machine.execPowerOn time jawAsserted s
  | .memoryCheckPass => Sys2Proof.Machine.execMemoryCheckPass s
  | .memoryCheckFail => Sys2Proof.Machine.execMemoryCheckFail s
  | .identify => Sys2Proof.Machine.execIdentify s
  | .readStatus => Sys2Proof.Machine.execReadStatus s
  | .ackAttention mask => Sys2Proof.Machine.execAckAttention mask s
  | .setAttentionEnable mask => Sys2Proof.Machine.execSetAttentionEnable mask s
  | .setLamp lamp source polarity stretch => Sys2Proof.Machine.execSetLamp lamp source polarity stretch s
  | .loadJob p => Sys2Proof.Machine.execLoadJob p s
  | .releaseJob key => Sys2Proof.Machine.execReleaseJob key s
  | .holdJob key => Sys2Proof.Machine.execHoldJob key s
  | .amendJob key ordered allowance => Sys2Proof.Machine.execAmendJob key ordered allowance s
  | .closeJob key => Sys2Proof.Machine.execCloseJob key s
  | .readJob slot => Sys2Proof.Machine.execReadJob slot s
  | .findJob key => Sys2Proof.Machine.execFindJob key s
  | .readCopies slot first count => Sys2Proof.Machine.execReadCopies slot first count s
  | .writeClass cls p => Sys2Proof.Machine.execWriteClass cls p s
  | .writeBin bin cls => Sys2Proof.Machine.execWriteBin bin cls s
  | .writeRange range enabled low high cls => Sys2Proof.Machine.execWriteRange range enabled low high cls s
  | .setClassTable master fixed defaultClass => Sys2Proof.Machine.execSetClassTable master fixed defaultClass s
  | .setFilter interval shift warmup => Sys2Proof.Machine.execSetFilter interval shift warmup s
  | .setJawTimes hit bridge => Sys2Proof.Machine.execSetJawTimes hit bridge s
  | .readPress time => Sys2Proof.Machine.execReadPress time s
  | .setZone zone length window => Sys2Proof.Machine.execSetZone zone length window s
  | .setZoneMode zone mode => Sys2Proof.Machine.execSetZoneMode zone mode s
  | .readZone zone => Sys2Proof.Machine.execReadZone zone s
  | .lineClear => Sys2Proof.Machine.execLineClear s
  | .readPiece tag admission => Sys2Proof.Machine.execReadPiece tag admission s
  | .listLost first => Sys2Proof.Machine.execListLost first s
  | .resolveLost tag admission => Sys2Proof.Machine.execResolveLost tag admission s
  | .reinstate tag admission zone => Sys2Proof.Machine.execReinstate tag admission zone s
  | .readStation address => Sys2Proof.Machine.execReadStation address s
  | .unknownCommand written => Sys2Proof.Machine.execUnknownCommand written s
  | .responseRead clocked => Sys2Proof.Machine.execResponseRead clocked s
  | .forwardAdvance z => Sys2Proof.Machine.execForwardAdvance z s
  | .reverseAdvance z => Sys2Proof.Machine.execReverseAdvance z s
  | .exitEyeLeadingEdge z time => Sys2Proof.Machine.execExitEyeLeadingEdge z time s
  | .pressIndex time => Sys2Proof.Machine.execPressIndex time s
  | .jawContactAsserted time => Sys2Proof.Machine.execJawContactAsserted time s
  | .jawContactReleased time => Sys2Proof.Machine.execJawContactReleased time s
  | .hitTimerExpiry time => Sys2Proof.Machine.execHitTimerExpiry time s
  | .bridgeTimerExpiry time => Sys2Proof.Machine.execBridgeTimerExpiry time s
  | .overdwellTimerExpiry time => Sys2Proof.Machine.execOverdwellTimerExpiry time s
  | .lampStretchExpiry lamp time => Sys2Proof.Machine.execLampStretchExpiry lamp time s
  | .poll => Sys2Proof.Machine.execPoll s
  | .replyFrame time => Sys2Proof.Machine.execReplyFrame time s
  | .replyTimeout time => Sys2Proof.Machine.execReplyTimeout time s
  | .interByteGapExpiry time => Sys2Proof.Machine.execInterByteGapExpiry time s
  | .frameAbandoned cause time => Sys2Proof.Machine.execFrameAbandoned cause time s
  | .linkByteReceived b => Sys2Proof.Machine.execLinkByteReceived b s

end Sys2Proof.Machine
end

