-- ==== Sys2Proof/Machine/Idle.lean ====
section
/-! DEFINITION. What the part does while no command waits: one millisecond of the time base passes, and
the timers that have then run out have their expiries queued (log 1). -/

namespace Sys2Proof.Machine

/-- R111, R112, R119: the press timers that have run out at `timeBase`, as the expiries to be taken. -/
def State.pressExpiries (s : State) : List Instr :=
  (if s.hitRunOut then [.hitTimerExpiry s.timeBase] else [])
    ++ (if s.bridgeRunOut then [.bridgeTimerExpiry s.timeBase] else [])
    ++ (if s.overdwellRunOut then [.overdwellTimerExpiry s.timeBase] else [])

/-- R156: the lamp stretches that have run out at `timeBase`. -/
def State.lampExpiries (s : State) : List Instr :=
  ((List.finRange 4).filter s.stretchRunOut).map fun l => .lampStretchExpiry l s.timeBase

/-- R111: a millisecond passes with no command waiting. -/
def State.idle (s : State) : State :=
  let s := { s with timeBase := s.timeBase + 1 }
  { s with pending := s.pressExpiries ++ s.lampExpiries }

end Sys2Proof.Machine
end

