-- ==== Sys2Proof/Safety.lean ====
section
/-! DEFINITION. What holds of the part at all times by the spec's laws of the device, each as a predicate
of the state, and the terms in which statements about commands are made. -/

namespace Sys2Proof.Safety

open Sys2Proof.Machine

/-! ### Laws of the device -/

/-- Law 3 (R39, R147, R161): no queue passes its capacity, and the receiver's buffer holds at most 38
bytes. -/
def WithinCapacity (s : State) : Prop :=
  (∀ z : ConveyorZone, (s.conveyor z).queue.length ≤ z.capacity) ∧ s.gateQueue.length ≤ 4 ∧
    s.link.buffer.length ≤ 38

/-- How many times a tag stands in the places of the line and the lost set. -/
def timesPlaced (s : State) (t : Tag) : Nat :=
  s.z1.queue.count t + s.z2.queue.count t + s.z4.queue.count t + s.z5.queue.count t + s.casing.toList.count t
    + s.pressEntry.toList.count t + s.jacketing.toList.count t
    + (s.press.positions.toList.filterMap id).count t + s.gateQueue.count t + s.lost.count t

/-- The tag stands in the place. -/
def StandsIn (s : State) (t : Tag) : Place → Prop
  | .conveyor z => t ∈ (s.conveyor z).queue
  | .casingSlot => s.casing = some t
  | .pressEntry => s.pressEntry = some t
  | .press i => s.press.positions[i] = some t
  | .jacketingSlot => s.jacketing = some t
  | .gateQueue => t ∈ s.gateQueue
  | .lost => t ∈ s.lost

/-- R7, R13, R110: a free tag stands nowhere; an in-use record stands once, in the place its place field
names, it has an entry count just while that is a conveyor queue, and it has its dwell limits while that is
a press position. -/
def PlacesAgree (s : State) : Prop :=
  ∀ t : Tag,
    match s.piece t with
    | none => timesPlaced s t = 0
    | some p =>
      timesPlaced s t = 1 ∧ StandsIn s t p.place ∧ (p.entryCount.isSome ↔ ∃ z, p.place = .conveyor z) ∧
        ((∃ i, p.place = .press i) → p.limits.isSome)

/-- R43, R44, R154: a zone in RESET holds no piece, and no gate order waits while Z5 is in RESET. -/
def ResetZonesEmpty (s : State) : Prop :=
  (∀ z, s.mode z = .reset → s.piecesOf z = []) ∧
    (s.z5.mode = .reset → ∀ a o t, Order.gate o t ∉ (s.station a).orders)

/-- How many in-use records name a job slot. -/
def livePieces (s : State) (j : JobSlot) : Nat :=
  (List.finRange 96).countP fun t =>
    match s.piece t with
    | some p => p.job == some j
    | none => false

/-- Laws 4 and 5 (R33, R38): a job's live count is the number of in-use records that name its slot, and
none names an EMPTY slot. -/
def LiveCountsExact (s : State) : Prop :=
  ∀ j : JobSlot,
    match s.job j with
    | some b => b.live = livePieces s j
    | none => livePieces s j = 0

/-- R21, R24: a key is held once; each numbered job has its copy table, of one entry for each copy of its
range, to itself. -/
def JobTableSound (s : State) : Prop :=
  (∀ j k b c, s.job j = some b → s.job k = some c → b.key = c.key → j = k) ∧
    (∀ j b n, s.job j = some b → b.numbered = some n →
      1 ≤ n.first ∧ n.first ≤ n.last ∧ n.last ≤ 65535 ∧ n.last - n.first + 1 ≤ 2048 ∧
        (s.copyTables[n.table]).length = n.last - n.first + 1) ∧
    ∀ j k b c n m, s.job j = some b → s.job k = some c → b.numbered = some n → c.numbered = some m →
      n.table = m.table → j = k

/-- How many in-use records of a job carry a copy as a clean block of it (R76). -/
def cleanCarriers (s : State) (j : JobSlot) (copy : Nat) : Nat :=
  (List.finRange 96).countP fun t =>
    match s.piece t with
    | some p => p.job == some j && p.copy == some copy && p.faults &&& 0x000C == 0
    | none => false

/-- Law 7 (R77): for each copy in a numbered job's range, the entry is IN_LINE just when one in-use record
of the job carries the copy cleanly, and never do two. -/
def CopiesAgree (s : State) : Prop :=
  ∀ j b n, s.job j = some b → b.numbered = some n → ∀ copy, n.first ≤ copy → copy ≤ n.last →
    cleanCarriers s j copy ≤ 1 ∧ ((s.copyTables[n.table])[copy - n.first]? = some .inLine ↔ cleanCarriers s j copy = 1)

/-- How many in-use records of a job were admitted without OVER_QUANTITY (R36). -/
def withinLimit (s : State) (j : JobSlot) : Nat :=
  (List.finRange 96).countP fun t =>
    match s.piece t with
    | some p => p.job == some j && p.faults &&& 0x0002 == 0
    | none => false

/-- Law 6 (R36): a job's good count and its pieces without OVER_QUANTITY never exceed its ordered number and over
allowance. -/
def GoodWithinLimit (s : State) : Prop :=
  ∀ j b, s.job j = some b → b.good + withinLimit s j ≤ b.ordered + b.allowance

/-- Law 8 (R6): present dwell limits lie in their ranges. -/
def DwellLimitsLegal (s : State) : Prop :=
  ∀ t p l, s.piece t = some p → p.limits = some l →
    100 ≤ l.dmin ∧ l.dmin ≤ 60000 ∧ l.dmin + 200 ≤ l.dmax ∧ l.dmax ≤ 65000

/-- 6.1: the filter's settings, counters and Tf lie in their ranges. -/
def FilterLegal (f : Filter) : Prop :=
  f.interval ≤ 255 ∧ 1 ≤ f.shift ∧ f.shift ≤ 6 ∧ 1 ≤ f.warmup ∧ f.warmup ≤ 255 ∧ f.sampleCount ≤ f.warmup ∧
    (f.reportCounter = 0 ∨ f.reportCounter < f.interval) ∧ -500 ≤ f.tf ∧ f.tf ≤ 3000

/-- A station holds a role: it claims it with standing ASSIGNED (R170). -/
def Holds (s : State) (a : Address) (r : Role) : Prop :=
  (s.station a).role = some r ∧ (s.station a).standing = some .assigned

/-- R170, R174, R175, law 11: the entries of the station table agree in themselves, gate orders wait at a claimant
of GATE and a JAW_RELEASE, alone, at a claimant of PRESS, and each role is held by at most one station. -/
def StationsSound (s : State) : Prop :=
  (∀ a : Address, let st := s.station a
    (st.role.isSome ↔ st.standing.isSome) ∧ (st.role = none → st.abilities = 0) ∧
      (∀ r, st.role = some r → st.abilities &&& ~~~r.mayAnnounce = 0) ∧
      (st.present = false → st.role = none ∧ st.orders = []) ∧ st.silent ≤ 3 ∧
      (st.standing ≠ some .assigned → st.orders = []) ∧
      (∀ o t, Order.gate o t ∈ st.orders → st.role = some .gate) ∧
      (Order.jawRelease ∈ st.orders → st.role = some .press ∧ st.orders = [.jawRelease])) ∧
    ∀ a b r, Holds s a r → Holds s b r → a = b

/-- R175: no station's order queue holds more than 4 orders. -/
def OrdersWithinCapacity (s : State) : Prop := ∀ a : Address, (s.station a).orders.length ≤ 4

/-- R159, R170: the direction output is released, and until the power-up check has passed the link and the station
table are as at power-on. -/
def LinkQuiet (s : State) : Prop :=
  s.link.direction = false ∧
    (s.check ≠ .pass → s.link = Link.powerOn ∧ ∀ a : Address, s.station a = Station.powerOn)

/-- The piece that an order acts on; a JAW_RELEASE acts on none. -/
def gateTag : Order → Option Tag
  | .gate _ t => some t
  | .jawRelease => none

/-- R147: the pieces whose orders wait at the gate station, oldest first. -/
def waitingTags (s : State) : List Tag :=
  match s.holder .gate with
  | some a => (s.station a).orders.filterMap gateTag
  | none => []

/-- R147, R150, R175: gate orders wait only at the station that holds GATE; one is in flight only while its
exchange is in progress; and the gate order queue is the pieces whose orders wait, in their order, after at
most the one in flight. -/
def GateQueueSound (s : State) : Prop :=
  (∀ a o t, Order.gate o t ∈ (s.station a).orders → s.holder .gate = some a) ∧
    (∀ f, s.gateInFlight = some f →
      ∃ ex, s.link.exchange = some ex ∧ ex.carried = some (.gate f.order f.tag)) ∧
    (s.gateQueue = waitingTags s ∨
      ∃ f p, s.gateInFlight = some f ∧ s.gateQueue = f.tag :: waitingTags s ∧ s.piece f.tag = some p ∧
        p.admission = f.admission)

/-- R148, R157: what a piece that an order would deliver carries; one to be delivered marked is of a job that
passes overdwell marked, and the gate station has MARK. -/
def Deliverable (s : State) (o : Disposition) (p : Piece) : Prop :=
  p.caseStatus = .married ∧ (p.jacketStatus = .married ∨ p.jacketStatus = .notRequired) ∧
    if o = .deliver then p.faults = 0
    else p.faults = 0x0200 ∧ (∃ b, p.job.bind s.job = some b ∧ b.overdwellPolicy = .passMarked) ∧
      ∃ a, s.holder .gate = some a ∧ (s.station a).abilities &&& 0x40 ≠ 0

/-- Law 9 (R157): each gate order that would deliver, waiting or in flight, names a deliverable piece, and the
piece of an order in flight stands in the gate order queue while it is in use. -/
def DeliveriesSound (s : State) : Prop :=
  (∀ a o t p, Order.gate o t ∈ (s.station a).orders → o ≠ .divert → s.piece t = some p → Deliverable s o p) ∧
    ∀ f p, s.gateInFlight = some f → s.piece f.tag = some p → p.admission = f.admission →
      f.tag ∈ s.gateQueue ∧ (f.order ≠ .divert → Deliverable s f.order p)

/-- R8, R145, R157: a piece with no fault, or with OVERDWELL alone, is MARRIED from the casing slot on; before
it leaves that slot it carries no OVERDWELL and was not skipped; and it is not lost. -/
def CleanPiecesMarried (s : State) : Prop :=
  ∀ t p, s.piece t = some p → p.faults = 0 ∨ p.faults = 0x0200 →
    match p.place with
    | .conveyor .z1 => p.faults = 0 ∧ p.caseStatus ≠ .skipped
    | .casingSlot => p.faults = 0 ∧ p.caseStatus ≠ .skipped
    | .lost => False
    | _ => p.caseStatus = .married

/-! ### Terms of the statements -/

/-- R21, R26: every field of the parameters of LOAD_JOB lies in its range. -/
def LegalJob (p : JobParams) : Prop :=
  p.key ≠ 0 ∧ (40 ≤ p.nominal.toNat ∧ p.nominal.toNat ≤ 1600) ∧ p.tolerance.toNat ≤ 200 ∧ p.caseCode ≠ 0 ∧
    ((p.firstCopy = 0 ∧ p.lastCopy = 0) ∨
      (p.firstCopy ≠ 0 ∧ p.firstCopy.toNat ≤ p.lastCopy.toNat ∧
        p.lastCopy.toNat - p.firstCopy.toNat + 1 ≤ 2048)) ∧
    (p.classOverride = 0xFF ∨ p.classOverride.toNat ≤ 7) ∧
    (1 ≤ p.ordered.toNat ∧ p.ordered.toNat ≤ 60000) ∧ p.casePolicy.toNat ≤ 1 ∧ p.jacketPolicy.toNat ≤ 1 ∧
    (1 ≤ p.mismatchLimit.toNat ∧ p.mismatchLimit.toNat ≤ 15) ∧ p.overdwellPolicy.toNat ≤ 1

/-- R21, R26, R27: a job holds the fields that parameters carry, its copy range and table apart, and is
LOADED with its counts at 0. -/
def Loads (p : JobParams) (b : Job) : Prop :=
  b.state = .loaded ∧ b.key = p.key ∧ b.nominal = p.nominal.toNat ∧ b.tolerance = p.tolerance.toNat ∧
    b.caseCode = p.caseCode ∧ b.jacketCode = (if p.jacketCode = 0 then none else some p.jacketCode) ∧
    b.classOverride.map Fin.val = (if p.classOverride = 0xFF then none else some p.classOverride.toNat) ∧
    b.ordered = p.ordered.toNat ∧ b.allowance = p.allowance.toNat ∧
    b.casePolicy = (if p.casePolicy = 1 then .holdStation else .divertPiece) ∧
    b.jacketPolicy = (if p.jacketPolicy = 1 then .holdStation else .divertPiece) ∧
    b.mismatchLimit = p.mismatchLimit.toNat ∧
    b.overdwellPolicy = (if p.overdwellPolicy = 1 then .passMarked else .divert) ∧
    b.good = 0 ∧ b.diverted = 0 ∧ b.spoiled = 0 ∧ b.live = 0

/-- R33, R34, R37: what a job slot holds after the spoiled retirement of this many of its pieces. -/
def spoiledBy (n : Nat) (slot : Option Job) : Option Job :=
  slot.bind fun b =>
    if n = 0 then some b
    else if b.state = .closing ∧ b.live ≤ n then none
    else some { b with live := b.live - n, spoiled := min (b.spoiled + n) 65535 }

/-- R24: no job is bound to the copy table. -/
def TableFree (s : State) (t : CopyTableId) : Prop := ∀ j b n, s.job j = some b → b.numbered = some n → n.table ≠ t

/-- R82: the figures of a class record as WRITE_CLASS carries them lie in their ranges. -/
def LegalFigures (p : ClassParams) : Prop :=
  (500 ≤ p.base.toNat ∧ p.base.toNat ≤ 20000) ∧ p.rate.toNat ≤ 2000 ∧
    (500 ≤ p.nominalTemp.toNat ∧ p.nominalTemp.toNat ≤ 2500) ∧ p.coldLimit.toNat ≤ 500 ∧
    (110 ≤ p.factor.toNat ∧ p.factor.toNat ≤ 400)

/-- R182: the data length of an OK response, for the commands whose responses all have one length. -/
def okDataLength (code : Byte) : Option Nat :=
  match code.toNat with
  | 0x01 => some 4
  | 0x02 => some 13
  | 0x03 => some 0
  | 0x04 => some 0
  | 0x05 => some 0
  | 0x10 => some 1
  | 0x11 => some 0
  | 0x12 => some 0
  | 0x13 => some 0
  | 0x14 => some 0
  | 0x15 => some 34
  | 0x16 => some 35
  | 0x20 => some 0
  | 0x21 => some 0
  | 0x22 => some 0
  | 0x23 => some 155
  | 0x28 => some 0
  | 0x29 => some 0
  | 0x2A => some 16
  | 0x30 => some 0
  | 0x31 => some 0
  | 0x33 => some 0
  | 0x38 => some 26
  | 0x3A => some 0
  | 0x3B => some 0
  | _ => none

end Sys2Proof.Safety
end

