-- ==== Sys2Proof/Certificates/Slice0/Obligations.lean ====
section
/-! DEFINITION. The statements about the CJ40 for the provers. Where a statement says what a command does it
gives the next state as the old one with the changed fields named, so that the rest is unchanged, wherever the
rule allows that form. The model's own choices are named by their log entry. -/

open Sys2Proof Sys2Proof.Machine Sys2Proof.Safety

/-! ### The machine -/

/-- The model's queue (log 1): a step carries out the command at its front on the state with the rest. -/
def Obligations.StepRunsFrontCommand : Prop :=
  ∀ (c : Instr) (rest : List Instr) (s : State),
    step { s with pending := c :: rest } = exec c { s with pending := rest }

/-- The model's idle step (log 1): a millisecond passes, and just the expiries that are due then wait. -/
def Obligations.IdleStepPassesMillisecond : Prop :=
  ∀ s : State, s.pending = [] →
    ∃ due : List Instr,
      step s = .next { s with timeBase := s.timeBase + 1, pending := due } ∧
        ∀ c : Instr, c ∈ due ↔
          (c = .hitTimerExpiry (s.timeBase + 1) ∧ s.press.jaw = .closing ∧
            ∃ d, s.press.hitTimer = some d ∧
              (d - s.press.assertionTime).toNat ≤ (s.timeBase + 1 - s.press.assertionTime).toNat) ∨
          (c = .bridgeTimerExpiry (s.timeBase + 1) ∧ s.press.jaw = .opening ∧
            ∃ d, s.press.bridgeTimer = some d ∧
              (d - s.press.releaseTime).toNat ≤ (s.timeBase + 1 - s.press.releaseTime).toNat) ∨
          (c = .overdwellTimerExpiry (s.timeBase + 1) ∧ s.press.overdwellDeferred = false ∧
            ∃ d, s.press.overdwellTimer = some d ∧
              (d - s.press.closeTime).toNat ≤ (s.timeBase + 1 - s.press.closeTime).toNat) ∨
          ∃ l : LampId, c = .lampStretchExpiry l (s.timeBase + 1) ∧
            ∃ e start, s.lamps[l].stretchEnd = some e ∧ start = e - BitVec.ofNat 32 s.lamps[l].stretch ∧
              (e - start).toNat ≤ (s.timeBase + 1 - start).toNat

/-- Log 1: every command answers a next state, and none but the step itself touches the queue. -/
def Obligations.EveryCommandAnswersAndLeavesQueue : Prop :=
  ∀ (c : Instr) (s : State), ∃ t, exec c s = .next t ∧ t.pending = s.pending

/-- R1, R22, R40, R79, R93, R110, R112, R114, R130, R147, R159, R161, R166, R170, R180, R183, R186, R191: the values at
power-on. The readings that the spec leaves open (log 2) are not among them. The jaw state OPEN with no hit timer running
is that of a power-on with the jaw-contact input released, which State.reset takes (log 4). -/
def Obligations.ResetHoldsPowerOnValues : Prop :=
  State.reset.freeCount = 96 ∧ State.reset.admissionCounter = 0 ∧
    (∀ j, State.reset.job j = none) ∧ (∀ t, TableFree State.reset t) ∧
    (∀ b : Fin 16, State.reset.classTable.bins[b] = none) ∧
    (∀ r : Fin 8, State.reset.classTable.ranges[r] = { enabled := false, low := 0, high := 0, cls := 0 }) ∧
    State.reset.classTable.defaultClass = 0 ∧ State.reset.classTable.master = false ∧
    State.reset.classTable.fixed = false ∧
    (∀ c : Sys2Proof.Class, State.reset.classTable.records[c] =
      { base := 2000, rate := 100, nominalTemp := 1200, coldLimit := 100, gain := 8, factor := 200 }) ∧
    State.reset.filter = { interval := 0, shift := 3, warmup := 16, reportCounter := 0, sampleCount := 0, tf := 0 } ∧
    State.reset.filter.state = .off ∧
    (∀ i : Fin 12, State.reset.press.positions[i] = none) ∧ State.reset.press.jaw = .opened ∧
    State.reset.press.hitTimer = none ∧ State.reset.press.bridgeTimer = none ∧
    State.reset.press.overdwellTimer = none ∧ State.reset.press.hitTime = 20 ∧ State.reset.press.bridgeTime = 50 ∧
    (∀ z, State.reset.mode z = .reset ∧ State.reset.holdOutput z = true ∧ State.reset.piecesOf z = []) ∧
    (∀ z, (State.reset.conveyor z).length = 400 ∧ (State.reset.conveyor z).window = 40 ∧
      (State.reset.conveyor z).encoder = 0) ∧
    State.reset.lost = [] ∧ State.reset.casingMismatch = 0 ∧ State.reset.jacketingMismatch = 0 ∧
    State.reset.gateInFlight = none ∧
    (∀ a, State.reset.station a =
      { present := false, latch := false, silent := 0, role := none, standing := none, abilities := 0, orders := [] }) ∧
    State.reset.link.next = 0 ∧ State.reset.link.exchange = none ∧ State.reset.link.rx = .outside ∧
    State.reset.link.buffer = [] ∧ State.reset.link.direction = false ∧
    State.reset.check = .running ∧ (∀ a, State.reset.flagSet a = false) ∧ State.reset.enables = 0 ∧
    State.reset.attentionLine = false ∧ State.reset.ready = false ∧
    ∀ l, State.reset.lamps[l] = { source := .off, polarity := .activeHigh, stretch := 100, stretchEnd := none } ∧
      State.reset.lampOutput l = false

/-- R112, R183, R184: POWER_ON gives the power-on values at its reading, with an asserted jaw-contact input
taken as an assertion; the check ends once, and until it passes the link is silent (R159). The queue of
waiting commands is the model's own and stays (log 1); an end of a check that is not running changes nothing
(log 10). -/
def Obligations.PowerUp : Prop :=
  (∀ (now : Word32) (s : State),
    exec (.powerOn now false) s = .next { State.reset with timeBase := now, pending := s.pending } ∧
    exec (.powerOn now true) s = .next
      { State.reset with
        timeBase := now
        pending := s.pending
        press :=
          { State.reset.press with
            jaw := .closing
            assertionTime := now
            hitTimer := some (now + 20) } }) ∧
  (∀ s : State, s.check = .running →
    exec .memoryCheckPass s = .next { s with check := .pass } ∧
    exec .memoryCheckFail s = .next { s with check := .fail, flags := s.flags ||| 0x100 }) ∧
  (∀ s : State, s.check ≠ .running → exec .memoryCheckPass s = .next s ∧ exec .memoryCheckFail s = .next s) ∧
  ∀ (s : State) (b : Byte) (now : Word32), s.check ≠ .pass →
    exec .poll s = .next s ∧ exec (.linkByteReceived b) s = .next s ∧
      exec (.replyFrame now) s = .next { s with timeBase := now } ∧
      exec (.frameAbandoned (.byte b) now) s = .next { s with timeBase := now }

/-! ### The supervisor port (chapter 11) -/

/-- R179 check 4, R183, R184: a host command is answered NOT_READY with the check result while the check has
not passed, but for IDENTIFY (0x01) and READ_STATUS (0x02) after a failed check; nothing else changes but,
where the command carries one, the reading of the time base. -/
def Obligations.NotReadyUntilCheckPasses : Prop :=
  ∀ (i : Instr) (code : Byte) (s : State), commandCode i = some code →
    (s.check = .running ∨ (s.check = .fail ∧ code ≠ 0x01 ∧ code ≠ 0x02)) →
    ∃ (now : Word32) (result : Byte),
      result = (match s.check with
        | .running => 0
        | .pass => 1
        | .fail => 2) ∧
      exec i s = .next
        { s with
          timeBase := now
          response := some [0x0B, 1, result, -(0x0C + result)]
          clockedOut := List.replicate ((parameterBytes i).length + 3) 0xFF } ∧
        ((∀ u, i ≠ .readPress u) → now = s.timeBase)

/-- R180, R181: every host command leaves a response held: its status code, its length, its data and a check
byte that makes the sum 0. In its write the port clocked out 0xFF throughout (R178). The response is that of the
reply given, with the status codes of R181; multi-byte values go most significant byte first (R182). -/
def Obligations.HostCommandLeavesResponse : Prop :=
  (∀ status : Status, (status, status.code) ∈
    [(Status.ok, (0x00 : Byte)), (.badFrame, 0x01), (.unknownCommand, 0x02), (.badValue, 0x03), (.noSuchJob, 0x04),
      (.duplicateKey, 0x05), (.tableFull, 0x06), (.copyTableFull, 0x07), (.wrongState, 0x08), (.noSuchPiece, 0x09),
      (.zoneFull, 0x0A), (.notReady, 0x0B)]) ∧
  (∀ (s : State) (written : Nat) (data : List Byte),
    s.respond written (.ok data) = { s with
      response := some (0x00 :: BitVec.ofNat 8 data.length :: data
        ++ [-(0x00 + BitVec.ofNat 8 data.length + data.foldl (· + ·) 0)])
      clockedOut := List.replicate written 0xFF }) ∧
  (∀ (s : State) (written : Nat) (status : Status),
    s.respond written (.refuse status) = { s with
      response := some [status.code, 0, -status.code]
      clockedOut := List.replicate written 0xFF }) ∧
  (∀ bytes : List Byte, byteSum bytes = bytes.foldl (· + ·) 0) ∧
  (∀ n : Nat, byteOf n = BitVec.ofNat 8 n ∧ bytes16 n = split16 (BitVec.ofNat 16 n)) ∧
  (∀ a b c d : Byte, split16 (a ++ b) = [a, b] ∧ split24 (a ++ b ++ c) = [a, b, c] ∧
    split32 (a ++ b ++ c ++ d) = [a, b, c, d]) ∧
  ∀ (i : Instr) (code : Byte) (s : State), commandCode i = some code →
    ∃ (t : State) (r : Reply) (sum : Byte), exec i s = .next t ∧ t.ready = true ∧
      t.response = some (r.status.code :: byteOf r.data.length :: r.data ++ [sum]) ∧
      byteSum (r.status.code :: byteOf r.data.length :: r.data ++ [sum]) = 0 ∧
      (r.status ≠ .ok → r.status ≠ .notReady → r.data = []) ∧
      t.clockedOut = List.replicate ((parameterBytes i).length + 3) 0xFF

/-- R182: an OK response carries the data length that the table gives its command. -/
def Obligations.OkResponsesHaveTableLength : Prop :=
  ∀ (i : Instr) (code : Byte) (n : Nat) (s t : State) (rest : List Byte), commandCode i = some code →
    okDataLength code = some n → exec i s = .next t → t.response = some (0x00 :: rest) →
    rest.length = n + 2 ∧ rest.head? = some (byteOf n)

/-- R185, R190: IDENTIFY and READ_STATUS once the check has ended. The revision is one the part fixes for
itself (log 6). -/
def Obligations.IdentifyAndReadStatusAnswer : Prop :=
  (∃ revision : Byte, 1 ≤ revision ∧ revision ≤ 15 ∧ ∀ s : State, s.check ≠ .running →
    exec .identify s = .next (s.respond 3 (.ok [0x3C, 0x28, revision, if s.check = .pass then 1 else 2]))) ∧
  ∀ (s : State) (mode : ZoneMode → Byte), s.check ≠ .running →
    mode .run = 0 → mode .halt = 1 → mode .reset = 2 →
    exec .readStatus s = .next (s.respond 3 (.ok
      (split16 (s.flags.setWidth 16) ++ split16 (s.enables.setWidth 16)
        ++ split16 ((s.flags &&& (s.enables ||| 0x100)).setWidth 16)
        ++ [mode s.z1.mode, mode s.z2.mode, mode s.z3Mode, mode s.z4.mode, mode s.z5.mode,
            byteOf ((List.finRange 96).countP fun t => (s.piece t).isNone), byteOf s.lost.length])))

/-- R187, R188, R189: the attention line is asserted while a flag is set that is enabled or is MEMORY_FAIL,
and lamp source ATTENTION follows it; ACK_ATTENTION clears just the named flags, whether a raising was taken
before it or is taken after it; SET_ATTENTION_ENABLE replaces the nine enables and changes no flag. The bits of the flags stand first. -/
def Obligations.AttentionCommandsAndLine : Prop :=
  (∀ (a : Attention) (s : State),
    (a, a.bit) ∈ [(Attention.jobComplete, (0x001 : BitVec 9)), (.tracking, 0x002), (.mismatch, 0x004),
      (.overdwell, 0x008), (.coldPress, 0x010), (.pressSequence, 0x020), (.stationChange, 0x040),
      (.poolExhausted, 0x080), (.memoryFail, 0x100)] ∧
    (s.flagSet a = true ↔ s.flags &&& a.bit ≠ 0) ∧ s.raise a = { s with flags := s.flags ||| a.bit }) ∧
  (∀ s : State,
    (s.attentionLine = true ↔
      ∃ a : Attention, s.flagSet a = true ∧ (a = .memoryFail ∨ s.enables &&& a.bit ≠ 0)) ∧
    ∀ l, s.lamps[l].source = .attention → s.lampLit l = s.attentionLine) ∧
  ∀ (mask : Word16) (s : State), s.check = .pass →
    (mask &&& 0xFE00 ≠ 0 →
      exec (.ackAttention mask) s = .next (s.respond 5 (.refuse .badValue)) ∧
      exec (.setAttentionEnable mask) s = .next (s.respond 5 (.refuse .badValue))) ∧
    (mask &&& 0xFE00 = 0 →
      (∃ flags : BitVec 9, exec (.ackAttention mask) s = .next ({ s with flags := flags }.respond 5 (.ok [])) ∧
        (∀ i : Fin 9, flags.getLsbD i = (s.flags.getLsbD i && !mask.getLsbD i)) ∧
        ∀ a, ({ s with flags := flags }.raise a).flagSet a = true) ∧
      ∃ enables : BitVec 9,
        exec (.setAttentionEnable mask) s = .next ({ s with enables := enables }.respond 5 (.ok [])) ∧
          ∀ i : Fin 9, enables.getLsbD i = mask.getLsbD i)

/-- R156, R191, R192: SET_LAMP replaces the three settings and ends the stretch; a lamp is lit by its source
and drives its output by its polarity; a pulse starts the stretch of its lamps anew, and the stretch's end
puts the lamp out. The stretch is measured on the millisecond time base (log 9), from the reading last taken
(log 2). -/
def Obligations.LampsShowTheirSource : Prop :=
  (∀ (l : LampId) (src : LampSource) (source polarity stretch : Byte) (s : State), s.check = .pass →
    [.off, .on, .allRun, .anyHalt, .attention, .lostPresent, .cold, .deliverPulse, .divertPulse][source.toNat]?
      = some src →
    polarity.toNat ≤ 1 → stretch.toNat ≤ 3 →
    exec (.setLamp (byteOf l.val) source polarity stretch) s = .next ({ s with
      lamps := s.lamps.set l
        { source := src
          polarity := if polarity = 0 then .activeHigh else .activeLow
          stretch := [50, 100, 200, 500].getD stretch.toNat 0
          stretchEnd := none } }.respond 7 (.ok []))) ∧
  (∀ (lamp source polarity stretch : Byte) (s : State), s.check = .pass →
    (3 < lamp.toNat ∨ 8 < source.toNat ∨ 1 < polarity.toNat ∨ 3 < stretch.toNat) →
    exec (.setLamp lamp source polarity stretch) s = .next (s.respond 7 (.refuse .badValue))) ∧
  (∀ (s : State) (l : LampId),
    (s.lampLit l = true ↔
      match s.lamps[l].source with
      | .off => False
      | .on => True
      | .allRun => ∀ z, s.mode z = .run
      | .anyHalt => ∃ z, s.mode z = .halt
      | .attention => s.attentionLine = true
      | .lostPresent => s.lost ≠ []
      | .cold => s.flagSet .coldPress = true
      | .deliverPulse => s.lamps[l].stretchEnd ≠ none
      | .divertPulse => s.lamps[l].stretchEnd ≠ none) ∧
    (s.lampOutput l = true ↔ (s.lamps[l].polarity = .activeHigh ↔ s.lampLit l = true))) ∧
  (∀ (s : State) (source : LampSource) (l : LampId),
    (s.pulse source).lamps[l] =
      if s.lamps[l].source = source then
        { s.lamps[l] with stretchEnd := some (s.timeBase + BitVec.ofNat 32 s.lamps[l].stretch) }
      else s.lamps[l]) ∧
  ∀ (s : State) (l : LampId) (start now : Word32),
    s.lamps[l].stretchEnd = some (start + BitVec.ofNat 32 s.lamps[l].stretch) → s.lamps[l].stretch ≤ 500 →
    exec (.lampStretchExpiry l now) s = .next
      (if s.lamps[l].stretch ≤ (now - start).toNat then
        { s with timeBase := now, lamps := s.lamps.set l { s.lamps[l] with stretchEnd := none } }
       else { s with timeBase := now })

/-- R179, R182: each host command has its code and parameter bytes, its frame is its code, their number, the
parameters and the check byte, and the frame is judged as that command. READ_PRESS carries the reading at which it
is judged. -/
def Obligations.HostFrameRoundTrip : Prop :=
  (∀ i : Instr,
    (commandCode i, parameterBytes i) =
      match i with
      | .identify => (some 0x01, [])
      | .readStatus => (some 0x02, [])
      | .ackAttention m => (some 0x03, split16 m)
      | .setAttentionEnable m => (some 0x04, split16 m)
      | .setLamp l source polarity stretch => (some 0x05, [l, source, polarity, stretch])
      | .loadJob p => (some 0x10,
          split32 p.key ++ split16 p.nominal ++ split16 p.tolerance ++ split24 p.caseCode ++ split24 p.jacketCode
            ++ split16 p.firstCopy ++ split16 p.lastCopy ++ [p.classOverride] ++ split16 p.ordered
            ++ [p.allowance, p.casePolicy, p.jacketPolicy, p.mismatchLimit, p.overdwellPolicy])
      | .releaseJob key => (some 0x11, split32 key)
      | .holdJob key => (some 0x12, split32 key)
      | .amendJob key ordered allowance => (some 0x13, split32 key ++ split16 ordered ++ [allowance])
      | .closeJob key => (some 0x14, split32 key)
      | .readJob slot => (some 0x15, [slot])
      | .findJob key => (some 0x16, split32 key)
      | .readCopies slot first count => (some 0x17, [slot] ++ split16 first ++ [count])
      | .writeClass c p => (some 0x20,
          [c] ++ split16 p.base ++ split16 p.rate ++ split16 p.nominalTemp ++ split16 p.coldLimit ++ [p.gain]
            ++ split16 p.factor)
      | .writeBin bin c => (some 0x21, [bin, c])
      | .writeRange range enabled low high c => (some 0x22, [range, enabled] ++ split16 low ++ split16 high ++ [c])
      | .setClassTable master fixed defaultClass => (some 0x23, [master, fixed, defaultClass])
      | .setFilter interval shift warmup => (some 0x28, [interval, shift, warmup])
      | .setJawTimes hit bridge => (some 0x29, split16 hit ++ split16 bridge)
      | .readPress _ => (some 0x2A, [])
      | .setZone zone length window => (some 0x30, [zone] ++ split16 length ++ split16 window)
      | .setZoneMode zone mode => (some 0x31, [zone, mode])
      | .readZone zone => (some 0x32, [zone])
      | .lineClear => (some 0x33, [])
      | .readPiece tag admission => (some 0x38, [tag] ++ split16 admission)
      | .listLost first => (some 0x39, [first])
      | .resolveLost tag admission => (some 0x3A, [tag] ++ split16 admission)
      | .reinstate tag admission zone => (some 0x3B, [tag] ++ split16 admission ++ [zone])
      | .readStation address => (some 0x40, [address])
      | _ => (none, [])) ∧
  (∀ i : Instr, commandCode i = none → commandFrame i = none) ∧
  (∀ (i : Instr) (code : Byte), commandCode i = some code →
    parameterCount code = some (parameterBytes i).length ∧
    ∃ n : Byte, n = BitVec.ofNat 8 (parameterBytes i).length ∧
      commandFrame i = some (code :: n :: parameterBytes i ++ [-(code + n + (parameterBytes i).foldl (· + ·) 0)])) ∧
  ∀ (i : Instr) (w : List Byte) (now : Word32), commandFrame i = some w → (∀ u, i = .readPress u → u = now) →
    judgeFrame now w = .command i

/-- R178, R179, R181, R182: a transaction without a whole byte is ignored, and one that begins with 0x80 is a read
(such bytes are terms of this row by log 14). A written frame that fails check 1 or 3 is answered BAD_FRAME, one that fails check 2
UNKNOWN_COMMAND, and one that passes them is carried out as its command. -/
def Obligations.WrittenFramesAreJudged : Prop :=
  (∀ s : State, exec (.unknownCommand []) s = .next s) ∧
  (∀ (rest : List Byte) (s : State), exec (.unknownCommand (0x80 :: rest)) s = exec (.responseRead rest.length) s) ∧
  (∀ (code n : Byte) (rest : List Byte) (s : State), code ≠ 0x80 →
    ((rest = [] ∨ 60 < n.toNat ∨ rest.length ≠ n.toNat + 1 ∨ byteSum (code :: n :: rest) ≠ 0) →
      exec (.unknownCommand (code :: n :: rest)) s = .next (s.respond (rest.length + 2) (.refuse .badFrame))) ∧
    (n.toNat ≤ 60 → rest.length = n.toNat + 1 → byteSum (code :: n :: rest) = 0 → parameterCount code = none →
      exec (.unknownCommand (code :: n :: rest)) s
        = .next (s.respond (rest.length + 2) (.refuse .unknownCommand))) ∧
    (∀ k, n.toNat ≤ 60 → rest.length = n.toNat + 1 → byteSum (code :: n :: rest) = 0 →
      parameterCount code = some k → n.toNat ≠ k →
      exec (.unknownCommand (code :: n :: rest)) s = .next (s.respond (rest.length + 2) (.refuse .badFrame))) ∧
    exec (.unknownCommand [code]) s = .next (s.respond 1 (.refuse .badFrame)) ∧
    (parameterCount code = none ↔ ∀ i, commandCode i ≠ some code)) ∧
  ∀ (i : Instr) (w : List Byte) (s : State), commandFrame i = some w →
    (∀ u, i = .readPress u → u = s.timeBase) → exec (.unknownCommand w) s = exec i s

/-- R178, R180: READY is asserted just while a response is held; a read clocks the held response out from its
second byte on and 0xFF past its end; it is consumed when it was clocked out whole. The byte clocked against the first byte in is 0xFF (log 8). -/
def Obligations.ResponseReadConsumesWholeResponse : Prop :=
  ∀ (n : Nat) (s : State),
    (s.ready = true ↔ s.response ≠ none) ∧
    (s.response = none → exec (.responseRead n) s = .next { s with clockedOut := List.replicate (n + 1) 0xFF }) ∧
    ∀ r, s.response = some r →
      (r.length ≤ n → exec (.responseRead n) s = .next
        { s with response := none, clockedOut := 0xFF :: (r ++ List.replicate (n - r.length) 0xFF) }) ∧
      (n < r.length → exec (.responseRead n) s = .next { s with clockedOut := 0xFF :: r.take n })

/-! ### Jobs (chapter 2, R78) -/

/-- R26, R27: LOAD_JOB takes the lowest EMPTY slot and, for a numbered job, a free copy table of UNSEEN
entries (the lowest, log 7). -/
def Obligations.LoadJobTakesLowestEmptySlot : Prop :=
  ∀ (p : JobParams) (s : State) (j : JobSlot), s.check = .pass → LegalJob p →
    (∀ k b, s.job k = some b → b.key ≠ p.key) → s.job j = none → (∀ k < j, s.job k ≠ none) →
    (p.firstCopy = 0 →
      ∃ b, Loads p b ∧ b.numbered = none ∧
        exec (.loadJob p) s = .next ({ s with jobs := s.jobs.set j (some b) }.respond 29 (.ok [byteOf j.val]))) ∧
    (p.firstCopy ≠ 0 → ∀ t, TableFree s t → (∀ u < t, ¬TableFree s u) →
      ∃ b, Loads p b ∧
        b.numbered = some { first := p.firstCopy.toNat, last := p.lastCopy.toNat, table := t } ∧
        exec (.loadJob p) s = .next ({ s with
          jobs := s.jobs.set j (some b)
          copyTables := s.copyTables.set t
            (List.replicate (p.lastCopy.toNat - p.firstCopy.toNat + 1) .unseen) }.respond 29 (.ok [byteOf j.val])))

/-- R26: the refusals of LOAD_JOB in their order, each with nothing changed. -/
def Obligations.LoadJobRefusedInOrder : Prop :=
  ∀ (p : JobParams) (s : State), s.check = .pass →
    (¬LegalJob p → exec (.loadJob p) s = .next (s.respond 29 (.refuse .badValue))) ∧
    (LegalJob p → (∃ j b, s.job j = some b ∧ b.key = p.key) →
      exec (.loadJob p) s = .next (s.respond 29 (.refuse .duplicateKey))) ∧
    (LegalJob p → (∀ j b, s.job j = some b → b.key ≠ p.key) → (∀ j, s.job j ≠ none) →
      exec (.loadJob p) s = .next (s.respond 29 (.refuse .tableFull))) ∧
    (LegalJob p → (∀ j b, s.job j = some b → b.key ≠ p.key) → (∃ j, s.job j = none) → p.firstCopy ≠ 0 →
      (∀ t, ¬TableFree s t) → exec (.loadJob p) s = .next (s.respond 29 (.refuse .copyTableFull)))

/-- R23, R28, R29, R31: RELEASE_JOB, HOLD_JOB and CLOSE_JOB of a job that the lookup finds and that is not
CLOSING. -/
def Obligations.JobStateCommandsMoveJob : Prop :=
  ∀ (key : Word32) (s : State) (j : JobSlot) (b : Job), s.check = .pass → key ≠ 0 →
    s.findJob key = some (j, b) → b.state ≠ .closing →
    (b.state = .loaded ∨ b.state = .held → b.good < b.ordered →
      exec (.releaseJob key) s
        = .next ({ s with jobs := s.jobs.set j (some { b with state := .running }) }.respond 7 (.ok []))) ∧
    (b.state = .loaded ∨ b.state = .held → b.ordered ≤ b.good →
      exec (.releaseJob key) s = .next ({ s with
        jobs := s.jobs.set j (some { b with state := .complete })
        flags := s.flags ||| 0x001 }.respond 7 (.ok []))) ∧
    (b.state = .running ∨ b.state = .complete →
      exec (.releaseJob key) s = .next (s.respond 7 (.refuse .wrongState))) ∧
    (b.state = .running →
      exec (.holdJob key) s
        = .next ({ s with jobs := s.jobs.set j (some { b with state := .held }) }.respond 7 (.ok []))) ∧
    (b.state ≠ .running → exec (.holdJob key) s = .next (s.respond 7 (.refuse .wrongState))) ∧
    (b.live = 0 → exec (.closeJob key) s = .next ({ s with
      jobs := s.jobs.set j none
      copyTables :=
        match b.numbered with
        | some n => s.copyTables.set n.table []
        | none => s.copyTables }.respond 7 (.ok []))) ∧
    (b.live ≠ 0 →
      exec (.closeJob key) s
        = .next ({ s with jobs := s.jobs.set j (some { b with state := .closing }) }.respond 7 (.ok [])))

/-- R30: AMEND_JOB of a job that the lookup finds and that is not CLOSING. -/
def Obligations.AmendJobReplacesFigures : Prop :=
  ∀ (key : Word32) (ordered : Word16) (allowance : Byte) (s : State) (j : JobSlot) (b : Job),
    s.check = .pass → key ≠ 0 → s.findJob key = some (j, b) → b.state ≠ .closing →
    ((ordered.toNat < 1 ∨ 60000 < ordered.toNat ∨ ordered.toNat + allowance.toNat < b.good + b.live) →
      exec (.amendJob key ordered allowance) s = .next (s.respond 10 (.refuse .badValue))) ∧
    (1 ≤ ordered.toNat → ordered.toNat ≤ 60000 → b.good + b.live ≤ ordered.toNat + allowance.toNat →
      exec (.amendJob key ordered allowance) s = .next ({ s with
        jobs := s.jobs.set j (some { b with
          ordered := ordered.toNat
          allowance := allowance.toNat
          state :=
            if b.state = JobState.running ∧ ordered.toNat ≤ b.good then JobState.complete
            else if b.state = JobState.complete ∧ b.good < ordered.toNat then JobState.running
            else b.state })
        flags :=
          if b.state = JobState.running ∧ ordered.toNat ≤ b.good then s.flags ||| 0x001 else s.flags }.respond 10 (.ok [])))

/-- R25, R32: a key that a slot holds is found, and what is found holds the key; the lookup that the five commands
by key make first, and its refusals. -/
def Obligations.JobKeyLookupRefusals : Prop :=
  (∀ (key : Word32) (s : State) (j : JobSlot) (b : Job), s.findJob key = some (j, b) →
    s.job j = some b ∧ b.key = key) ∧
  (∀ (s : State) (j : JobSlot) (b : Job), s.job j = some b → ∃ k c, s.findJob b.key = some (k, c)) ∧
  ∀ (key : Word32) (ordered : Word16) (allowance : Byte) (i : Instr) (s : State), s.check = .pass →
    i ∈ [.releaseJob key, .holdJob key, .amendJob key ordered allowance, .closeJob key, .findJob key] →
    (key = 0 → exec i s = .next (s.respond ((parameterBytes i).length + 3) (.refuse .badValue))) ∧
    (key ≠ 0 → (∀ j b, s.job j = some b → b.key ≠ key) →
      exec i s = .next (s.respond ((parameterBytes i).length + 3) (.refuse .noSuchJob))) ∧
    (∀ j b, key ≠ 0 → s.findJob key = some (j, b) → b.state = .closing →
      exec i s = .next (s.respond ((parameterBytes i).length + 3) (.refuse .wrongState)))

/-- R32: READ_JOB and FIND_JOB read the 34 bytes of a slot and change nothing. -/
def Obligations.ReadJobAndFindJobAnswer : Prop :=
  (∀ (s : State) (j : JobSlot), s.job j = s.jobs[j]) ∧
  ∀ s : State, s.check = .pass →
    (∀ slot : Byte, 31 < slot.toNat → exec (.readJob slot) s = .next (s.respond 4 (.refuse .badValue))) ∧
    (∀ j : JobSlot, s.job j = none →
      exec (.readJob (byteOf j.val)) s = .next (s.respond 4 (.ok (List.replicate 34 0)))) ∧
    ∀ (j : JobSlot) (b : Job) (data : List Byte), s.job j = some b →
      data =
        [(match b.state with
          | .loaded => (1 : Byte)
          | .running => 2
          | .held => 3
          | .complete => 4
          | .closing => 5)]
          ++ split32 b.key ++ bytes16 b.nominal ++ bytes16 b.tolerance ++ split24 b.caseCode
          ++ split24 (b.jacketCode.getD 0)
          ++ bytes16 (b.numbered.elim 0 Numbering.first) ++ bytes16 (b.numbered.elim 0 Numbering.last)
          ++ [b.classOverride.elim 0xFF fun c => byteOf c.val] ++ bytes16 b.ordered ++ [byteOf b.allowance]
          ++ [if b.casePolicy = .holdStation then (1 : Byte) else 0, if b.jacketPolicy = .holdStation then 1 else 0]
          ++ [byteOf b.mismatchLimit, if b.overdwellPolicy = .passMarked then 1 else 0]
          ++ bytes16 b.good ++ bytes16 b.diverted ++ bytes16 b.spoiled ++ [byteOf b.live] →
      data.length = 34 ∧
        exec (.readJob (byteOf j.val)) s = .next (s.respond 4 (.ok data)) ∧
        ∀ key, key ≠ 0 → s.findJob key = some (j, b) → b.state ≠ .closing →
          exec (.findJob key) s = .next (s.respond 7 (.ok (byteOf j.val :: data)))

/-- R78: READ_COPIES reads a byte for each copy it names, and its refusals in their order. -/
def Obligations.ReadCopiesAnswersEntries : Prop :=
  ∀ (slot : Byte) (first : Word16) (count : Byte) (s : State), s.check = .pass →
    ((31 < slot.toNat ∨ count = 0 ∨ 64 < count.toNat) →
      exec (.readCopies slot first count) s = .next (s.respond 7 (.refuse .badValue))) ∧
    ∀ j : JobSlot, slot = byteOf j.val → count ≠ 0 → count.toNat ≤ 64 →
      ((s.job j).bind Job.numbered = none →
        exec (.readCopies slot first count) s = .next (s.respond 7 (.refuse .wrongState))) ∧
      ∀ b n, s.job j = some b → b.numbered = some n →
        ((first.toNat < n.first ∨ n.last < first.toNat + count.toNat - 1) →
          exec (.readCopies slot first count) s = .next (s.respond 7 (.refuse .badValue))) ∧
        (JobTableSound s → n.first ≤ first.toNat → first.toNat + count.toNat - 1 ≤ n.last →
          ∃ data : List Byte, exec (.readCopies slot first count) s = .next (s.respond 7 (.ok data)) ∧
            data.length = count.toNat ∧
            ∀ i < count.toNat, ∃ e, (s.copyTables[n.table])[first.toNat + i - n.first]? = some e ∧
              data[i]? = some (match e with
                | .unseen => 0
                | .inLine => 1
                | .delivered => 2
                | .deliveredUnverified => 3
                | .spoiled => 4))

/-! ### Press classes (chapter 5) -/

/-- R87, R88, R90: each write of the class table replaces the one entry it names, and one with a value out of
range is refused and changes nothing; the refusal of SET_CLASS_TABLE (R89) stands with them. -/
def Obligations.ClassTableWritesReplaceEntries : Prop :=
  ∀ s : State, s.check = .pass →
    (∀ (i : Fin 16) (c : Sys2Proof.Class),
      exec (.writeBin (byteOf i.val) (byteOf c.val)) s = .next ({ s with
        classTable := { s.classTable with bins := s.classTable.bins.set i (some c) } }.respond 5 (.ok []))) ∧
    (∀ i : Fin 16,
      exec (.writeBin (byteOf i.val) 0xFF) s = .next ({ s with
        classTable := { s.classTable with bins := s.classTable.bins.set i none } }.respond 5 (.ok []))) ∧
    (∀ (r : Fin 8) (enabled : Bool) (low high : Word16) (c : Sys2Proof.Class),
      high.toNat ≤ 1600 → low.toNat ≤ high.toNat →
      exec (.writeRange (byteOf r.val) (if enabled then 1 else 0) low high (byteOf c.val)) s = .next ({ s with
        classTable := { s.classTable with
          ranges := s.classTable.ranges.set r
            { enabled := enabled, low := low.toNat, high := high.toNat, cls := c } } }.respond 10 (.ok []))) ∧
    (∀ (c : Sys2Proof.Class) (p : ClassParams), LegalFigures p →
      exec (.writeClass (byteOf c.val) p) s = .next ({ s with
        classTable := { s.classTable with
          records := s.classTable.records.set c
            { base := p.base.toNat
              rate := p.rate.toNat
              nominalTemp := p.nominalTemp.toNat
              coldLimit := p.coldLimit.toNat
              gain := p.gain.toNat
              factor := p.factor.toNat } } }.respond 15 (.ok []))) ∧
    (∀ bin cls : Byte, (15 < bin.toNat ∨ (7 < cls.toNat ∧ cls ≠ 0xFF)) →
      exec (.writeBin bin cls) s = .next (s.respond 5 (.refuse .badValue))) ∧
    (∀ (range enabled : Byte) (low high : Word16) (cls : Byte),
      (7 < range.toNat ∨ 1 < enabled.toNat ∨ 7 < cls.toNat ∨ 1600 < high.toNat ∨ high.toNat < low.toNat) →
      exec (.writeRange range enabled low high cls) s = .next (s.respond 10 (.refuse .badValue))) ∧
    (∀ (cls : Byte) (p : ClassParams), (7 < cls.toNat ∨ ¬LegalFigures p) →
      exec (.writeClass cls p) s = .next (s.respond 15 (.refuse .badValue))) ∧
    ∀ master fixed defaultClass : Byte,
      (2 < master.toNat ∨ 2 < fixed.toNat ∨ (7 < defaultClass.toNat ∧ defaultClass ≠ 0xFF)) →
      exec (.setClassTable master fixed defaultClass) s = .next (s.respond 6 (.refuse .badValue))

/-- R89: SET_CLASS_TABLE sets what is not marked keep and answers the 155 bytes of the table after it. -/
def Obligations.SetClassTableAnswersTable : Prop :=
  ∀ (master fixed defaultClass : Byte) (s : State) (c : ClassTable) (data : List Byte), s.check = .pass →
    master.toNat ≤ 2 → fixed.toNat ≤ 2 → (defaultClass.toNat ≤ 7 ∨ defaultClass = 0xFF) →
    c.bins = s.classTable.bins → c.ranges = s.classTable.ranges → c.records = s.classTable.records →
    c.master = (if master = 2 then s.classTable.master else decide (master = 1)) →
    c.fixed = (if fixed = 2 then s.classTable.fixed else decide (fixed = 1)) →
    c.defaultClass.val = (if defaultClass = 0xFF then s.classTable.defaultClass.val else defaultClass.toNat) →
    data =
      [if c.master then (1 : Byte) else 0, if c.fixed then 1 else 0, byteOf c.defaultClass.val]
        ++ c.bins.toList.map (fun b => b.elim 0xFF fun k => byteOf k.val)
        ++ c.ranges.toList.flatMap (fun r =>
            [if r.enabled then 1 else 0] ++ bytes16 r.low ++ bytes16 r.high ++ [byteOf r.cls.val])
        ++ c.records.toList.flatMap (fun r =>
            bytes16 r.base ++ bytes16 r.rate ++ bytes16 r.nominalTemp ++ bytes16 r.coldLimit ++ [byteOf r.gain]
              ++ bytes16 r.factor) →
    data.length = 155 ∧
      exec (.setClassTable master fixed defaultClass) s
        = .next ({ s with classTable := c }.respond 6 (.ok data))

/-- R80, R81, R84, R85: the class of a thickness under a job's override. -/
def Obligations.ClassResolvesByFirstStep : Prop :=
  ∀ (c : ClassTable) (thickness : Nat),
    (∀ o, c.resolve (some o) thickness = o) ∧
    (c.master = false → c.resolve none thickness = 7) ∧
    (∀ (h : thickness < 800) (b : Sys2Proof.Class), c.master = true → c.fixed = true →
      c.bins[thickness / 50] = some b → c.resolve none thickness = b) ∧
    (c.master = true →
      (c.fixed = true → ∀ h : thickness < 800, c.bins[thickness / 50] = none) →
      (∀ i : Fin 8, ¬(c.ranges[i].enabled = true ∧ c.ranges[i].low ≤ thickness ∧ thickness ≤ c.ranges[i].high)) →
      c.resolve none thickness = c.defaultClass) ∧
    (c.master = true →
      (c.fixed = true → ∀ h : thickness < 800, c.bins[thickness / 50] = none) →
      (∃ i : Fin 8, c.ranges[i].enabled = true ∧ c.ranges[i].low ≤ thickness ∧ thickness ≤ c.ranges[i].high) →
      (∃ i : Fin 8, c.ranges[i].enabled = true ∧ c.ranges[i].low ≤ thickness ∧ thickness ≤ c.ranges[i].high ∧
        c.ranges[i].cls = c.resolve none thickness) ∧
      ∀ i : Fin 8, c.ranges[i].enabled = true → c.ranges[i].low ≤ thickness → thickness ≤ c.ranges[i].high →
        (c.records[c.ranges[i].cls]).base < (c.records[c.resolve none thickness]).base ∨
          ((c.records[c.ranges[i].cls]).base = (c.records[c.resolve none thickness]).base ∧
            c.ranges[i].cls ≤ c.resolve none thickness))

/-! ### The dwell unit (chapter 6) -/

/-- R100, R101: SET_FILTER replaces the three settings and unsettles the filter, so that a piece entering the
press after it gets the cold limit for its deficit, or 0 with the filter OFF. -/
def Obligations.SetFilterRestartsWarmUp : Prop :=
  ∀ (interval shift warmup : Byte) (s : State), s.check = .pass →
    ((shift.toNat < 1 ∨ 6 < shift.toNat ∨ warmup = 0) →
      exec (.setFilter interval shift warmup) s = .next (s.respond 6 (.refuse .badValue))) ∧
    (1 ≤ shift.toNat → shift.toNat ≤ 6 → warmup ≠ 0 →
      ∃ f : Filter,
        f = { interval := interval.toNat
              shift := shift.toNat
              warmup := warmup.toNat
              reportCounter := 0
              sampleCount := 0
              tf := s.filter.tf } ∧
        exec (.setFilter interval shift warmup) s = .next ({ s with filter := f }.respond 6 (.ok [])) ∧
        f.state = (if interval = 0 then .off else .unloaded) ∧
        ∀ r : ClassRecord, deficit f r = (if interval = 0 then 0 else r.coldLimit) ∧ coldPressed f r = false)

/-- R95 to R98: a TEMP report is clamped, counted by the divider and, every n-th, taken into the filter: the
first loads Tf and each later one smooths it, and the sample count stops at the warm-up count. -/
def Obligations.FilterTakesEveryNthSample : Prop :=
  (∀ (sample : Word16) (s : State),
    s.takeTemp sample = { s with filter := s.filter.receive (clampSample sample.toInt) } ∧
    clampSample sample.toInt = if sample.toInt < -500 then -500 else if 3000 < sample.toInt then 3000 else sample.toInt) ∧
  ∀ (f : Filter) (x : Int),
    (f.interval = 0 → f.receive x = f) ∧
    (f.interval ≠ 0 → f.reportCounter + 1 < f.interval →
      f.receive x = { f with reportCounter := f.reportCounter + 1 }) ∧
    (f.interval ≠ 0 → f.interval ≤ f.reportCounter + 1 → f.receive x = { f.take x with reportCounter := 0 }) ∧
    (f.sampleCount = 0 → f.take x = { f with tf := x, sampleCount := min 1 f.warmup }) ∧
    (f.sampleCount ≠ 0 → f.take x = { f with
      tf := f.tf + Int.fdiv (x - f.tf + 2 ^ (f.shift - 1)) (2 ^ f.shift)
      sampleCount := min (f.sampleCount + 1) f.warmup })

/-- R99: from the first sample taken on, Tf lies between the smallest and the largest sample taken since the
filter last became unsettled. -/
def Obligations.FilterStaysBetweenSamples : Prop :=
  ∀ (f : Filter) (first : Int) (later : List Int) (low high : Int), 1 ≤ f.shift →
    (∀ x ∈ first :: later, low ≤ x ∧ x ≤ high) →
    low ≤ ((first :: later).foldl Filter.take f.unsettle).tf ∧
      ((first :: later).foldl Filter.take f.unsettle).tf ≤ high

/-- R104, R106, R107: the raw dwell, the minimum and the maximum, with the ranges they lie in for a legal
class record, thickness and deficit. -/
def Obligations.DwellIsComputedExactly : Prop :=
  (∀ (r : ClassRecord) (thickness : Nat),
    rawDwell r thickness = r.base + ⌊((r.rate * thickness + 10 : ℕ) : ℚ) / 20⌋₊) ∧
  (∀ r : ClassRecord, rawDwell r 0 = r.base) ∧
  (∀ (r : ClassRecord) (thickness : Nat), 500 ≤ r.base → r.base ≤ 20000 → r.rate ≤ 2000 → thickness ≤ 1600 →
    500 ≤ rawDwell r thickness ∧ rawDwell r thickness ≤ 180000) ∧
  (∀ draw gain deficit : Nat,
    minDwell draw gain deficit = min 60000 (max 100 ⌈((draw * (1024 + gain * deficit) : ℕ) : ℚ) / 1024⌉₊)) ∧
  (∀ draw gain deficit : Nat, 500 ≤ draw → draw ≤ 180000 → gain ≤ 255 → deficit ≤ 500 →
    1024 ≤ 1024 + gain * deficit ∧ 1024 + gain * deficit ≤ 128524 ∧
      draw * (1024 + gain * deficit) < 2 ^ 36 ∧ 500 ≤ minDwell draw gain deficit) ∧
  (∀ dmin factor : Nat,
    maxDwell dmin factor = min 65000 (max (dmin + 200) ⌊((dmin * factor : ℕ) : ℚ) / 100⌋₊)) ∧
  ∀ draw gain deficit factor : Nat,
    let dmin := minDwell draw gain deficit
    100 ≤ dmin ∧ dmin ≤ 60000 ∧ dmin + 200 ≤ maxDwell dmin factor ∧ maxDwell dmin factor ≤ 65000

/-- R94, R103, R105: a piece that enters position 0 gets both limits from its class record as it stands and
COLD_PRESS where the settled filter is colder than its class allows; one that has limits keeps them. -/
def Obligations.PressEntryFixesDwell : Prop :=
  (∀ (f : Filter) (r : ClassRecord),
    (f.interval = 0 → deficit f r = 0 ∧ coldPressed f r = false) ∧
    (f.interval ≠ 0 → f.sampleCount < f.warmup → deficit f r = r.coldLimit ∧ coldPressed f r = false) ∧
    (f.interval ≠ 0 → f.sampleCount ≠ 0 → f.warmup ≤ f.sampleCount →
      (deficit f r : Int) =
          (if (r.nominalTemp : Int) - f.tf < 0 then 0
            else if (r.nominalTemp : Int) - f.tf ≤ r.coldLimit then r.nominalTemp - f.tf
            else r.coldLimit) ∧
        (coldPressed f r = true ↔ (r.coldLimit : Int) < r.nominalTemp - f.tf))) ∧
  ∀ (s : State) (t : Tag) (p : Piece), s.piece t = some p →
    (p.limits ≠ none → s.computeDwell t = s) ∧
    (p.limits = none →
      let r := s.classTable.records[p.cls]
      let dmin := minDwell (rawDwell r p.thickness) r.gain (deficit s.filter r)
      let q : Piece := { p with limits := some { dmin := dmin, dmax := maxDwell dmin r.factor } }
      s.computeDwell t =
        if coldPressed s.filter r = true then
          { s with
            pool := s.pool.set t (some { q with faults := q.faults ||| 0x0080 })
            flags := s.flags ||| 0x010 }
        else { s with pool := s.pool.set t (some q) })

/-! ### The building-in press (chapter 7) -/

/-- R94, R102, R114, R118: the filter state by the interval, the sample count and the warm-up count; SET_JAW_TIMES
and READ_PRESS. A running timer keeps its reading, and a deferred
overdwell expiry reads 0 ms left. -/
def Obligations.JawTimesAndReadPress : Prop :=
  (∀ f : Filter,
    (f.interval = 0 → f.state = .off) ∧
    (f.interval ≠ 0 → f.sampleCount = 0 → f.state = .unloaded) ∧
    (f.interval ≠ 0 → 1 ≤ f.sampleCount → f.sampleCount < f.warmup → f.state = .warming) ∧
    (f.interval ≠ 0 → 1 ≤ f.warmup → f.sampleCount = f.warmup → f.state = .settled)) ∧
  (∀ (hit bridge : Word16) (s : State), s.check = .pass →
    ((200 < hit.toNat ∨ 200 < bridge.toNat) →
      exec (.setJawTimes hit bridge) s = .next (s.respond 7 (.refuse .badValue))) ∧
    (hit.toNat ≤ 200 → bridge.toNat ≤ 200 →
      exec (.setJawTimes hit bridge) s = .next ({ s with
        press := { s.press with hitTime := hit.toNat, bridgeTime := bridge.toNat } }.respond 7 (.ok [])))) ∧
  ∀ (now : Word32) (s : State) (left : Nat), s.check = .pass →
    (s.press.overdwellTimer = none → left = 0) →
    (s.press.overdwellDeferred = true → left = 0) →
    (∀ d, s.press.overdwellTimer = some d → s.press.overdwellDeferred = false →
      left = (d - s.press.closeTime).toNat - (now - s.press.closeTime).toNat) →
    exec (.readPress now) s = .next ({ s with timeBase := now }.respond 3 (.ok
      ([(match s.filter.state with
          | .off => (0 : Byte)
          | .unloaded => 1
          | .warming => 2
          | .settled => 3),
        byteOf s.filter.interval, byteOf s.filter.shift, byteOf s.filter.warmup, byteOf s.filter.reportCounter,
        byteOf s.filter.sampleCount]
        ++ split16 (BitVec.ofInt 16 s.filter.tf)
        ++ [(match s.press.jaw with
          | .opened => (0 : Byte)
          | .closing => 1
          | .closed => 2
          | .opening => 3)]
        ++ bytes16 s.press.hitTime ++ bytes16 s.press.bridgeTime
        ++ [if s.press.overdwellTimer = none then (0 : Byte) else 1] ++ bytes16 left)))

/-- R112, R113, R118: what an assertion and a release of the jaw-contact input do in each jaw state. An edge
that cannot come in a state changes nothing (log 10). -/
def Obligations.JawEdgesMoveJawState : Prop :=
  ∀ (now : Word32) (s : State),
    (s.press.jaw = .opened → s.press.hitTime ≠ 0 →
      exec (.jawContactAsserted now) s = .next { s with
        timeBase := now
        press := { s.press with
          jaw := .closing
          assertionTime := now
          hitTimer := some (now + BitVec.ofNat 32 s.press.hitTime) } }) ∧
    (s.press.jaw = .opened → s.press.hitTime = 0 →
      exec (.jawContactAsserted now) s
        = .next ({ s with timeBase := now, press := { s.press with assertionTime := now } }.qualifyClose now)) ∧
    (s.press.jaw = .opening → s.press.overdwellDeferred = false →
      exec (.jawContactAsserted now) s = .next { s with
        timeBase := now
        press := { s.press with jaw := .closed, bridgeTimer := none } }) ∧
    (s.press.jaw = .opening → s.press.overdwellDeferred = true →
      exec (.jawContactAsserted now) s = .next ({ s with
        timeBase := now
        press := { s.press with jaw := .closed, bridgeTimer := none } }.takeOverdwell)) ∧
    (s.press.jaw = .closing ∨ s.press.jaw = .closed →
      exec (.jawContactAsserted now) s = .next { s with timeBase := now }) ∧
    (s.press.jaw = .closing →
      exec (.jawContactReleased now) s = .next { s with
        timeBase := now
        press := { s.press with jaw := .opened, hitTimer := none } }) ∧
    (s.press.jaw = .closed → s.press.bridgeTime ≠ 0 →
      exec (.jawContactReleased now) s = .next { s with
        timeBase := now
        press := { s.press with
          jaw := .opening
          releaseTime := now
          bridgeTimer := some (now + BitVec.ofNat 32 s.press.bridgeTime) } }) ∧
    (s.press.jaw = .closed → s.press.bridgeTime = 0 →
      ∃ t, t = { s with timeBase := now, press := { s.press with releaseTime := now } }.qualifyOpen now ∧
        exec (.jawContactReleased now) s = .next { t with press := { t.press with jaw := .opened } }) ∧
    (s.press.jaw = .opened ∨ s.press.jaw = .opening →
      exec (.jawContactReleased now) s = .next { s with timeBase := now })

/-- R112, R118: what the three press timers do when they have run out. An expiry of a timer that is stopped, of
one that is running and not yet due, of one whose expiry is already deferred, or in a jaw state in which the
timer does not run, changes nothing but the reading (log 10). -/
def Obligations.PressTimersRunOut : Prop :=
  ∀ (now d : Word32) (s : State),
    (s.press.jaw = .closing → s.press.hitTimer = some d →
      (d - s.press.assertionTime).toNat ≤ (now - s.press.assertionTime).toNat →
      exec (.hitTimerExpiry now) s = .next ({ s with timeBase := now }.qualifyClose s.press.assertionTime)) ∧
    (s.press.hitTimer = none ∨ s.press.jaw ≠ .closing →
      exec (.hitTimerExpiry now) s = .next { s with timeBase := now }) ∧
    (s.press.hitTimer = some d →
      (now - s.press.assertionTime).toNat < (d - s.press.assertionTime).toNat →
      exec (.hitTimerExpiry now) s = .next { s with timeBase := now }) ∧
    (s.press.jaw = .opening → s.press.bridgeTimer = some d →
      (d - s.press.releaseTime).toNat ≤ (now - s.press.releaseTime).toNat →
      ∃ t, t = { s with timeBase := now }.qualifyOpen s.press.releaseTime ∧
        exec (.bridgeTimerExpiry now) s = .next { t with
          press := { t.press with jaw := .opened, bridgeTimer := none } }) ∧
    (s.press.bridgeTimer = none ∨ s.press.jaw ≠ .opening →
      exec (.bridgeTimerExpiry now) s = .next { s with timeBase := now }) ∧
    (s.press.bridgeTimer = some d →
      (now - s.press.releaseTime).toNat < (d - s.press.releaseTime).toNat →
      exec (.bridgeTimerExpiry now) s = .next { s with timeBase := now }) ∧
    (s.press.jaw = .closed → s.press.overdwellTimer = some d → s.press.overdwellDeferred = false →
      (d - s.press.closeTime).toNat ≤ (now - s.press.closeTime).toNat →
      exec (.overdwellTimerExpiry now) s = .next ({ s with timeBase := now }.takeOverdwell)) ∧
    (s.press.jaw = .opening → s.press.overdwellTimer = some d → s.press.overdwellDeferred = false →
      (d - s.press.closeTime).toNat ≤ (now - s.press.closeTime).toNat →
      exec (.overdwellTimerExpiry now) s = .next { s with
        timeBase := now
        press := { s.press with overdwellDeferred := true } }) ∧
    (s.press.overdwellTimer = none ∨ s.press.overdwellDeferred = true ∨ s.press.jaw = .opened ∨
        s.press.jaw = .closing →
      exec (.overdwellTimerExpiry now) s = .next { s with timeBase := now }) ∧
    (s.press.overdwellTimer = some d →
      (now - s.press.closeTime).toNat < (d - s.press.closeTime).toNat →
      exec (.overdwellTimerExpiry now) s = .next { s with timeBase := now })

/-- R112, R117: a qualified close notes its close time and arms the overdwell timer for the smallest headroom among
the pieces in positions 1 to 8. A timer whose reading has come when the close is qualified runs out at once: its
expiry is taken in the same step (log 16). -/
def Obligations.QualifiedCloseArmsOverdwellTimer : Prop :=
  ∀ (s : State) (closeTime : Word32),
    ∃ (timer : Option Word32) (u : State),
      u = { s with
        press := { s.press with
          jaw := .closed
          closeTime := closeTime
          hitTimer := none
          overdwellTimer := timer
          overdwellDeferred := false } } ∧
      (timer = none ↔ ∀ (i : Fin 12) (t : Tag) (p : Piece), 1 ≤ i.val → i.val ≤ 8 →
        s.press.positions[i] = some t → s.piece t = some p → p.limits = none) ∧
      (∀ reading, timer = some reading →
        ∃ h : Nat, reading = closeTime + BitVec.ofNat 32 h ∧
          (∃ (i : Fin 12) (t : Tag) (p : Piece) (l : DwellLimits), 1 ≤ i.val ∧ i.val ≤ 8 ∧
            s.press.positions[i] = some t ∧ s.piece t = some p ∧ p.limits = some l ∧ h = l.dmax - p.accumulated) ∧
          ∀ (i : Fin 12) (t : Tag) (p : Piece) (l : DwellLimits), 1 ≤ i.val → i.val ≤ 8 →
            s.press.positions[i] = some t → s.piece t = some p → p.limits = some l → h ≤ l.dmax - p.accumulated) ∧
      (timer = none → s.qualifyClose closeTime = u) ∧
      ∀ reading, timer = some reading →
        ((s.timeBase - closeTime).toNat < (reading - closeTime).toNat → s.qualifyClose closeTime = u) ∧
        ((reading - closeTime).toNat ≤ (s.timeBase - closeTime).toNat → s.qualifyClose closeTime = u.takeOverdwell)

/-- R111, R115: at a qualified open each piece in positions 1 to 8 gains the contact time, the sum saturating
at 65535, no other record changes, and the overdwell timer is stopped. -/
def Obligations.QualifiedOpenAccumulatesContact : Prop :=
  ∀ (s : State) (openTime : Word32),
    s.qualifyOpen openTime = { s with
      pool := (s.qualifyOpen openTime).pool
      press := { s.press with overdwellTimer := none, overdwellDeferred := false } } ∧
    ∀ t : Tag,
      ((∃ i : Fin 12, 1 ≤ i.val ∧ i.val ≤ 8 ∧ s.press.positions[i] = some t) →
        (s.qualifyOpen openTime).piece t = (s.piece t).map fun p =>
          { p with accumulated := min 65535 (p.accumulated + (openTime - s.press.closeTime).toNat) }) ∧
      ((∀ i : Fin 12, 1 ≤ i.val → i.val ≤ 8 → s.press.positions[i] ≠ some t) →
        (s.qualifyOpen openTime).piece t = s.piece t)

/-- R119, R120: an overdwell expiry marks each piece in positions 1 to 8 that is within the margin, raises the
attention, stops the timer, and queues one JAW_RELEASE where the holder of PRESS has the ability and none
waits. -/
def Obligations.OverdwellExpiryMarksAndReleases : Prop :=
  ∀ s : State,
    ∃ t, t = s.takeOverdwell ∧
      t = { s with
        pool := t.pool
        flags := s.flags ||| 0x008
        press := { s.press with overdwellTimer := none, overdwellDeferred := false }
        stations := t.stations } ∧
      (∀ (u : Tag) (p : Piece) (l : DwellLimits), s.piece u = some p → p.limits = some l →
        t.piece u = some (
          if (∃ i : Fin 12, 1 ≤ i.val ∧ i.val ≤ 8 ∧ s.press.positions[i] = some u) ∧
              l.dmax - p.accumulated ≤ (s.timeBase - s.press.closeTime).toNat then
            { p with faults := p.faults ||| 0x0200 }
          else p)) ∧
      (∀ u : Tag, (∀ p, s.piece u = some p → p.limits = none) → t.piece u = s.piece u) ∧
      (s.holder .press = none → t.stations = s.stations) ∧
      ∀ a : Address, s.holder .press = some a →
        t.stations =
          if (s.station a).abilities &&& 0x08 ≠ 0 ∧ Order.jawRelease ∉ (s.station a).orders then
            s.stations.set a { s.station a with orders := (s.station a).orders ++ [.jawRelease] }
          else s.stations

/-- R117, R122, R125, R126: an index is its five stages in their order, taken at its reading. The first two are those
of IndexForcesOpenAndDischarges. Here stand the shift, the entry into position 0, which fixes the dwell as
PressEntryFixesDwell says, or spoils the piece while Z3 is in RESET, and the settling of the jaws; and, for the
index as a whole, whatever the jaw state and the mode of Z3, where the pieces stand, how the jaws and the press
timers are left, and what is not touched. A closure that begins at the index with a headroom of 0 has its overdwell
timer run out there (log 16). -/
def Obligations.PressIndexMovesPress : Prop :=
  (∀ (now : Word32) (s : State),
    exec (.pressIndex now) s = .next
      (((({ s with timeBase := now }.indexJaws.discharge).shiftPress).enterPress).settleJaws s.press.jaw)) ∧
  (∀ s : State,
    s.shiftPress = { s with
      pool := s.shiftPress.pool
      press := { s.press with positions := s.shiftPress.press.positions } } ∧
    s.shiftPress.press.positions[0] = none ∧
    (∀ i : Fin 11, s.shiftPress.press.positions[i.val + 1] = s.press.positions[i.val]) ∧
    (∀ (i : Fin 11) (t : Tag) (p : Piece), s.press.positions[i.val] = some t → s.piece t = some p →
      p.place = .press i.castSucc → s.shiftPress.piece t = some { p with place := .press i.succ }) ∧
    ∀ t : Tag, (∀ i : Fin 12, s.press.positions[i] ≠ some t) → s.shiftPress.piece t = s.piece t) ∧
  (∀ s : State,
    (s.pressEntry = none → s.enterPress = s) ∧
    ∀ t : Tag, s.pressEntry = some t →
      (s.z3Mode = .reset → s.enterPress = { s with pressEntry := none }.retire .spoiled t) ∧
      ∀ p, s.z3Mode ≠ .reset → s.piece t = some p →
        s.enterPress = { s with
          pressEntry := none
          press := { s.press with positions := s.press.positions.set 0 (some t) }
          pool := s.pool.set t (some { p with place := .press 0, entryCount := none }) }.computeDwell t) ∧
  (∀ s : State,
    s.settleJaws .opened = s ∧
    s.settleJaws .closed = s.qualifyClose s.timeBase ∧
    s.settleJaws .opening = { s with press := { s.press with jaw := .opened } } ∧
    s.settleJaws .closing = { s with press := { s.press with
      assertionTime := s.timeBase
      hitTimer := some (s.timeBase + BitVec.ofNat 32 s.press.hitTime) } }) ∧
  ∀ (now : Word32) (s : State), PlacesAgree s →
    ∃ t, exec (.pressIndex now) s = .next t ∧
      t.pressEntry = none ∧
      (∀ i : Fin 11, t.press.positions[i.val + 1] = s.press.positions[i.val]) ∧
      t.press.positions[0] = (if s.z3Mode = .reset then none else s.pressEntry) ∧
      t.press.jaw =
        (match s.press.jaw with
          | .opened => .opened
          | .closed => .closed
          | .opening => .opened
          | .closing => .closing) ∧
      t.press.hitTimer =
        (match s.press.jaw with
          | .closing => some (now + BitVec.ofNat 32 s.press.hitTime)
          | .closed => none
          | .opened => s.press.hitTimer
          | .opening => s.press.hitTimer) ∧
      t.press.bridgeTimer = (if s.press.jaw = .opening then none else s.press.bridgeTimer) ∧
      t.press.assertionTime = (if s.press.jaw = .closing then now else s.press.assertionTime) ∧
      t.press.closeTime = (if s.press.jaw = .closed then now else s.press.closeTime) ∧
      (s.press.jaw = .opened ∨ s.press.jaw = .closing →
        t.press.overdwellTimer = s.press.overdwellTimer ∧ t.press.overdwellDeferred = s.press.overdwellDeferred) ∧
      (s.press.jaw = .opening → t.press.overdwellTimer = none ∧ t.press.overdwellDeferred = false) ∧
      (s.press.jaw = .closed →
        t.press.overdwellDeferred = false ∧
        ((∀ (i : Fin 12) (u : Tag) (p : Piece), 1 ≤ i.val → i.val ≤ 8 →
          t.press.positions[i] = some u → t.piece u = some p → p.limits = none) → t.press.overdwellTimer = none) ∧
        ∀ h : Nat,
          (∃ (i : Fin 12) (u : Tag) (p : Piece) (l : DwellLimits), 1 ≤ i.val ∧ i.val ≤ 8 ∧
            t.press.positions[i] = some u ∧ t.piece u = some p ∧ p.limits = some l ∧ h = l.dmax - p.accumulated) →
          (∀ (i : Fin 12) (u : Tag) (p : Piece) (l : DwellLimits), 1 ≤ i.val → i.val ≤ 8 →
            t.press.positions[i] = some u → t.piece u = some p → p.limits = some l → h ≤ l.dmax - p.accumulated) →
          (BitVec.ofNat 32 h ≠ 0 → t.press.overdwellTimer = some (now + BitVec.ofNat 32 h)) ∧
          (BitVec.ofNat 32 h = 0 → t.press.overdwellTimer = none ∧ t.flagSet .overdwell = true ∧
            ∀ (i : Fin 12) (u : Tag) (p : Piece) (l : DwellLimits), 1 ≤ i.val → i.val ≤ 8 →
              t.press.positions[i] = some u → t.piece u = some p → p.limits = some l → l.dmax ≤ p.accumulated →
              p.faults &&& 0x0200 ≠ 0)) ∧
      t.press.releaseTime = s.press.releaseTime ∧ t.press.hitTime = s.press.hitTime ∧
      t.press.bridgeTime = s.press.bridgeTime ∧
      (s.press.jaw = .closed ∨ s.press.jaw = .opening → t.flagSet .pressSequence = true) ∧
      (s.press.jaw = .opened ∨ s.press.jaw = .closing → t.flagSet .pressSequence = s.flagSet .pressSequence) ∧
      t.z1 = s.z1 ∧ t.z2 = s.z2 ∧ t.z5 = s.z5 ∧ t.z4 = { s.z4 with queue := t.z4.queue } ∧
      t.casing = s.casing ∧ t.jacketing = s.jacketing ∧ t.gateQueue = s.gateQueue ∧
      t = { s with
        timeBase := now
        pool := t.pool
        jobs := t.jobs
        copyTables := t.copyTables
        press := t.press
        z4 := t.z4
        pressEntry := none
        lost := t.lost
        stations := t.stations
        flags := t.flags }

/-- R39, R122, stages 1 and 2, R123, R124: the capacities of the conveyor queues; the forced open with its faults, the judgement at discharge, and what
becomes of a piece that is handed into a conveyor zone. -/
def Obligations.IndexForcesOpenAndDischarges : Prop :=
  (∀ z : ConveyorZone, (z, z.capacity) ∈ [(ConveyorZone.z1, 24), (.z2, 8), (.z4, 12), (.z5, 12)]) ∧
  (∀ s : State,
    (s.press.jaw = .opened → s.indexJaws = s) ∧
    (s.press.jaw = .closing → s.indexJaws = { s with press := { s.press with hitTimer := none } }) ∧
    (s.press.jaw = .closed ∨ s.press.jaw = .opening →
      ∃ o, o = s.qualifyOpen (if s.press.jaw = .closed then s.timeBase else s.press.releaseTime) ∧
        s.indexJaws = { o with
          pool := (s.indexJaws).pool
          flags := s.flags ||| 0x020
          press := { o.press with bridgeTimer := if s.press.jaw = .opening then none else s.press.bridgeTimer } } ∧
        ∀ t : Tag,
          ((∃ i : Fin 12, 1 ≤ i.val ∧ i.val ≤ 8 ∧ s.press.positions[i] = some t) →
            (s.indexJaws).piece t = (o.piece t).map fun p => { p with faults := p.faults ||| 0x0400 }) ∧
          ((∀ i : Fin 12, 1 ≤ i.val → i.val ≤ 8 → s.press.positions[i] ≠ some t) →
            (s.indexJaws).piece t = o.piece t))) ∧
  (∀ s : State, s.press.positions[11] = none → s.discharge = s) ∧
  (∀ (s : State) (t : Tag) (p : Piece) (l : DwellLimits), s.press.positions[11] = some t → s.piece t = some p →
    p.limits = some l →
    s.discharge = { s with
      pool := s.pool.set t (some { p with
        faults :=
          if p.accumulated < l.dmin then p.faults ||| 0x0100
          else if l.dmax < p.accumulated then p.faults ||| 0x0200
          else p.faults })
      flags :=
        if l.dmin ≤ p.accumulated ∧ l.dmax < p.accumulated ∧ p.faults &&& 0x0200 = 0 then s.flags ||| 0x008
        else s.flags
      press := { s.press with positions := s.press.positions.set 11 none } }.handOver .z4 t) ∧
  ∀ (s : State) (z : ConveyorZone) (t : Tag),
    ((s.conveyor z).mode = .reset → s.handOver z t = s.retire .spoiled t) ∧
    ((s.conveyor z).mode ≠ .reset → z.capacity ≤ (s.conveyor z).queue.length →
      s.handOver z t = { s with
        lost := s.lost ++ [t]
        flags := s.flags ||| 0x002
        pool := s.pool.set t ((s.piece t).map fun p =>
          { p with faults := p.faults ||| 0x2000, place := .lost, entryCount := none }) }) ∧
    ((s.conveyor z).mode ≠ .reset → (s.conveyor z).queue.length < z.capacity →
      s.handOver z t
        = { s.setConveyor z { s.conveyor z with queue := (s.conveyor z).queue ++ [t] } with
            pool := s.pool.set t ((s.piece t).map fun p =>
              { p with place := .conveyor z, entryCount := some (s.conveyor z).encoder }) })

/-! ### Zones and tracking (chapter 3) -/

/-- R41, R42, R46: a zone's hold output is asserted in HALT and RESET and released in RUN; SET_ZONE, and
SET_ZONE_MODE but for entry into RESET. What each names of the state is spelled first. -/
def Obligations.SetZoneAndModes : Prop :=
  (∀ (s : State) (m : ZoneMode),
    (s.mode .z1 = s.z1.mode ∧ s.setMode .z1 m = { s with z1 := { s.z1 with mode := m } }) ∧
    (s.mode .z2 = s.z2.mode ∧ s.setMode .z2 m = { s with z2 := { s.z2 with mode := m } }) ∧
    (s.mode .z3 = s.z3Mode ∧ s.setMode .z3 m = { s with z3Mode := m }) ∧
    (s.mode .z4 = s.z4.mode ∧ s.setMode .z4 m = { s with z4 := { s.z4 with mode := m } }) ∧
    (s.mode .z5 = s.z5.mode ∧ s.setMode .z5 m = { s with z5 := { s.z5 with mode := m } })) ∧
  (∀ (s : State) (c : Conveyor),
    (s.conveyor .z1 = s.z1 ∧ s.setConveyor .z1 c = { s with z1 := c }) ∧
    (s.conveyor .z2 = s.z2 ∧ s.setConveyor .z2 c = { s with z2 := c }) ∧
    (s.conveyor .z4 = s.z4 ∧ s.setConveyor .z4 c = { s with z4 := c }) ∧
    (s.conveyor .z5 = s.z5 ∧ s.setConveyor .z5 c = { s with z5 := c })) ∧
  (∀ (s : State) (z : Zone), s.holdOutput z = true ↔ s.mode z ≠ .run) ∧
  ∀ s : State, s.check = .pass →
    (∀ (zone : Byte) (length window : Word16),
      ((∀ z ∈ [1, 2, 4, 5], zone.toNat ≠ z) ∨ length.toNat < 400 ∨ 30000 < length.toNat ∨ window.toNat < 40 ∨
        2000 < window.toNat ∨ 32000 < length.toNat + window.toNat) →
      exec (.setZone zone length window) s = .next (s.respond 8 (.refuse .badValue))) ∧
    (∀ (zone : Byte) (z : ConveyorZone) (length window : Word16),
      (zone.toNat, z) ∈ [(1, .z1), (2, .z2), (4, .z4), (5, .z5)] → 400 ≤ length.toNat → length.toNat ≤ 30000 →
      40 ≤ window.toNat → window.toNat ≤ 2000 → length.toNat + window.toNat ≤ 32000 →
      exec (.setZone zone length window) s = .next (
        if (s.conveyor z).mode = .reset then
          (s.setConveyor z { s.conveyor z with length := length.toNat, window := window.toNat }).respond 8 (.ok [])
        else s.respond 8 (.refuse .wrongState))) ∧
    (∀ zone mode : Byte, (zone.toNat < 1 ∨ 5 < zone.toNat ∨ 2 < mode.toNat) →
      exec (.setZoneMode zone mode) s = .next (s.respond 5 (.refuse .badValue))) ∧
    ∀ (zone mode : Byte) (z : Zone) (m : ZoneMode),
      (zone.toNat, z) ∈ [(1, Zone.z1), (2, .z2), (3, .z3), (4, .z4), (5, .z5)] →
      (mode.toNat, m) ∈ [(0, ZoneMode.run), (1, .halt), (2, .reset)] →
      (s.mode z = m → exec (.setZoneMode zone mode) s = .next (s.respond 5 (.ok []))) ∧
      (s.mode z ≠ m → m ≠ .reset →
        exec (.setZoneMode zone mode) s = .next ((s.setMode z m).respond 5 (.ok []))) ∧
      (s.mode z ≠ m → m = .reset →
        exec (.setZoneMode zone mode) s = .next ((s.enterReset z).respond 5 (.ok [])))

/-- R19, R34, R37, R43, R127, R130, R154, R175: entry into RESET retires the zone's pieces spoiled, so that each job's
spoiled count gains and its live count loses the number of its pieces there, a CLOSING job that has lost its last
piece becomes EMPTY, and the copy entries follow RetirementSettlesPiece. It leaves the zone's places empty; the
other zones and the lost set keep theirs, and encoders, lengths, windows, the jaws and the order in flight are
kept. Every station keeps its orders in their order, but for the gate orders of the zone's own pieces and, where the
zone is Z5, every gate order. -/
def Obligations.ZoneResetSpoilsItsPieces : Prop :=
  (∀ s : State,
    s.piecesOf .z1 = s.z1.queue ++ s.casing.toList ∧ s.piecesOf .z2 = s.z2.queue ++ s.pressEntry.toList ∧
    s.piecesOf .z3 = s.press.positions.toList.filterMap id ∧
    s.piecesOf .z4 = s.z4.queue ++ s.jacketing.toList ∧ s.piecesOf .z5 = s.z5.queue ++ s.gateQueue) ∧
  ∀ (z : Zone) (s : State), PlacesAgree s → s.mode z ≠ .reset →
    ∃ t r : State, t = s.enterReset z ∧
      r = (s.piecesOf z).foldl (fun w u => w.retire .spoiled u) (s.setMode z .reset) ∧
      t.jobs = r.jobs ∧ t.copyTables = r.copyTables ∧
      (∀ j : JobSlot, t.job j = spoiledBy (((s.piecesOf z).filter fun u => (s.piece u).bind Piece.job = some j).length)
        (s.job j)) ∧
      t.mode z = .reset ∧ t.holdOutput z = true ∧ t.piecesOf z = [] ∧
      (∀ y, y ≠ z → t.mode y = s.mode y ∧ t.piecesOf y = s.piecesOf y) ∧
      (∀ u, t.piece u = if u ∈ s.piecesOf z then none else s.piece u) ∧
      (∀ c, t.conveyor c = { s.conveyor c with mode := (t.conveyor c).mode, queue := (t.conveyor c).queue }) ∧
      t.press = { s.press with
        positions := t.press.positions
        overdwellTimer := if z = .z3 then none else s.press.overdwellTimer
        overdwellDeferred := if z = .z3 then false else s.press.overdwellDeferred } ∧
      t.casingMismatch = (if z = .z1 then 0 else s.casingMismatch) ∧
      t.jacketingMismatch = (if z = .z4 then 0 else s.jacketingMismatch) ∧
      (∀ a, t.station a = { s.station a with
        orders := (s.station a).orders.filter fun o =>
          match o with
          | .gate _ u => decide (z ≠ .z5 ∧ u ∉ s.piecesOf z)
          | .jawRelease => true }) ∧
      t = { s with
        pool := t.pool
        jobs := t.jobs
        copyTables := t.copyTables
        press := t.press
        z1 := t.z1
        z2 := t.z2
        z4 := t.z4
        z5 := t.z5
        z3Mode := t.z3Mode
        casing := t.casing
        pressEntry := t.pressEntry
        jacketing := t.jacketing
        casingMismatch := t.casingMismatch
        jacketingMismatch := t.jacketingMismatch
        gateQueue := t.gateQueue
        stations := t.stations }

/-- R34, R37, R63, R127, R130: LINE_CLEAR frees all 96 tags, empties every place and puts every zone in RESET.
All pieces of the line and of the lost set are retired spoiled: each job's spoiled count gains and its live count
loses the number of its pieces, a CLOSING job becomes EMPTY with its last piece, and the copy entries follow
RetirementSettlesPiece. It leaves what it is said to leave. -/
def Obligations.LineClearEmptiesLine : Prop :=
  ∀ s : State, s.check = .pass → PlacesAgree s → ResetZonesEmpty s →
    ∃ t : State, exec .lineClear s = .next (t.respond 3 (.ok [])) ∧
      (∀ u, t.piece u = none) ∧ t.freeCount = 96 ∧
      (∀ z, t.mode z = .reset ∧ t.holdOutput z = true ∧ t.piecesOf z = []) ∧ t.lost = [] ∧
      t.casingMismatch = 0 ∧ t.jacketingMismatch = 0 ∧
      (∀ c, t.conveyor c = { s.conveyor c with mode := .reset, queue := [] }) ∧
      t.press = { s.press with
        positions := t.press.positions
        overdwellTimer := none
        overdwellDeferred := false } ∧
      (∀ j, t.job j = spoiledBy (livePieces s j) (s.job j)) ∧
      (∃ r, r = (s.piecesOf .z1 ++ s.piecesOf .z2 ++ s.piecesOf .z3 ++ s.piecesOf .z4 ++ s.piecesOf .z5
          ++ s.lost).foldl (fun w u => w.retire .spoiled u) s ∧
        t.jobs = r.jobs ∧ t.copyTables = r.copyTables) ∧
      (∀ a, t.station a = { s.station a with
        orders := (s.station a).orders.filter fun o => gateTag o = none }) ∧
      t = { s with
        pool := t.pool
        jobs := t.jobs
        copyTables := t.copyTables
        press := t.press
        z1 := t.z1
        z2 := t.z2
        z4 := t.z4
        z5 := t.z5
        z3Mode := t.z3Mode
        casing := none
        pressEntry := none
        jacketing := none
        lost := []
        casingMismatch := 0
        jacketingMismatch := 0
        gateQueue := []
        stations := t.stations }

/-- R47 to R50, R58: a reverse advance subtracts one from the count; a forward advance adds one and takes each
overdue head to the lost set, head after head, until the queue is empty or its head is not overdue. -/
def Obligations.EncoderAdvancesCountAndDropOverdue : Prop :=
  ∀ (z : ConveyorZone) (s : State),
    exec (.reverseAdvance z) s = .next (s.setConveyor z { s.conveyor z with encoder := (s.conveyor z).encoder - 1 }) ∧
    (PlacesAgree s →
      ∃ (late kept : List Tag) (t : State), exec (.forwardAdvance z) s = .next t ∧
        (s.conveyor z).queue = late ++ kept ∧
        (∀ u ∈ late, ∃ p e, s.piece u = some p ∧ p.entryCount = some e ∧
          (((s.conveyor z).length + (s.conveyor z).window : ℕ) : ℤ)
            < ((s.conveyor z).encoder + 1 - e).toInt) ∧
        (∀ u p e, kept.head? = some u → s.piece u = some p → p.entryCount = some e →
          ((s.conveyor z).encoder + 1 - e).toInt
            ≤ (((s.conveyor z).length + (s.conveyor z).window : ℕ) : ℤ)) ∧
        (∀ u, t.piece u = if u ∈ late then
            (s.piece u).map fun p => { p with faults := p.faults ||| 0x2000, place := .lost, entryCount := none }
          else s.piece u) ∧
        t = { s.setConveyor z { s.conveyor z with encoder := (s.conveyor z).encoder + 1, queue := kept } with
          pool := t.pool
          lost := s.lost ++ late
          flags := if late = [] then s.flags else s.flags ||| 0x002 })

/-- R44, R51, R52, R54 to R57, R148: the leading edge of an exit eye. -/
def Obligations.ExitEyeJudgesHead : Prop :=
  (∀ z : ConveyorZone, (z, z.zone) ∈ [(ConveyorZone.z1, Zone.z1), (.z2, .z2), (.z4, .z4), (.z5, .z5)]) ∧
  (∀ (s : State) (u : Tag) (p : Piece), s.piece u = some p →
    s.enterCasing u = { s with
      casing := some u
      casingMismatch := 0
      pool := s.pool.set u (some { p with place := .casingSlot, entryCount := none }) } ∧
    s.enterJacketing u = { s with
      jacketing := some u
      jacketingMismatch := 0
      pool := s.pool.set u (some { p with place := .jacketingSlot, entryCount := none }) }) ∧
  ∀ (z : ConveyorZone) (now : Word32) (s : State),
    ((s.conveyor z).mode = .reset → exec (.exitEyeLeadingEdge z now) s = .next { s with timeBase := now }) ∧
    ((s.conveyor z).mode ≠ .reset →
      ((s.conveyor z).queue = [] ∨ ∃ u p e, (s.conveyor z).queue.head? = some u ∧ s.piece u = some p ∧
        p.entryCount = some e ∧ (max ((s.conveyor z).encoder - e).toInt 0)
          < (((s.conveyor z).length : ℤ) - ((s.conveyor z).window : ℤ))) →
      exec (.exitEyeLeadingEdge z now) s = .next { s.setMode z.zone .halt with
        timeBase := now
        flags := s.flags ||| 0x002 }) ∧
    ∀ (u : Tag) (rest : List Tag) (p : Piece) (e : Word16), (s.conveyor z).mode ≠ .reset →
      (s.conveyor z).queue = u :: rest → s.piece u = some p → p.entryCount = some e →
      (((s.conveyor z).length : ℤ) - ((s.conveyor z).window : ℤ)) ≤ max ((s.conveyor z).encoder - e).toInt 0 →
      ∃ r, r = { s.setConveyor z { s.conveyor z with queue := rest } with timeBase := now } ∧
        (z = .z1 → s.casing = none →
          exec (.exitEyeLeadingEdge z now) s = .next { r with
            casing := some u
            casingMismatch := 0
            pool := s.pool.set u (some { p with place := .casingSlot, entryCount := none }) }) ∧
        (z = .z2 → s.pressEntry = none →
          exec (.exitEyeLeadingEdge z now) s = .next { r with
            pressEntry := some u
            pool := s.pool.set u (some { p with place := .pressEntry, entryCount := none }) }) ∧
        (z = .z4 → s.jacketing = none →
          exec (.exitEyeLeadingEdge z now) s = .next { r with
            jacketing := some u
            jacketingMismatch := 0
            pool := s.pool.set u (some { p with place := .jacketingSlot, entryCount := none }) }) ∧
        (z = .z5 → exec (.exitEyeLeadingEdge z now) s = .next (r.gateArrival u)) ∧
        (∀ (o : Tag) (q : Piece), z = .z1 → s.casing = some o → s.piece o = some q →
          exec (.exitEyeLeadingEdge z now) s = .next ((({ r with
            casing := none
            pool := s.pool.set o (some { q with
              faults := q.faults ||| 0x0040
              caseStatus := if q.caseStatus = CaseStatus.pending then CaseStatus.skipped else q.caseStatus }) }.handOver .z2
              o).enterCasing u).raise .tracking)) ∧
        (∀ (o : Tag) (q : Piece), z = .z4 → s.jacketing = some o → s.piece o = some q →
          exec (.exitEyeLeadingEdge z now) s = .next ((({ r with
            jacketing := none
            pool := s.pool.set o (some (if q.jacketStatus = JacketStatus.notRequired then q else { q with
              faults := q.faults ||| 0x1000
              jacketStatus := if q.jacketStatus = JacketStatus.pending then JacketStatus.skipped else q.jacketStatus })) }.handOver .z5
              o).enterJacketing u).raise .tracking)) ∧
        (∀ (o : Tag) (q : Piece), z = .z2 → s.pressEntry = some o → o ≠ u → s.piece o = some q →
          exec (.exitEyeLeadingEdge z now) s = .next { r with
            z2 := { r.z2 with mode := .halt }
            pressEntry := some u
            lost := s.lost ++ [o]
            pool := (s.pool.set o (some { q with
              faults := q.faults ||| 0x2000
              place := .lost
              entryCount := none })).set u (some { p with place := .pressEntry, entryCount := none })
            flags := s.flags ||| 0x002 })

/-! ### Reading zones and pieces, and the lost set (R20, R59 to R62) -/

/-- R12, R20, R59, R62: READ_ZONE, READ_PIECE and LIST_LOST change no state, and their data. The loss position is
counted from 1 for the oldest of the lost set. -/
def Obligations.ReadsOfZonesAndPiecesAnswer : Prop :=
  (∀ (s : State) (u : Tag), s.piece u = s.pool[u]) ∧
  ∀ s : State, s.check = .pass →
    (∀ zone : Byte, (zone.toNat < 1 ∨ 5 < zone.toNat) →
      exec (.readZone zone) s = .next (s.respond 4 (.refuse .badValue))) ∧
    (∀ (entry : Tag → List Byte) (place : Option Tag → List Byte) (queue : Conveyor → List Byte),
      (∀ u p, s.piece u = some p → entry u = byteOf u.val :: split16 p.admission) →
      (∀ u, s.piece u = none → entry u = [byteOf u.val, 0, 0]) →
      place none = [0xFF, 0, 0] → (∀ u, place (some u) = entry u) →
      (∀ c, queue c =
        [(match c.mode with
          | .run => (0 : Byte)
          | .halt => 1
          | .reset => 2)]
          ++ bytes16 c.length ++ bytes16 c.window ++ split16 c.encoder ++ [byteOf c.queue.length]
          ++ c.queue.flatMap entry) →
      exec (.readZone 1) s = .next (s.respond 4 (.ok (queue s.z1 ++ place s.casing))) ∧
      exec (.readZone 2) s = .next (s.respond 4 (.ok (queue s.z2 ++ place s.pressEntry))) ∧
      exec (.readZone 3) s = .next (s.respond 4 (.ok
        ((match s.z3Mode with
          | .run => (0 : Byte)
          | .halt => 1
          | .reset => 2) :: List.replicate 7 0 ++ s.press.positions.toList.flatMap place))) ∧
      exec (.readZone 4) s = .next (s.respond 4 (.ok (queue s.z4 ++ place s.jacketing))) ∧
      exec (.readZone 5) s = .next (s.respond 4 (.ok
        (queue s.z5 ++ byteOf s.gateQueue.length :: s.gateQueue.flatMap entry))) ∧
      ∀ first : Byte, 1 ≤ first.toNat → first.toNat ≤ 96 →
        exec (.listLost first) s = .next (s.respond 4 (.ok
          (byteOf s.lost.length :: ((s.lost.drop (first.toNat - 1)).take 32).flatMap entry)))) ∧
    (∀ first : Byte, (first.toNat < 1 ∨ 96 < first.toNat) →
      exec (.listLost first) s = .next (s.respond 4 (.refuse .badValue))) ∧
    (∀ (tag : Byte) (admission : Word16), 95 < tag.toNat →
      exec (.readPiece tag admission) s = .next (s.respond 6 (.refuse .badValue))) ∧
    (∀ (u : Tag) (admission : Word16), (∀ p, s.piece u = some p → p.admission ≠ admission) →
      exec (.readPiece (byteOf u.val) admission) s = .next (s.respond 6 (.refuse .noSuchPiece))) ∧
    ∀ (u : Tag) (p : Piece) (place detail loss : Byte), s.piece u = some p →
      (p.place = .lost → u ∈ s.lost) →
      (∀ older newer, p.place = .lost → s.lost = older ++ u :: newer → u ∉ older → loss = byteOf (older.length + 1)) →
      (p.place ≠ .lost → loss = 0) →
      ((place, detail) =
        match p.place with
        | .conveyor .z1 => (0, byteOf (s.z1.queue.idxOf u))
        | .casingSlot => (1, 0)
        | .conveyor .z2 => (2, byteOf (s.z2.queue.idxOf u))
        | .pressEntry => (3, 0)
        | .press i => (4, byteOf i.val)
        | .conveyor .z4 => (5, byteOf (s.z4.queue.idxOf u))
        | .jacketingSlot => (6, 0)
        | .conveyor .z5 => (7, byteOf (s.z5.queue.idxOf u))
        | .gateQueue => (8, byteOf (s.gateQueue.idxOf u))
        | .lost => (9, 0)) →
      exec (.readPiece (byteOf u.val) p.admission) s = .next (s.respond 6 (.ok (
        [byteOf u.val] ++ split16 p.admission ++ [p.job.elim 0xFF fun j => byteOf j.val]
          ++ bytes16 (p.copy.getD 0) ++ bytes16 p.thickness ++ [byteOf p.cls.val]
          ++ bytes16 (p.limits.elim 0 DwellLimits.dmin) ++ bytes16 (p.limits.elim 0 DwellLimits.dmax)
          ++ bytes16 p.accumulated ++ [place, detail] ++ split16 (p.entryCount.getD 0)
          ++ [(match p.caseStatus with
              | .pending => (0 : Byte)
              | .married => 1
              | .skipped => 2),
            (match p.jacketStatus with
              | .pending => (0 : Byte)
              | .married => 1
              | .notRequired => 2
              | .skipped => 3),
            if p.copyVerified then (1 : Byte) else 0]
          ++ split16 p.faults
          ++ [(match s.disposition p with
            | .deliver => (0 : Byte)
            | .deliverMarked => 1
            | .divert => 2), loss])))

/-- R3, R60, R61: RESOLVE_LOST and REINSTATE with their refusals in order. -/
def Obligations.LostPiecesAreResolvedOrReinstated : Prop :=
  ∀ s : State, s.check = .pass →
    (∀ (tag : Byte) (admission : Word16) (zone : Byte),
      (95 < tag.toNat →
        exec (.resolveLost tag admission) s = .next (s.respond 6 (.refuse .badValue))) ∧
      ((95 < tag.toNat ∨ ∀ z ∈ [1, 2, 4, 5], zone.toNat ≠ z) →
        exec (.reinstate tag admission zone) s = .next (s.respond 7 (.refuse .badValue)))) ∧
    ∀ (u : Tag) (admission : Word16) (zone : Byte) (z : ConveyorZone),
      (zone.toNat, z) ∈ [(1, .z1), (2, .z2), (4, .z4), (5, .z5)] →
      ((∀ p, s.piece u = some p → p.admission ≠ admission) →
        exec (.resolveLost (byteOf u.val) admission) s = .next (s.respond 6 (.refuse .noSuchPiece)) ∧
        exec (.reinstate (byteOf u.val) admission zone) s = .next (s.respond 7 (.refuse .noSuchPiece))) ∧
      ∀ p, s.piece u = some p → p.admission = admission →
        (u ∉ s.lost →
          exec (.resolveLost (byteOf u.val) admission) s = .next (s.respond 6 (.refuse .wrongState)) ∧
          exec (.reinstate (byteOf u.val) admission zone) s = .next (s.respond 7 (.refuse .wrongState))) ∧
        (u ∈ s.lost →
          exec (.resolveLost (byteOf u.val) admission) s = .next ((s.retire .spoiled u).respond 6 (.ok [])) ∧
          ((s.conveyor z).mode = .reset →
            exec (.reinstate (byteOf u.val) admission zone) s = .next (s.respond 7 (.refuse .wrongState))) ∧
          ((s.conveyor z).mode ≠ .reset → z.capacity ≤ (s.conveyor z).queue.length →
            exec (.reinstate (byteOf u.val) admission zone) s = .next (s.respond 7 (.refuse .zoneFull))) ∧
          ((s.conveyor z).mode ≠ .reset → (s.conveyor z).queue.length < z.capacity →
            exec (.reinstate (byteOf u.val) admission zone) s = .next ({
              s.setConveyor z { s.conveyor z with queue := (s.conveyor z).queue ++ [u] } with
                lost := s.lost.filter (· ≠ u)
                pool := s.pool.set u (some { p with
                  place := .conveyor z
                  entryCount := some (s.conveyor z).encoder }) }.respond 7 (.ok []))))


/-! ### Retirement and the gate (R18, chapter 9) -/

/-- R18, R34, R35, R37, R76, R155, R156: everything that a retirement does: the piece leaves its place with
its waiting gate order, its tag is freed, its job's counts and state, its copy entry and the pulse lamps follow
the kind of retirement, and nothing else changes. The stretch of a pulse is measured on the millisecond time base
(log 9), from the reading last taken (log 2). -/
def Obligations.RetirementSettlesPiece : Prop :=
  ∀ (s : State) (k : Retirement) (t : Tag) (p : Piece), s.piece t = some p →
    ∃ r, r = s.retire k t ∧
      r = { s with
        pool := s.pool.set t none
        jobs := r.jobs
        copyTables := r.copyTables
        press := { s.press with positions := r.press.positions }
        z1 := { s.z1 with queue := s.z1.queue.filter (· ≠ t) }
        z2 := { s.z2 with queue := s.z2.queue.filter (· ≠ t) }
        z4 := { s.z4 with queue := s.z4.queue.filter (· ≠ t) }
        z5 := { s.z5 with queue := s.z5.queue.filter (· ≠ t) }
        casing := if s.casing = some t then none else s.casing
        pressEntry := if s.pressEntry = some t then none else s.pressEntry
        jacketing := if s.jacketing = some t then none else s.jacketing
        lost := s.lost.filter (· ≠ t)
        gateQueue := s.gateQueue.filter (· ≠ t)
        stations := r.stations
        flags := r.flags
        lamps := r.lamps } ∧
      r.freeCount = s.freeCount + 1 ∧
      (∀ i : Fin 12, r.press.positions[i] = if s.press.positions[i] = some t then none else s.press.positions[i]) ∧
      (∀ a, r.station a = { s.station a with orders := (s.station a).orders.filter fun o => gateTag o ≠ some t }) ∧
      (∀ l : LampId, r.lamps[l] =
        if (k = .delivered ∧ s.lamps[l].source = .deliverPulse) ∨ (k = .diverted ∧ s.lamps[l].source = .divertPulse) then
          { s.lamps[l] with stretchEnd := some (s.timeBase + BitVec.ofNat 32 s.lamps[l].stretch) }
        else s.lamps[l]) ∧
      ((p.job.bind s.job = none) → r.jobs = s.jobs ∧ r.copyTables = s.copyTables ∧ r.flags = s.flags) ∧
      ∀ (j : JobSlot) (b b' : Job), p.job = some j → s.job j = some b →
        b' = { b with
          live := b.live - 1
          good := if k = .delivered then b.good + 1 else b.good
          diverted := if k = .diverted then min (b.diverted + 1) 65535 else b.diverted
          spoiled := if k = .spoiled then min (b.spoiled + 1) 65535 else b.spoiled } →
        let completes : Prop := k = .delivered ∧ b.state = .running ∧ b.ordered ≤ b.good + 1
        let empties : Prop := b.state = .closing ∧ b.live ≤ 1
        (completes → r.jobs = s.jobs.set j (some { b' with state := .complete }) ∧ r.flags = s.flags ||| 0x001) ∧
        (empties → r.jobs = s.jobs.set j none ∧ r.flags = s.flags) ∧
        (¬completes → ¬empties → r.jobs = s.jobs.set j (some b') ∧ r.flags = s.flags) ∧
        (b.numbered = none → r.copyTables = s.copyTables) ∧
        ∀ n, b.numbered = some n →
          (empties → r.copyTables = s.copyTables.set n.table []) ∧
          (¬empties →
            (∀ c, p.copy = some c → n.first ≤ c → c ≤ n.last → p.faults &&& 0x000C = 0 →
              r.copyTables = s.copyTables.set n.table ((s.copyTables[n.table]).set (c - n.first)
                (if k = .delivered then
                  (if p.copyVerified = true then CopyState.delivered else CopyState.deliveredUnverified)
                 else CopyState.spoiled))) ∧
            ((∀ c, p.copy = some c → c < n.first ∨ n.last < c ∨ p.faults &&& 0x000C ≠ 0) →
              r.copyTables = s.copyTables))

/-- R15, R148 to R153, R170: the station that holds a role is the one that claims it with standing ASSIGNED; the
disposition; the gate order of an arriving piece and where it goes; the end of the
order in flight by a confirmation or a silence; and the loss of the gate station or of its MARK, by which the
pieces of its queue, or those of its DELIVER_MARKED orders, gain GATE_UNCONFIRMED and are retired diverted. -/
def Obligations.GateUnitSettlesOrders : Prop :=
  (∀ (s : State) (a : Address) (r : Role), StationsSound s →
    (s.holder r = some a ↔ (s.station a).role = some r ∧ (s.station a).standing = some .assigned)) ∧
  (∀ (s : State) (p : Piece),
    s.disposition p =
      if p.faults = 0 then .deliver
      else if p.faults = 0x0200 ∧ (∃ b, p.job.bind s.job = some b ∧ b.overdwellPolicy = .passMarked) ∧
          (∃ a, s.holder .gate = some a ∧ (s.station a).abilities &&& 0x40 ≠ 0) then .deliverMarked
      else .divert) ∧
  (∀ (s : State) (t : Tag) (p : Piece), s.piece t = some p →
    ((s.holder .gate = none ∨ 4 ≤ s.gateQueue.length) →
      s.gateArrival t
        = { s with pool := s.pool.set t (some { p with faults := p.faults ||| 0x4000 }) }.retire .diverted t) ∧
    ∀ a, s.holder .gate = some a → s.gateQueue.length < 4 →
      s.gateArrival t = { s with
        stations := s.stations.set a { s.station a with
          orders := (s.station a).orders ++ [.gate
            (if p.jacketStatus = .pending ∨ p.jacketStatus = .skipped then .divert else s.disposition p) t] }
        gateQueue := s.gateQueue ++ [t]
        pool := s.pool.set t (some { p with place := .gateQueue, entryCount := none }) }) ∧
  (∀ s : State, s.gateInFlight = none → s.confirmFlight = s ∧ s.failFlight = s) ∧
  (∀ (s : State) (f : GateFlight), s.gateInFlight = some f →
    (∀ p, f.tag ∈ s.gateQueue → s.piece f.tag = some p → p.admission = f.admission →
      s.confirmFlight = { s with gateInFlight := none }.retire
        (if f.order = Disposition.divert then .diverted else .delivered) f.tag ∧
      s.failFlight = { s with
        gateInFlight := none
        pool := s.pool.set f.tag (some { p with faults := p.faults ||| 0x4000 }) }.retire .diverted f.tag) ∧
    ((f.tag ∉ s.gateQueue ∨ ∀ p, s.piece f.tag = some p → p.admission ≠ f.admission) →
      s.confirmFlight = { s with gateInFlight := none } ∧ s.failFlight = { s with gateInFlight := none })) ∧
  ∀ (s : State) (a : Address) (unconfirmed : State → Tag → State),
    (∀ (w : State) (t : Tag), unconfirmed w t
      = { w with pool := w.pool.set t ((w.piece t).map fun p : Piece => { p with faults := p.faults ||| 0x4000 }) }.retire
          .diverted t) →
    s.loseGateStation = s.gateQueue.foldl unconfirmed s ∧
    (∃ r, r = ((s.station a).orders.filterMap fun o =>
        match o with
        | .gate .deliverMarked t => some t
        | _ => none).foldl unconfirmed s ∧
      s.dropMark a = { r with stations := (s.dropMark a).stations } ∧
      ∀ c, (s.dropMark a).station c = { r.station c with orders := (r.station c).orders.filter fun o =>
        match o with
        | .gate .deliverMarked _ => false
        | _ => true }) ∧
    (s.loseGateStation).gateQueue = [] ∧
    (∀ t, (s.loseGateStation).piece t = if t ∈ s.gateQueue then none else s.piece t) ∧
    (∀ t, (s.dropMark a).piece t =
      if Order.gate .deliverMarked t ∈ (s.station a).orders then none else s.piece t) ∧
    ∀ c o t, Order.gate o t ∈ ((s.dropMark a).station c).orders ↔
      Order.gate o t ∈ (s.station c).orders ∧ o ≠ .deliverMarked ∧
        Order.gate .deliverMarked t ∉ (s.station a).orders

/-! ### The station link (chapter 10) -/

/-- R150, R163, R166, R175: a POLL to the next address of the cycle takes the oldest order out of its queue
and carries it; none is sent while an exchange is in progress (log 10). R159: a frame is driven while the direction
output is asserted for it, and the line is released at its end, all within the step that sends it (log 5). R176:
READ_STATION reads an entry and clears its latch. -/
def Obligations.PollCarriesOldestOrder : Prop :=
  (∀ (s : State) (a : Address), s.station a = s.stations[a]) ∧
  (∀ (s : State) (a : Address) (code tag : Byte), s.check = .pass → s.link.exchange = none → s.link.next = a →
    ((code, tag) =
      match (s.station a).orders.head? with
      | none => (0, 0)
      | some (.gate .deliver t) => (1, byteOf t.val)
      | some (.gate .deliverMarked t) => (2, byteOf t.val)
      | some (.gate .divert t) => (3, byteOf t.val)
      | some .jawRelease => (4, 0)) →
    exec .poll s = .next { s with
      stations := s.stations.set a { s.station a with orders := (s.station a).orders.tail }
      gateInFlight :=
        match (s.station a).orders.head? with
        | some (.gate o t) => (s.piece t).map fun p => { order := o, tag := t, admission := p.admission }
        | some .jawRelease => none
        | none => none
      link :=
        { next := if h : a.val + 1 < 8 then ⟨a.val + 1, h⟩ else 0
          exchange := some { address := a, carried := (s.station a).orders.head?, awaiting := .window }
          rx := .outside
          buffer := []
          sent := onLine (frameContent (byteOf (a.val + 1)) 0x00 0x50
            [if (s.station a).role = none then 1 else 0, code, tag])
          direction := false } }) ∧
  (∀ (s : State) (a : Address) (kind : Byte) (payload : List Byte),
    ∃ d, d = (({ s with link := { s.link with direction := true } } : State).drive
        (onLine (frameContent (byteOf (a.val + 1)) 0x00 kind payload))) ∧
      s.sendFrame a kind payload
        = { d with link := { d.link with direction := false, rx := .outside, buffer := [] } }) ∧
  (∀ (s : State) (bytes : List Byte),
    s.drive bytes = if s.link.direction = true then { s with link := { s.link with sent := bytes } } else s) ∧
  (∀ s : State, s.link.exchange ≠ none → exec .poll s = .next s) ∧
  (∀ (address : Byte) (s : State), s.check = .pass → (address = 0 ∨ 8 < address.toNat) →
    exec (.readStation address) s = .next (s.respond 4 (.refuse .badValue))) ∧
  ∀ (a : Address) (s : State) (orderCode : Option Order → List Byte), s.check = .pass →
    orderCode none = [0, 0] → orderCode (some .jawRelease) = [4, 0] →
    (∀ t, orderCode (some (.gate .deliver t)) = [1, byteOf t.val]) →
    (∀ t, orderCode (some (.gate .deliverMarked t)) = [2, byteOf t.val]) →
    (∀ t, orderCode (some (.gate .divert t)) = [3, byteOf t.val]) →
    exec (.readStation (byteOf (a.val + 1))) s = .next (
      { s with stations := s.stations.set a { s.station a with latch := false } }.respond 4 (.ok (
        [if (s.station a).present = true then (1 : Byte) else 0,
          if (s.station a).latch = true then (1 : Byte) else 0,
          byteOf (s.station a).silent,
          (match (s.station a).role with
            | none => (0 : Byte)
            | some .infeed => 1
            | some .casing => 2
            | some .press => 3
            | some .jacketing => 4
            | some .gate => 5),
          (match (s.station a).standing with
            | none => (0 : Byte)
            | some .assigned => 1
            | some .conflict => 2),
          (s.station a).abilities]
          ++ orderCode (s.link.exchange.bind fun ex => if ex.address = a then ex.carried else none)
          ++ [byteOf (s.station a).orders.length]
          ++ (s.station a).orders.flatMap fun o => orderCode (some o))))

/-- R159, R161, R167: while the line is not driven, what a byte, a gap and a missing stop bit do to the receiver, and that the reply candidate's
abandonment is silence; while the CJ40 drives the line it takes no byte. REPLY_FRAME is the END mark 0xF3 at its reading and FRAME_ABANDONED its byte at its
reading, and an abandoned frame leaves the buffer empty (log 15); a gap or a missing stop bit OUTSIDE changes
nothing but the reading (log 10, log 15). What an END makes of a frame IN_FRAME is in ReplyOrSilenceEndsExchange. -/
def Obligations.LinkBytesMoveReceiver : Prop :=
  (∀ (s : State) (b : Byte) (now : Word32), s.link.direction = true →
    exec (.linkByteReceived b) s = .next s ∧ exec (.replyFrame now) s = .next { s with timeBase := now } ∧
      exec (.frameAbandoned (.byte b) now) s = .next { s with timeBase := now }) ∧
  ∀ (s : State), s.check = .pass → s.link.direction = false →
    (∀ b : Byte, s.link.rx = .outside → b ≠ 0xF2 → exec (.linkByteReceived b) s = .next s) ∧
    exec (.linkByteReceived 0xF3) s = exec (.replyFrame s.timeBase) s ∧
    (∀ now : Word32, exec (.replyFrame now) s = exec (.linkByteReceived 0xF3) { s with timeBase := now }) ∧
    (∀ (b : Byte) (now : Word32),
      exec (.frameAbandoned (.byte b) now) s = exec (.linkByteReceived b) { s with timeBase := now }) ∧
    (s.link.exchange = none →
      exec (.linkByteReceived 0xF2) s = .next { s with link := { s.link with rx := .inFrame, buffer := [] } }) ∧
    (∀ ex, s.link.exchange = some ex →
      exec (.linkByteReceived 0xF2) s = .next { s with
        link := { s.link with
          rx := .inFrame
          buffer := []
          exchange := some { ex with awaiting := .candidate } } }) ∧
    (s.link.rx = .inFrame →
      exec (.linkByteReceived 0xF4) s = .next { s with link := { s.link with rx := .escaped } }) ∧
    (∀ b : Byte, s.link.rx = .inFrame → b ∉ [0xF2, 0xF3, 0xF4] → s.link.buffer.length < 38 →
      exec (.linkByteReceived b) s = .next { s with link := { s.link with buffer := s.link.buffer ++ [b] } }) ∧
    (∀ b : Byte, s.link.rx = .escaped → b ∈ [0xE2, 0xE3, 0xE4] → s.link.buffer.length < 38 →
      exec (.linkByteReceived b) s = .next { s with
        link := { s.link with rx := .inFrame, buffer := s.link.buffer ++ [b ^^^ 0x10] } }) ∧
    ∀ (abandoned : State → State),
      (∀ u : State, u.link.exchange = none →
        abandoned u = { u with link := { u.link with rx := .outside, buffer := [] } }) →
      (∀ (u : State) (ex : Exchange), u.link.exchange = some ex → ex.awaiting = .window →
        abandoned u = { u with link := { u.link with rx := .outside, buffer := [] } }) →
      (∀ (u : State) (ex : Exchange), u.link.exchange = some ex → ex.awaiting = .candidate →
        abandoned u = { u with link := { u.link with rx := .outside, buffer := [] } }.silence ex) →
      (∀ (b : Byte) (now : Word32),
        (s.link.rx = .inFrame ∧ b ∉ [0xF2, 0xF3, 0xF4] ∧ 38 ≤ s.link.buffer.length) ∨
        (s.link.rx = .escaped ∧ b ∈ [0xE2, 0xE3, 0xE4] ∧ 38 ≤ s.link.buffer.length) ∨
        (s.link.rx = .escaped ∧ b ∉ [0xF2, 0xE2, 0xE3, 0xE4]) →
        exec (.linkByteReceived b) s = .next (abandoned s) ∧
          exec (.frameAbandoned (.byte b) now) s = .next (abandoned { s with timeBase := now })) ∧
      ∀ now : Word32,
        (s.link.rx = .outside → exec (.replyFrame now) s = .next { s with timeBase := now }) ∧
        (s.link.rx = .escaped → exec (.replyFrame now) s = .next (abandoned { s with timeBase := now })) ∧
        (s.link.rx ≠ .outside →
          exec (.frameAbandoned .noStopBit now) s = .next (abandoned { s with timeBase := now }) ∧
            exec (.interByteGapExpiry now) s = .next (abandoned { s with timeBase := now })) ∧
        (s.link.rx = .outside →
          exec (.frameAbandoned .noStopBit now) s = .next { s with timeBase := now } ∧
            exec (.interByteGapExpiry now) s = .next { s with timeBase := now })

/-- R100, R153, R162, R166 to R169, R171, R174: what a completed frame and a reply timeout make of the exchange, and what a
silence and a valid reply do in their steps. REPLY_FRAME is the END mark that completes the frame, and the
completed frame leaves the buffer empty (log 15); a REPLY_TIMEOUT outside the open window, with no exchange or
with a candidate in progress, changes nothing but the reading (log 10). By the third silence the station goes
ABSENT: where it held GATE the pieces of the gate order queue are retired as GateUnitSettlesOrders says; where it
stood in CONFLICT and one PRESENT station is left that claims its role, that one becomes ASSIGNED; nothing else
changes. The loss of the holder of PRESS returns the filter's counters to 0 (R100); a claimant of PRESS that recovers
from a conflict leaves the filter as the conflict left it, unsettled (log 18). -/
def Obligations.ReplyOrSilenceEndsExchange : Prop :=
  (∀ (s : State) (now : Word32) (u : State), s.check = .pass → s.link.direction = false → s.link.rx = .inFrame →
    u = { s with timeBase := now, link := { s.link with rx := .outside, buffer := [] } } →
    (s.link.exchange = none → exec (.replyFrame now) s = .next u) ∧
    ∀ ex, s.link.exchange = some ex →
      (ex.awaiting = .window → exec (.replyFrame now) s = .next u) ∧
      (ex.awaiting = .candidate → judgeReply s.link.buffer = none →
        exec (.replyFrame now) s = .next (u.silence ex)) ∧
      ∀ source payload, ex.awaiting = .candidate → judgeReply s.link.buffer = some (source, payload) →
        exec (.replyFrame now) s = .next (
          if source = byteOf (ex.address.val + 1) then u.validReply ex payload else u.silence ex)) ∧
  (∀ (s : State) (now : Word32),
    (∀ ex, s.link.exchange = some ex → ex.awaiting = .window →
      exec (.replyTimeout now) s = .next ({ s with timeBase := now }.silence ex)) ∧
    ((∀ ex, s.link.exchange = some ex → ex.awaiting = .candidate) →
      exec (.replyTimeout now) s = .next { s with timeBase := now })) ∧
  (∀ (s : State) (ex : Exchange) (g : State),
    g = (match ex.carried with
      | some (.gate _ _) => s.failFlight
      | some .jawRelease => s
      | none => s) →
    ((g.station ex.address).present = true → (g.station ex.address).silent < 2 →
      s.silence ex = { g with
        stations := g.stations.set ex.address
          { g.station ex.address with silent := (g.station ex.address).silent + 1 }
        link := { g.link with exchange := none } }) ∧
    ((g.station ex.address).present = false →
      s.silence ex = { g with
        stations := g.stations.set ex.address { g.station ex.address with silent := 3 }
        link := { g.link with exchange := none } }) ∧
    ((g.station ex.address).present = true → 2 ≤ (g.station ex.address).silent →
      ∃ t, t = s.silence ex ∧ t.link = { g.link with exchange := none } ∧ t.flagSet .stationChange = true ∧
        t.station ex.address =
          { present := false
            latch := true
            silent := 3
            role := none
            standing := none
            abilities := 0
            orders := [] } ∧
        ((g.station ex.address).role = some .gate → (g.station ex.address).standing = some .assigned →
          t.gateQueue = [] ∧ t.pool = g.loseGateStation.pool ∧ t.jobs = g.loseGateStation.jobs ∧
            t.copyTables = g.loseGateStation.copyTables ∧ t.lamps = g.loseGateStation.lamps ∧
            t = { g.loseGateStation with
              stations := t.stations
              flags := g.flags ||| 0x040
              link := { g.link with exchange := none } } ∧
            ∀ b, b ≠ ex.address → t.station b = g.loseGateStation.station b) ∧
        (¬Holds g ex.address .gate →
          t = { g with
            stations := t.stations
            flags := g.flags ||| 0x040
            filter := t.filter
            link := { g.link with exchange := none } } ∧
          ∀ b, b ≠ ex.address → t.station b =
            if (g.station ex.address).standing = some .conflict ∧ (g.station ex.address).role.isSome ∧
                (g.station b).present = true ∧ (g.station b).role = (g.station ex.address).role ∧
                ∀ c, c ≠ ex.address → c ≠ b →
                  ¬((g.station c).present = true ∧ (g.station c).role = (g.station ex.address).role) then
              { g.station b with standing := some .assigned }
            else g.station b) ∧
        (¬Holds g ex.address .press → t.filter = g.filter) ∧
        ((g.station ex.address).role = some .press → (g.station ex.address).standing = some .assigned →
          t.filter = { g.filter with reportCounter := 0, sampleCount := 0 }))) ∧
  ∀ (s : State) (ex : Exchange) (payload : List Byte) (m c : State),
    m = { s with
      stations := s.stations.set ex.address { s.station ex.address with present := true, silent := 0 }
      flags := if (s.station ex.address).present = true then s.flags else s.flags ||| 0x040 } →
    c = (match ex.carried with
      | some (.gate _ _) => m.confirmFlight
      | some .jawRelease => m
      | none => m) →
    s.validReply ex payload
      = { c.takePayload ex.address payload with
          link := { (c.takePayload ex.address payload).link with exchange := none } }

/-- R64, R95, R131, R164, R165, R168: the bytes of the reports and of the verdicts; a report that a reply holds reaches
its block by the sender's role and standing, and its verdict is sent to the sender; an empty payload, a malformed report
and a report from another role do nothing. The verdict's frame is sent whole within the step, after which the line is
released and the receiver OUTSIDE with an empty buffer (log 5). -/
def Obligations.ReportsReachTheirBlocks : Prop :=
  (∀ report : Report, report.bytes =
    match report with
    | .blockScan key copy thickness => [0x01] ++ split32 key ++ split16 copy ++ split16 thickness
    | .caseScan code => [0x02] ++ split24 code
    | .temp sample => [0x03] ++ split16 sample
    | .jacketScan code copy => [0x04] ++ split24 code ++ split16 copy
    | .announce role abilities => [0x05, role, abilities]) ∧
  (∀ report : Report, parseReport report.bytes = some report) ∧
  (∀ (payload : List Byte) (report : Report), parseReport payload = some report → payload = report.bytes) ∧
  (∀ (s : State) (a : Address) (payload : List Byte), (∀ report : Report, payload ≠ report.bytes) →
    s.takePayload a payload = s) ∧
  (∀ (s : State) (a : Address) (role abilities : Byte),
    s.takePayload a (Report.announce role abilities).bytes = s.announce a role abilities) ∧
  (∀ (s : State) (a : Address) (report : Report), (∀ role abilities, report ≠ .announce role abilities) →
    (s.station a).standing ≠ some .assigned → s.takePayload a report.bytes = s) ∧
  (∀ (v : Verdict), v.bytes =
    match v with
    | .admitted t n f => [0x01, byteOf t.val] ++ split16 n ++ split16 f
    | .admitReject t n f => [0x02, byteOf t.val] ++ split16 n ++ split16 f
    | .holdFeed .zoneStopped => [0x03, 1]
    | .holdFeed .queueFull => [0x03, 2]
    | .holdFeed .noRecord => [0x03, 3]
    | .holdFeed .jobWaiting => [0x03, 4]
    | .accept => [0x10]
    | .skip => [0x11]
    | .rejectPass => [0x12]
    | .rejectHold => [0x13]
    | .hold => [0x14]) ∧
  ∀ (s : State) (a : Address) (r : Role) (answer : Verdict × State → State), Holds s a r →
    (∀ v t, answer (v, t) = { t with link := { t.link with
      rx := .outside
      buffer := []
      sent := onLine (frameContent (byteOf (a.val + 1)) 0x00 0x56 v.bytes)
      direction := false } }) →
    (∀ key copy thickness, s.takePayload a (Report.blockScan key copy thickness).bytes =
      if r = .infeed then
        answer (s.blockScan (decide ((s.station a).abilities &&& 0x01 ≠ 0)) key copy thickness)
      else s) ∧
    (∀ code, s.takePayload a (Report.caseScan code).bytes =
      if r = .casing then answer (s.caseScan code (decide ((s.station a).abilities &&& 0x02 ≠ 0))) else s) ∧
    (∀ code copy, s.takePayload a (Report.jacketScan code copy).bytes =
      if r = .jacketing then
        answer (s.jacketScan code copy (decide ((s.station a).abilities &&& 0x10 ≠ 0))
          (decide ((s.station a).abilities &&& 0x20 ≠ 0)))
      else s) ∧
    ∀ sample, s.takePayload a (Report.temp sample).bytes =
      if r = .press ∧ (s.station a).abilities &&& 0x04 ≠ 0 then s.takeTemp sample else s

/-- R160, R161, R162, R164, R167: a reply as the polled station sends it, its content with its CRC, escaped
and between its marks, is taken by the receiver as a valid reply with its payload; the CRC over a content, CRC
included, leaves 0; and a content that fails a check of R162 is discarded. The completed frame leaves the buffer empty
(log 15). The content, the CRC bit by bit, and the
bytes on the line are spelled first. -/
def Obligations.SentReplyIsTakenAsSent : Prop :=
  (∀ (destination source kind : Byte) (payload : List Byte),
    ∃ head, head = [destination, source, kind, BitVec.ofNat 8 payload.length] ++ payload ∧
      frameContent destination source kind payload = head ++ split16 (crc16 head)) ∧
  crc16 [] = 0xFFFF ∧
  (∀ (bytes : List Byte) (b : Byte), crc16 (bytes ++ [b]) =
    [7, 6, 5, 4, 3, 2, 1, 0].foldl
      (fun (c : Word16) i => (c <<< 1) ^^^ (if c.msb = b.getLsbD i then 0 else 0x8005)) (crc16 bytes)) ∧
  (∀ content : List Byte, onLine content =
    0xF2 :: (content.flatMap fun b => if b ∈ [0xF2, 0xF3, 0xF4] then [0xF4, b ^^^ 0x10] else [b]) ++ [0xF3]) ∧
  (∀ (destination source kind : Byte) (payload : List Byte),
    crc16 (frameContent destination source kind payload) = 0) ∧
  (∀ (source : Byte) (payload : List Byte), payload.length ≤ 32 →
    judgeReply (frameContent 0x00 source 0x5A payload) = some (source, payload)) ∧
  (∀ (buffer : List Byte) (source : Byte) (payload : List Byte), judgeReply buffer = some (source, payload) →
    payload.length ≤ 32 ∧ buffer = frameContent 0x00 source 0x5A payload) ∧
  ∀ (s : State) (ex : Exchange) (payload : List Byte), s.check = .pass → s.link.exchange = some ex →
    s.link.direction = false → s.link.rx = .outside → payload.length ≤ 32 →
    (onLine (frameContent 0x00 (byteOf (ex.address.val + 1)) 0x5A payload)).foldl State.linkByte s
      = { s with link := { s.link with
          rx := .outside
          buffer := []
          exchange := some { ex with awaiting := .candidate } } }.validReply
            { ex with awaiting := .candidate } payload

/-! ### Admission and marriage (chapters 4 and 8) -/

/-- R2, R25, R65 to R74: a BLOCK_SCAN by the rows of R65, with the whole record that row 5 makes and what the
admission changes beside it. -/
def Obligations.BlockScanFollowsRows : Prop :=
  ∀ (s : State) (measured : Bool) (key : Word32) (copy thickness : Word16),
    (s.z1.mode ≠ .run → s.blockScan measured key copy thickness = (.holdFeed .zoneStopped, s)) ∧
    (s.z1.mode = .run → 24 ≤ s.z1.queue.length →
      s.blockScan measured key copy thickness = (.holdFeed .queueFull, s)) ∧
    (s.z1.mode = .run → s.z1.queue.length < 24 → (∀ t, s.piece t ≠ none) →
      s.blockScan measured key copy thickness = (.holdFeed .noRecord, { s with flags := s.flags ||| 0x080 })) ∧
    ∀ t : Tag, s.z1.mode = .run → s.z1.queue.length < 24 → s.piece t = none → (∀ u < t, s.piece u ≠ none) →
      (∀ j b, key ≠ 0 → s.findJob key = some (j, b) → b.state = .loaded ∨ b.state = .held →
        s.blockScan measured key copy thickness = (.holdFeed .jobWaiting, s)) ∧
      ((key = 0 ∨ (∀ j b, s.job j = some b → b.key ≠ key) ∨
          ∃ j b, s.findJob key = some (j, b) ∧ b.state = .closing) →
        s.blockScan measured key copy thickness =
          (.admitReject t s.admissionCounter 0x0001, { s with
            pool := s.pool.set t (some
              { admission := s.admissionCounter
                job := none
                copy := none
                thickness := if measured then min thickness.toNat 1600 else 0
                cls := s.classTable.resolve none (if measured then min thickness.toNat 1600 else 0)
                limits := none
                accumulated := 0
                place := .conveyor .z1
                entryCount := some s.z1.encoder
                caseStatus := .pending
                jacketStatus := .pending
                copyVerified := false
                faults := 0x0001 })
            admissionCounter := s.admissionCounter + 1
            z1 := { s.z1 with queue := s.z1.queue ++ [t] } })) ∧
      ∀ (j : JobSlot) (b : Job) (entry : Option CopyState) (surplus range duplicate caliper : Prop),
        key ≠ 0 → s.findJob key = some (j, b) → b.state = .running ∨ b.state = .complete →
        (entry = b.numbered.bind fun n => (s.copyTables[n.table])[copy.toNat - n.first]?) →
        (surplus ↔ b.state = .complete ∨ b.ordered + b.allowance ≤ b.good + b.live) →
        (range ↔ ∃ n, b.numbered = some n ∧ (copy = 0 ∨ copy.toNat < n.first ∨ n.last < copy.toNat)) →
        (duplicate ↔ b.numbered ≠ none ∧ ¬range ∧
          (entry = some .inLine ∨ entry = some .delivered ∨ entry = some .deliveredUnverified)) →
        (caliper ↔ measured = true ∧
          ((b.tolerance : ℤ) < (thickness.toNat : ℤ) - b.nominal ∨ (b.tolerance : ℤ) < b.nominal - thickness.toNat)) →
        ∃ (p : Piece) (copyTables : Vector (List CopyState) 4),
          s.blockScan measured key copy thickness =
            (if p.faults = 0 then Verdict.admitted t p.admission p.faults
              else Verdict.admitReject t p.admission p.faults,
              { s with
                pool := s.pool.set t (some p)
                admissionCounter := s.admissionCounter + 1
                jobs := s.jobs.set j (some { b with live := b.live + 1 })
                copyTables := copyTables
                z1 := { s.z1 with queue := s.z1.queue ++ [t] } }) ∧
          p = { admission := s.admissionCounter
                job := some j
                copy := if b.numbered = none ∨ copy = 0 then none else some copy.toNat
                thickness := if measured then min thickness.toNat 1600 else b.nominal
                cls := s.classTable.resolve b.classOverride (if measured then min thickness.toNat 1600 else b.nominal)
                limits := none
                accumulated := 0
                place := .conveyor .z1
                entryCount := some s.z1.encoder
                caseStatus := .pending
                jacketStatus := if b.jacketCode = none then .notRequired else .pending
                copyVerified := false
                faults := p.faults } ∧
          p.faults &&& 0xFFE1 = 0 ∧ (p.faults &&& 0x0002 ≠ 0 ↔ surplus) ∧ (p.faults &&& 0x0004 ≠ 0 ↔ range) ∧
          (p.faults &&& 0x0008 ≠ 0 ↔ duplicate) ∧ (p.faults &&& 0x0010 ≠ 0 ↔ caliper) ∧
          (b.numbered = none ∨ range ∨ duplicate → copyTables = s.copyTables) ∧
          ∀ n, b.numbered = some n → ¬range → ¬duplicate →
            copyTables = s.copyTables.set n.table ((s.copyTables[n.table]).set (copy.toNat - n.first) .inLine)

/-- R8 to R10, R131 to R136, R139 to R142: a CASE_SCAN and a JACKET_SCAN by their rows. -/
def Obligations.ScansFollowRows : Prop :=
  (∀ (s : State) (code : Word24) (refeed : Bool),
    (s.casing = none → s.caseScan code refeed = (.hold, s)) ∧
    ∀ (t : Tag) (p : Piece), s.casing = some t → s.piece t = some p →
      ((s.z2.mode = .halt ∨ 8 ≤ s.z2.queue.length) → s.caseScan code refeed = (.hold, s)) ∧
      ∀ (moved : CaseStatus → FaultSet → BitVec 9 → State),
        (∀ c f flags, moved c f flags = { s with
          casing := none
          flags := flags
          pool := s.pool.set t (some { p with
            caseStatus := if p.caseStatus = CaseStatus.pending then c else p.caseStatus
            faults := f }) }.handOver .z2 t) →
        s.z2.mode ≠ .halt → s.z2.queue.length < 8 →
        (s.disposition p = .divert → s.caseScan code refeed = (.skip, moved .skipped p.faults s.flags)) ∧
        ∀ b, s.disposition p ≠ .divert → p.job.bind s.job = some b →
          (code = b.caseCode → s.caseScan code refeed = (.accept, moved .married p.faults s.flags)) ∧
          (code ≠ b.caseCode → b.casePolicy = .holdStation → refeed = true →
            s.casingMismatch + 1 < b.mismatchLimit →
            s.caseScan code refeed = (.rejectHold, { s with casingMismatch := s.casingMismatch + 1 })) ∧
          (code ≠ b.caseCode →
            (b.casePolicy = .divertPiece ∨ refeed = false ∨ b.mismatchLimit ≤ s.casingMismatch + 1) →
            s.caseScan code refeed
              = (.rejectPass, moved .skipped (p.faults ||| 0x0020) (s.flags ||| 0x004)))) ∧
  ∀ (s : State) (code : Word24) (copy : Word16) (refeed copyRead : Bool),
    (s.jacketing = none → s.jacketScan code copy refeed copyRead = (.hold, s)) ∧
    ∀ (t : Tag) (p : Piece), s.jacketing = some t → s.piece t = some p →
      ((s.z5.mode = .halt ∨ 12 ≤ s.z5.queue.length) → s.jacketScan code copy refeed copyRead = (.hold, s)) ∧
      ∀ (moved : JacketStatus → Bool → FaultSet → BitVec 9 → State),
        (∀ c verified f flags, moved c verified f flags = { s with
          jacketing := none
          flags := flags
          pool := s.pool.set t (some { p with
            jacketStatus := if p.jacketStatus = JacketStatus.pending then c else p.jacketStatus
            copyVerified := verified
            faults := f }) }.handOver .z5 t) →
        s.z5.mode ≠ .halt → s.z5.queue.length < 12 →
        (p.jacketStatus = .notRequired →
          s.jacketScan code copy refeed copyRead = (.skip, moved .skipped p.copyVerified p.faults s.flags)) ∧
        (p.jacketStatus ≠ .notRequired → s.disposition p = .divert →
          s.jacketScan code copy refeed copyRead = (.skip, moved .skipped p.copyVerified p.faults s.flags)) ∧
        ∀ (b : Job) (compared fits : Prop), p.jacketStatus ≠ .notRequired → s.disposition p ≠ .divert →
          p.job.bind s.job = some b → (compared ↔ b.numbered ≠ none ∧ copyRead = true) →
          (fits ↔ b.jacketCode = some code ∧ (compared → p.copy = some copy.toNat)) →
          (fits → compared →
            s.jacketScan code copy refeed copyRead = (.accept, moved .married true p.faults s.flags)) ∧
          (fits → ¬compared →
            s.jacketScan code copy refeed copyRead = (.accept, moved .married p.copyVerified p.faults s.flags)) ∧
          (¬fits → b.jacketPolicy = .holdStation → refeed = true → s.jacketingMismatch + 1 < b.mismatchLimit →
            s.jacketScan code copy refeed copyRead
              = (.rejectHold, { s with jacketingMismatch := s.jacketingMismatch + 1 })) ∧
          (¬fits →
            (b.jacketPolicy = .divertPiece ∨ refeed = false ∨ b.mismatchLimit ≤ s.jacketingMismatch + 1) →
            s.jacketScan code copy refeed copyRead
              = (.rejectPass, moved .skipped p.copyVerified (p.faults ||| 0x0800) (s.flags ||| 0x004)))

/-! ### Roles (R172 to R174) -/

/-- R100, R172 to R174: an ANNOUNCE of a role that the station does not yet claim, one that repeats or replaces
the abilities of its claim, and one that names no role; and, by R153, what a holder of GATE that leaves the role,
is put in CONFLICT or drops MARK leaves of its pieces. A repeated ANNOUNCE of PRESS without TEMP_REPORT unsettles
the filter and changes nothing else (log 18, R100 over R173). -/
def Obligations.AnnounceClaimsRole : Prop :=
  ∀ (s : State) (a : Address) (role abilities : Byte), StationsSound s → (s.station a).present = true →
    ((role = 0 ∨ 5 < role.toNat) → s.announce a role abilities = s) ∧
    ∀ (r : Role) (taken : Byte) (t : State),
      (role.toNat, r, taken) ∈ [(1, Role.infeed, abilities &&& 0x01), (2, .casing, abilities &&& 0x02),
        (3, .press, abilities &&& 0x0C), (4, .jacketing, abilities &&& 0x30), (5, .gate, abilities &&& 0x40)] →
      t = s.announce a role abilities →
      ((r = .press ∧ taken &&& 0x04 = 0) ∨ (r = .press ∧ (s.station a).role ≠ some r ∧ ∃ b, Holds s b .press) ∨
          (r ≠ .press ∧ Holds s a .press) →
        t.filter = { s.filter with reportCounter := 0, sampleCount := 0 }) ∧
      (¬((r = .press ∧ taken &&& 0x04 = 0) ∨
          (r = .press ∧ (s.station a).role ≠ some r ∧ ∃ b, Holds s b .press) ∨ (r ≠ .press ∧ Holds s a .press)) →
        t.filter = s.filter) ∧
      ((s.station a).role = some r → (s.station a).abilities = taken →
        t = { s with filter := t.filter } ∧ (¬(r = .press ∧ taken &&& 0x04 = 0) → t = s)) ∧
      ((s.station a).role = some r → (s.station a).abilities ≠ taken →
        t.flagSet .stationChange = true ∧
          (t.station a).role = some r ∧ (t.station a).standing = (s.station a).standing ∧
          (t.station a).abilities = taken ∧
          (r = .gate → taken = 0 → ∀ u, Order.gate .deliverMarked u ∉ (t.station a).orders) ∧
          (r = .gate → taken = 0 → (s.station a).standing = some .assigned →
            t.pool = (s.dropMark a).pool ∧ t.jobs = (s.dropMark a).jobs ∧
              t.copyTables = (s.dropMark a).copyTables ∧ t.lamps = (s.dropMark a).lamps ∧
              t.gateQueue = (s.dropMark a).gateQueue ∧
              t = { s.dropMark a with
                stations := (s.dropMark a).stations.set a { (s.dropMark a).station a with abilities := 0 }
                flags := s.flags ||| 0x040 }) ∧
          (¬(r = .gate ∧ taken = 0 ∧ (s.station a).standing = some .assigned) →
            t = { s with
              stations := s.stations.set a { s.station a with
                abilities := taken
                orders :=
                  if r = .press ∧ (s.station a).standing = some .assigned ∧ (s.station a).abilities &&& 0x08 ≠ 0 ∧
                      taken &&& 0x08 = 0 then
                    (s.station a).orders.filter (· ≠ .jawRelease)
                  else (s.station a).orders }
              flags := s.flags ||| 0x040
              filter := t.filter }) ∧
          (r = .press → (s.station a).abilities &&& 0x08 ≠ 0 → taken &&& 0x08 = 0 →
            Order.jawRelease ∉ (t.station a).orders) ∧
          (∀ b, b ≠ a → t.station b = { s.station b with orders := (t.station b).orders }) ∧
          (r ≠ .gate → t = { s with
            stations := s.stations.set a (t.station a)
            flags := s.flags ||| 0x040
            filter := t.filter })) ∧
      ((s.station a).role ≠ some r →
        t.flagSet .stationChange = true ∧
          t.station a = { s.station a with
            role := some r
            standing := if ∃ b, b ≠ a ∧ (s.station b).role = some r then some .conflict else some .assigned
            abilities := taken
            orders := [] } ∧
          (∀ b, b ≠ a → (s.station b).role = some r →
            t.station b = { s.station b with standing := some .conflict, orders := [] }) ∧
          (∀ b, b ≠ a → (s.station b).role ≠ some r →
            (t.station b =
              if (s.station a).role.isSome ∧ (s.station b).role = (s.station a).role ∧
                  (s.station a).standing = some .conflict ∧
                  ∀ c, c ≠ a → c ≠ b → (s.station c).role ≠ (s.station a).role then
                { s.station b with standing := some .assigned, orders := (t.station b).orders }
              else { s.station b with orders := (t.station b).orders })) ∧
          ((Holds s a .gate ∨ (r = .gate ∧ ∃ b, Holds s b .gate)) →
            t.gateQueue = [] ∧ t.pool = s.loseGateStation.pool ∧ t.jobs = s.loseGateStation.jobs ∧
              t.copyTables = s.loseGateStation.copyTables ∧ t.lamps = s.loseGateStation.lamps ∧
              t = { s.loseGateStation with
                stations := t.stations
                flags := s.flags ||| 0x040
                filter := t.filter } ∧
              ∀ b, b ≠ a → (s.station b).role ≠ some r →
                (t.station b).orders = (s.loseGateStation.station b).orders) ∧
          (¬(Holds s a .gate ∨ (r = .gate ∧ ∃ b, Holds s b .gate)) →
            t = { s with stations := t.stations, flags := s.flags ||| 0x040, filter := t.filter } ∧
              ∀ b, b ≠ a → (s.station b).role ≠ some r → (t.station b).orders = (s.station b).orders))

/-! ### What holds over every command -/

/-- R4, R5, R6, R8 to R11: over every command, a record that stays in use keeps its identity, thickness,
class and, once made, its limits; its settled statuses and its copy verified field stay; and it loses no fault.
A tag freed and allocated again in the same step names another piece. -/
def Obligations.RecordFieldsStayFixed : Prop :=
  ∀ (c : Instr) (s t : State) (u : Tag) (p q : Piece),
    exec c s = .next t → s.piece u = some p → t.piece u = some q →
    (q.admission = s.admissionCounter ∧ t.admissionCounter = s.admissionCounter + 1) ∨
    (q.admission = p.admission ∧ q.job = p.job ∧ q.copy = p.copy ∧ q.thickness = p.thickness ∧ q.cls = p.cls ∧
      (p.limits ≠ none → q.limits = p.limits) ∧ min 65535 p.accumulated ≤ q.accumulated ∧
      (p.caseStatus ≠ .pending → q.caseStatus = p.caseStatus) ∧
      (p.jacketStatus ≠ .pending → q.jacketStatus = p.jacketStatus) ∧
      (p.jacketStatus = .pending → q.jacketStatus ≠ .notRequired) ∧
      (p.copyVerified = true → q.copyVerified = true) ∧ p.faults &&& q.faults = p.faults)

/-- R7, R13, R39, R44, R110, R147, R154, R161, law 8: from every state whose pieces stand each in the one place
its record names, with no piece in a zone in RESET, no queue past its capacity and the dwell limits in their
ranges, every step answers such a state. -/
def Obligations.StepKeepsPlaces : Prop :=
  ∀ s t : State, PlacesAgree s → ResetZonesEmpty s → WithinCapacity s → DwellLimitsLegal s → step s = .next t →
    PlacesAgree t ∧ ResetZonesEmpty t ∧ WithinCapacity t ∧ DwellLimitsLegal t

/-- R21, R24, R33, R36, R38, R77: from every state in which keys and copy tables are held once, live counts are the
numbers of records, and copy entries agree with the records, every step answers such a state. Where moreover the
orders to deliver name deliverable pieces (an invariant by StepKeepsGateOrders) and each job's good count with its
pieces without OVER_QUANTITY is within its ordered number and over allowance (law 6), the step keeps that too. -/
def Obligations.StepKeepsJobCounts : Prop :=
  ∀ s t : State, JobTableSound s → LiveCountsExact s → CopiesAgree s → step s = .next t →
    JobTableSound t ∧ LiveCountsExact t ∧ CopiesAgree t ∧ (DeliveriesSound s → GoodWithinLimit s → GoodWithinLimit t)

/-- R93, R94, R99, R159, R170, R174, R175: from every state whose station table is sound, whose filter is in its
ranges, whose direction output is released, and whose link and station table are as at power-on until the check has
passed, every step answers such a state. That the direction output is released between steps is the model's choice:
a frame is sent whole inside its step (log 5). -/
def Obligations.StepKeepsStationsAndFilter : Prop :=
  ∀ s t : State, StationsSound s → FilterLegal s.filter → LinkQuiet s → step s = .next t →
    StationsSound t ∧ FilterLegal t.filter ∧ LinkQuiet t

/-- R8, R145, R147, R157, R175: from every state with sound places and stations and exact live counts in which the
gate order queue agrees with the gate orders, the orders to deliver name deliverable pieces and clean pieces are
married, every step answers a state in which these three hold; and where the queues are within their capacities
(an invariant by StepKeepsPlaces), one in which no station's order queue holds more than 4 orders. -/
def Obligations.StepKeepsGateOrders : Prop :=
  ∀ s t : State, PlacesAgree s → StationsSound s → LiveCountsExact s → GateQueueSound s → DeliveriesSound s → CleanPiecesMarried s →
    step s = .next t →
    GateQueueSound t ∧ DeliveriesSound t ∧ CleanPiecesMarried t ∧ (WithinCapacity s → OrdersWithinCapacity t)

/-- R6, R7, R8, R13, R21, R24, R33, R36, R38, R39, R43, R44, R77, R93, R94, R110, R145, R147, R148, R150, R154, R157,
R159, R161, R170, R174, R175: the invariants that StepKeepsPlaces, StepKeepsJobCounts, StepKeepsStationsAndFilter and
StepKeepsGateOrders keep hold right after power-on. -/
def Obligations.ResetMeetsInvariants : Prop :=
  PlacesAgree State.reset ∧ ResetZonesEmpty State.reset ∧ WithinCapacity State.reset ∧ DwellLimitsLegal State.reset ∧
    JobTableSound State.reset ∧ LiveCountsExact State.reset ∧ CopiesAgree State.reset ∧
    GoodWithinLimit State.reset ∧ LinkQuiet State.reset ∧
    StationsSound State.reset ∧ FilterLegal State.reset.filter ∧ GateQueueSound State.reset ∧
    DeliveriesSound State.reset ∧ CleanPiecesMarried State.reset ∧ OrdersWithinCapacity State.reset
end

