-- ==== Sys2Proof/Laws/State.lean ====
section
/-! SUPPORT. One lemma for each field of the state under each plain update, true by `rfl`: what an update
writes, and that it leaves every other field as it was. -/

namespace Sys2Proof.Machine

/-! ### setPiece -/

@[simp] theorem State.setPiece_timeBase (s : State) (t : Tag) (p : Option Piece) : (s.setPiece t p).timeBase = s.timeBase := rfl
@[simp] theorem State.setPiece_pool (s : State) (t : Tag) (p : Option Piece) : (s.setPiece t p).pool = s.pool.set t p := rfl
@[simp] theorem State.setPiece_admissionCounter (s : State) (t : Tag) (p : Option Piece) : (s.setPiece t p).admissionCounter = s.admissionCounter := rfl
@[simp] theorem State.setPiece_jobs (s : State) (t : Tag) (p : Option Piece) : (s.setPiece t p).jobs = s.jobs := rfl
@[simp] theorem State.setPiece_copyTables (s : State) (t : Tag) (p : Option Piece) : (s.setPiece t p).copyTables = s.copyTables := rfl
@[simp] theorem State.setPiece_classTable (s : State) (t : Tag) (p : Option Piece) : (s.setPiece t p).classTable = s.classTable := rfl
@[simp] theorem State.setPiece_filter (s : State) (t : Tag) (p : Option Piece) : (s.setPiece t p).filter = s.filter := rfl
@[simp] theorem State.setPiece_press (s : State) (t : Tag) (p : Option Piece) : (s.setPiece t p).press = s.press := rfl
@[simp] theorem State.setPiece_z1 (s : State) (t : Tag) (p : Option Piece) : (s.setPiece t p).z1 = s.z1 := rfl
@[simp] theorem State.setPiece_z2 (s : State) (t : Tag) (p : Option Piece) : (s.setPiece t p).z2 = s.z2 := rfl
@[simp] theorem State.setPiece_z4 (s : State) (t : Tag) (p : Option Piece) : (s.setPiece t p).z4 = s.z4 := rfl
@[simp] theorem State.setPiece_z5 (s : State) (t : Tag) (p : Option Piece) : (s.setPiece t p).z5 = s.z5 := rfl
@[simp] theorem State.setPiece_z3Mode (s : State) (t : Tag) (p : Option Piece) : (s.setPiece t p).z3Mode = s.z3Mode := rfl
@[simp] theorem State.setPiece_casing (s : State) (t : Tag) (p : Option Piece) : (s.setPiece t p).casing = s.casing := rfl
@[simp] theorem State.setPiece_pressEntry (s : State) (t : Tag) (p : Option Piece) : (s.setPiece t p).pressEntry = s.pressEntry := rfl
@[simp] theorem State.setPiece_jacketing (s : State) (t : Tag) (p : Option Piece) : (s.setPiece t p).jacketing = s.jacketing := rfl
@[simp] theorem State.setPiece_lost (s : State) (t : Tag) (p : Option Piece) : (s.setPiece t p).lost = s.lost := rfl
@[simp] theorem State.setPiece_casingMismatch (s : State) (t : Tag) (p : Option Piece) : (s.setPiece t p).casingMismatch = s.casingMismatch := rfl
@[simp] theorem State.setPiece_jacketingMismatch (s : State) (t : Tag) (p : Option Piece) : (s.setPiece t p).jacketingMismatch = s.jacketingMismatch := rfl
@[simp] theorem State.setPiece_gateQueue (s : State) (t : Tag) (p : Option Piece) : (s.setPiece t p).gateQueue = s.gateQueue := rfl
@[simp] theorem State.setPiece_gateInFlight (s : State) (t : Tag) (p : Option Piece) : (s.setPiece t p).gateInFlight = s.gateInFlight := rfl
@[simp] theorem State.setPiece_stations (s : State) (t : Tag) (p : Option Piece) : (s.setPiece t p).stations = s.stations := rfl
@[simp] theorem State.setPiece_link (s : State) (t : Tag) (p : Option Piece) : (s.setPiece t p).link = s.link := rfl
@[simp] theorem State.setPiece_check (s : State) (t : Tag) (p : Option Piece) : (s.setPiece t p).check = s.check := rfl
@[simp] theorem State.setPiece_flags (s : State) (t : Tag) (p : Option Piece) : (s.setPiece t p).flags = s.flags := rfl
@[simp] theorem State.setPiece_enables (s : State) (t : Tag) (p : Option Piece) : (s.setPiece t p).enables = s.enables := rfl
@[simp] theorem State.setPiece_lamps (s : State) (t : Tag) (p : Option Piece) : (s.setPiece t p).lamps = s.lamps := rfl
@[simp] theorem State.setPiece_response (s : State) (t : Tag) (p : Option Piece) : (s.setPiece t p).response = s.response := rfl
@[simp] theorem State.setPiece_clockedOut (s : State) (t : Tag) (p : Option Piece) : (s.setPiece t p).clockedOut = s.clockedOut := rfl
@[simp] theorem State.setPiece_pending (s : State) (t : Tag) (p : Option Piece) : (s.setPiece t p).pending = s.pending := rfl

/-! ### updatePiece -/

@[simp] theorem State.updatePiece_timeBase (s : State) (t : Tag) (f : Piece → Piece) : (s.updatePiece t f).timeBase = s.timeBase := rfl
@[simp] theorem State.updatePiece_pool (s : State) (t : Tag) (f : Piece → Piece) : (s.updatePiece t f).pool = s.pool.set t ((s.piece t).map f) := rfl
@[simp] theorem State.updatePiece_admissionCounter (s : State) (t : Tag) (f : Piece → Piece) : (s.updatePiece t f).admissionCounter = s.admissionCounter := rfl
@[simp] theorem State.updatePiece_jobs (s : State) (t : Tag) (f : Piece → Piece) : (s.updatePiece t f).jobs = s.jobs := rfl
@[simp] theorem State.updatePiece_copyTables (s : State) (t : Tag) (f : Piece → Piece) : (s.updatePiece t f).copyTables = s.copyTables := rfl
@[simp] theorem State.updatePiece_classTable (s : State) (t : Tag) (f : Piece → Piece) : (s.updatePiece t f).classTable = s.classTable := rfl
@[simp] theorem State.updatePiece_filter (s : State) (t : Tag) (f : Piece → Piece) : (s.updatePiece t f).filter = s.filter := rfl
@[simp] theorem State.updatePiece_press (s : State) (t : Tag) (f : Piece → Piece) : (s.updatePiece t f).press = s.press := rfl
@[simp] theorem State.updatePiece_z1 (s : State) (t : Tag) (f : Piece → Piece) : (s.updatePiece t f).z1 = s.z1 := rfl
@[simp] theorem State.updatePiece_z2 (s : State) (t : Tag) (f : Piece → Piece) : (s.updatePiece t f).z2 = s.z2 := rfl
@[simp] theorem State.updatePiece_z4 (s : State) (t : Tag) (f : Piece → Piece) : (s.updatePiece t f).z4 = s.z4 := rfl
@[simp] theorem State.updatePiece_z5 (s : State) (t : Tag) (f : Piece → Piece) : (s.updatePiece t f).z5 = s.z5 := rfl
@[simp] theorem State.updatePiece_z3Mode (s : State) (t : Tag) (f : Piece → Piece) : (s.updatePiece t f).z3Mode = s.z3Mode := rfl
@[simp] theorem State.updatePiece_casing (s : State) (t : Tag) (f : Piece → Piece) : (s.updatePiece t f).casing = s.casing := rfl
@[simp] theorem State.updatePiece_pressEntry (s : State) (t : Tag) (f : Piece → Piece) : (s.updatePiece t f).pressEntry = s.pressEntry := rfl
@[simp] theorem State.updatePiece_jacketing (s : State) (t : Tag) (f : Piece → Piece) : (s.updatePiece t f).jacketing = s.jacketing := rfl
@[simp] theorem State.updatePiece_lost (s : State) (t : Tag) (f : Piece → Piece) : (s.updatePiece t f).lost = s.lost := rfl
@[simp] theorem State.updatePiece_casingMismatch (s : State) (t : Tag) (f : Piece → Piece) : (s.updatePiece t f).casingMismatch = s.casingMismatch := rfl
@[simp] theorem State.updatePiece_jacketingMismatch (s : State) (t : Tag) (f : Piece → Piece) : (s.updatePiece t f).jacketingMismatch = s.jacketingMismatch := rfl
@[simp] theorem State.updatePiece_gateQueue (s : State) (t : Tag) (f : Piece → Piece) : (s.updatePiece t f).gateQueue = s.gateQueue := rfl
@[simp] theorem State.updatePiece_gateInFlight (s : State) (t : Tag) (f : Piece → Piece) : (s.updatePiece t f).gateInFlight = s.gateInFlight := rfl
@[simp] theorem State.updatePiece_stations (s : State) (t : Tag) (f : Piece → Piece) : (s.updatePiece t f).stations = s.stations := rfl
@[simp] theorem State.updatePiece_link (s : State) (t : Tag) (f : Piece → Piece) : (s.updatePiece t f).link = s.link := rfl
@[simp] theorem State.updatePiece_check (s : State) (t : Tag) (f : Piece → Piece) : (s.updatePiece t f).check = s.check := rfl
@[simp] theorem State.updatePiece_flags (s : State) (t : Tag) (f : Piece → Piece) : (s.updatePiece t f).flags = s.flags := rfl
@[simp] theorem State.updatePiece_enables (s : State) (t : Tag) (f : Piece → Piece) : (s.updatePiece t f).enables = s.enables := rfl
@[simp] theorem State.updatePiece_lamps (s : State) (t : Tag) (f : Piece → Piece) : (s.updatePiece t f).lamps = s.lamps := rfl
@[simp] theorem State.updatePiece_response (s : State) (t : Tag) (f : Piece → Piece) : (s.updatePiece t f).response = s.response := rfl
@[simp] theorem State.updatePiece_clockedOut (s : State) (t : Tag) (f : Piece → Piece) : (s.updatePiece t f).clockedOut = s.clockedOut := rfl
@[simp] theorem State.updatePiece_pending (s : State) (t : Tag) (f : Piece → Piece) : (s.updatePiece t f).pending = s.pending := rfl

/-! ### updatePieces -/

@[simp] theorem State.updatePieces_timeBase (s : State) (ts : List Tag) (f : Piece → Piece) : (s.updatePieces ts f).timeBase = s.timeBase := by simp only [State.updatePieces]
@[simp] theorem State.updatePieces_pool (s : State) (ts : List Tag) (f : Piece → Piece) : (s.updatePieces ts f).pool = Vector.ofFn fun t => if t ∈ ts then (s.piece t).map f else s.piece t := by simp only [State.updatePieces]
@[simp] theorem State.updatePieces_admissionCounter (s : State) (ts : List Tag) (f : Piece → Piece) : (s.updatePieces ts f).admissionCounter = s.admissionCounter := by simp only [State.updatePieces]
@[simp] theorem State.updatePieces_jobs (s : State) (ts : List Tag) (f : Piece → Piece) : (s.updatePieces ts f).jobs = s.jobs := by simp only [State.updatePieces]
@[simp] theorem State.updatePieces_copyTables (s : State) (ts : List Tag) (f : Piece → Piece) : (s.updatePieces ts f).copyTables = s.copyTables := by simp only [State.updatePieces]
@[simp] theorem State.updatePieces_classTable (s : State) (ts : List Tag) (f : Piece → Piece) : (s.updatePieces ts f).classTable = s.classTable := by simp only [State.updatePieces]
@[simp] theorem State.updatePieces_filter (s : State) (ts : List Tag) (f : Piece → Piece) : (s.updatePieces ts f).filter = s.filter := by simp only [State.updatePieces]
@[simp] theorem State.updatePieces_press (s : State) (ts : List Tag) (f : Piece → Piece) : (s.updatePieces ts f).press = s.press := by simp only [State.updatePieces]
@[simp] theorem State.updatePieces_z1 (s : State) (ts : List Tag) (f : Piece → Piece) : (s.updatePieces ts f).z1 = s.z1 := by simp only [State.updatePieces]
@[simp] theorem State.updatePieces_z2 (s : State) (ts : List Tag) (f : Piece → Piece) : (s.updatePieces ts f).z2 = s.z2 := by simp only [State.updatePieces]
@[simp] theorem State.updatePieces_z4 (s : State) (ts : List Tag) (f : Piece → Piece) : (s.updatePieces ts f).z4 = s.z4 := by simp only [State.updatePieces]
@[simp] theorem State.updatePieces_z5 (s : State) (ts : List Tag) (f : Piece → Piece) : (s.updatePieces ts f).z5 = s.z5 := by simp only [State.updatePieces]
@[simp] theorem State.updatePieces_z3Mode (s : State) (ts : List Tag) (f : Piece → Piece) : (s.updatePieces ts f).z3Mode = s.z3Mode := by simp only [State.updatePieces]
@[simp] theorem State.updatePieces_casing (s : State) (ts : List Tag) (f : Piece → Piece) : (s.updatePieces ts f).casing = s.casing := by simp only [State.updatePieces]
@[simp] theorem State.updatePieces_pressEntry (s : State) (ts : List Tag) (f : Piece → Piece) : (s.updatePieces ts f).pressEntry = s.pressEntry := by simp only [State.updatePieces]
@[simp] theorem State.updatePieces_jacketing (s : State) (ts : List Tag) (f : Piece → Piece) : (s.updatePieces ts f).jacketing = s.jacketing := by simp only [State.updatePieces]
@[simp] theorem State.updatePieces_lost (s : State) (ts : List Tag) (f : Piece → Piece) : (s.updatePieces ts f).lost = s.lost := by simp only [State.updatePieces]
@[simp] theorem State.updatePieces_casingMismatch (s : State) (ts : List Tag) (f : Piece → Piece) : (s.updatePieces ts f).casingMismatch = s.casingMismatch := by simp only [State.updatePieces]
@[simp] theorem State.updatePieces_jacketingMismatch (s : State) (ts : List Tag) (f : Piece → Piece) : (s.updatePieces ts f).jacketingMismatch = s.jacketingMismatch := by simp only [State.updatePieces]
@[simp] theorem State.updatePieces_gateQueue (s : State) (ts : List Tag) (f : Piece → Piece) : (s.updatePieces ts f).gateQueue = s.gateQueue := by simp only [State.updatePieces]
@[simp] theorem State.updatePieces_gateInFlight (s : State) (ts : List Tag) (f : Piece → Piece) : (s.updatePieces ts f).gateInFlight = s.gateInFlight := by simp only [State.updatePieces]
@[simp] theorem State.updatePieces_stations (s : State) (ts : List Tag) (f : Piece → Piece) : (s.updatePieces ts f).stations = s.stations := by simp only [State.updatePieces]
@[simp] theorem State.updatePieces_link (s : State) (ts : List Tag) (f : Piece → Piece) : (s.updatePieces ts f).link = s.link := by simp only [State.updatePieces]
@[simp] theorem State.updatePieces_check (s : State) (ts : List Tag) (f : Piece → Piece) : (s.updatePieces ts f).check = s.check := by simp only [State.updatePieces]
@[simp] theorem State.updatePieces_flags (s : State) (ts : List Tag) (f : Piece → Piece) : (s.updatePieces ts f).flags = s.flags := by simp only [State.updatePieces]
@[simp] theorem State.updatePieces_enables (s : State) (ts : List Tag) (f : Piece → Piece) : (s.updatePieces ts f).enables = s.enables := by simp only [State.updatePieces]
@[simp] theorem State.updatePieces_lamps (s : State) (ts : List Tag) (f : Piece → Piece) : (s.updatePieces ts f).lamps = s.lamps := by simp only [State.updatePieces]
@[simp] theorem State.updatePieces_response (s : State) (ts : List Tag) (f : Piece → Piece) : (s.updatePieces ts f).response = s.response := by simp only [State.updatePieces]
@[simp] theorem State.updatePieces_clockedOut (s : State) (ts : List Tag) (f : Piece → Piece) : (s.updatePieces ts f).clockedOut = s.clockedOut := by simp only [State.updatePieces]
@[simp] theorem State.updatePieces_pending (s : State) (ts : List Tag) (f : Piece → Piece) : (s.updatePieces ts f).pending = s.pending := by simp only [State.updatePieces]

/-! ### addFault -/

@[simp] theorem State.addFault_timeBase (s : State) (k : FaultKind) (t : Tag) : (s.addFault k t).timeBase = s.timeBase := rfl
@[simp] theorem State.addFault_pool (s : State) (k : FaultKind) (t : Tag) : (s.addFault k t).pool = s.pool.set t ((s.piece t).map (·.addFault k)) := rfl
@[simp] theorem State.addFault_admissionCounter (s : State) (k : FaultKind) (t : Tag) : (s.addFault k t).admissionCounter = s.admissionCounter := rfl
@[simp] theorem State.addFault_jobs (s : State) (k : FaultKind) (t : Tag) : (s.addFault k t).jobs = s.jobs := rfl
@[simp] theorem State.addFault_copyTables (s : State) (k : FaultKind) (t : Tag) : (s.addFault k t).copyTables = s.copyTables := rfl
@[simp] theorem State.addFault_classTable (s : State) (k : FaultKind) (t : Tag) : (s.addFault k t).classTable = s.classTable := rfl
@[simp] theorem State.addFault_filter (s : State) (k : FaultKind) (t : Tag) : (s.addFault k t).filter = s.filter := rfl
@[simp] theorem State.addFault_press (s : State) (k : FaultKind) (t : Tag) : (s.addFault k t).press = s.press := rfl
@[simp] theorem State.addFault_z1 (s : State) (k : FaultKind) (t : Tag) : (s.addFault k t).z1 = s.z1 := rfl
@[simp] theorem State.addFault_z2 (s : State) (k : FaultKind) (t : Tag) : (s.addFault k t).z2 = s.z2 := rfl
@[simp] theorem State.addFault_z4 (s : State) (k : FaultKind) (t : Tag) : (s.addFault k t).z4 = s.z4 := rfl
@[simp] theorem State.addFault_z5 (s : State) (k : FaultKind) (t : Tag) : (s.addFault k t).z5 = s.z5 := rfl
@[simp] theorem State.addFault_z3Mode (s : State) (k : FaultKind) (t : Tag) : (s.addFault k t).z3Mode = s.z3Mode := rfl
@[simp] theorem State.addFault_casing (s : State) (k : FaultKind) (t : Tag) : (s.addFault k t).casing = s.casing := rfl
@[simp] theorem State.addFault_pressEntry (s : State) (k : FaultKind) (t : Tag) : (s.addFault k t).pressEntry = s.pressEntry := rfl
@[simp] theorem State.addFault_jacketing (s : State) (k : FaultKind) (t : Tag) : (s.addFault k t).jacketing = s.jacketing := rfl
@[simp] theorem State.addFault_lost (s : State) (k : FaultKind) (t : Tag) : (s.addFault k t).lost = s.lost := rfl
@[simp] theorem State.addFault_casingMismatch (s : State) (k : FaultKind) (t : Tag) : (s.addFault k t).casingMismatch = s.casingMismatch := rfl
@[simp] theorem State.addFault_jacketingMismatch (s : State) (k : FaultKind) (t : Tag) : (s.addFault k t).jacketingMismatch = s.jacketingMismatch := rfl
@[simp] theorem State.addFault_gateQueue (s : State) (k : FaultKind) (t : Tag) : (s.addFault k t).gateQueue = s.gateQueue := rfl
@[simp] theorem State.addFault_gateInFlight (s : State) (k : FaultKind) (t : Tag) : (s.addFault k t).gateInFlight = s.gateInFlight := rfl
@[simp] theorem State.addFault_stations (s : State) (k : FaultKind) (t : Tag) : (s.addFault k t).stations = s.stations := rfl
@[simp] theorem State.addFault_link (s : State) (k : FaultKind) (t : Tag) : (s.addFault k t).link = s.link := rfl
@[simp] theorem State.addFault_check (s : State) (k : FaultKind) (t : Tag) : (s.addFault k t).check = s.check := rfl
@[simp] theorem State.addFault_flags (s : State) (k : FaultKind) (t : Tag) : (s.addFault k t).flags = s.flags := rfl
@[simp] theorem State.addFault_enables (s : State) (k : FaultKind) (t : Tag) : (s.addFault k t).enables = s.enables := rfl
@[simp] theorem State.addFault_lamps (s : State) (k : FaultKind) (t : Tag) : (s.addFault k t).lamps = s.lamps := rfl
@[simp] theorem State.addFault_response (s : State) (k : FaultKind) (t : Tag) : (s.addFault k t).response = s.response := rfl
@[simp] theorem State.addFault_clockedOut (s : State) (k : FaultKind) (t : Tag) : (s.addFault k t).clockedOut = s.clockedOut := rfl
@[simp] theorem State.addFault_pending (s : State) (k : FaultKind) (t : Tag) : (s.addFault k t).pending = s.pending := rfl

/-! ### setJob -/

@[simp] theorem State.setJob_timeBase (s : State) (j : JobSlot) (b : Option Job) : (s.setJob j b).timeBase = s.timeBase := rfl
@[simp] theorem State.setJob_pool (s : State) (j : JobSlot) (b : Option Job) : (s.setJob j b).pool = s.pool := rfl
@[simp] theorem State.setJob_admissionCounter (s : State) (j : JobSlot) (b : Option Job) : (s.setJob j b).admissionCounter = s.admissionCounter := rfl
@[simp] theorem State.setJob_jobs (s : State) (j : JobSlot) (b : Option Job) : (s.setJob j b).jobs = s.jobs.set j b := rfl
@[simp] theorem State.setJob_copyTables (s : State) (j : JobSlot) (b : Option Job) : (s.setJob j b).copyTables = s.copyTables := rfl
@[simp] theorem State.setJob_classTable (s : State) (j : JobSlot) (b : Option Job) : (s.setJob j b).classTable = s.classTable := rfl
@[simp] theorem State.setJob_filter (s : State) (j : JobSlot) (b : Option Job) : (s.setJob j b).filter = s.filter := rfl
@[simp] theorem State.setJob_press (s : State) (j : JobSlot) (b : Option Job) : (s.setJob j b).press = s.press := rfl
@[simp] theorem State.setJob_z1 (s : State) (j : JobSlot) (b : Option Job) : (s.setJob j b).z1 = s.z1 := rfl
@[simp] theorem State.setJob_z2 (s : State) (j : JobSlot) (b : Option Job) : (s.setJob j b).z2 = s.z2 := rfl
@[simp] theorem State.setJob_z4 (s : State) (j : JobSlot) (b : Option Job) : (s.setJob j b).z4 = s.z4 := rfl
@[simp] theorem State.setJob_z5 (s : State) (j : JobSlot) (b : Option Job) : (s.setJob j b).z5 = s.z5 := rfl
@[simp] theorem State.setJob_z3Mode (s : State) (j : JobSlot) (b : Option Job) : (s.setJob j b).z3Mode = s.z3Mode := rfl
@[simp] theorem State.setJob_casing (s : State) (j : JobSlot) (b : Option Job) : (s.setJob j b).casing = s.casing := rfl
@[simp] theorem State.setJob_pressEntry (s : State) (j : JobSlot) (b : Option Job) : (s.setJob j b).pressEntry = s.pressEntry := rfl
@[simp] theorem State.setJob_jacketing (s : State) (j : JobSlot) (b : Option Job) : (s.setJob j b).jacketing = s.jacketing := rfl
@[simp] theorem State.setJob_lost (s : State) (j : JobSlot) (b : Option Job) : (s.setJob j b).lost = s.lost := rfl
@[simp] theorem State.setJob_casingMismatch (s : State) (j : JobSlot) (b : Option Job) : (s.setJob j b).casingMismatch = s.casingMismatch := rfl
@[simp] theorem State.setJob_jacketingMismatch (s : State) (j : JobSlot) (b : Option Job) : (s.setJob j b).jacketingMismatch = s.jacketingMismatch := rfl
@[simp] theorem State.setJob_gateQueue (s : State) (j : JobSlot) (b : Option Job) : (s.setJob j b).gateQueue = s.gateQueue := rfl
@[simp] theorem State.setJob_gateInFlight (s : State) (j : JobSlot) (b : Option Job) : (s.setJob j b).gateInFlight = s.gateInFlight := rfl
@[simp] theorem State.setJob_stations (s : State) (j : JobSlot) (b : Option Job) : (s.setJob j b).stations = s.stations := rfl
@[simp] theorem State.setJob_link (s : State) (j : JobSlot) (b : Option Job) : (s.setJob j b).link = s.link := rfl
@[simp] theorem State.setJob_check (s : State) (j : JobSlot) (b : Option Job) : (s.setJob j b).check = s.check := rfl
@[simp] theorem State.setJob_flags (s : State) (j : JobSlot) (b : Option Job) : (s.setJob j b).flags = s.flags := rfl
@[simp] theorem State.setJob_enables (s : State) (j : JobSlot) (b : Option Job) : (s.setJob j b).enables = s.enables := rfl
@[simp] theorem State.setJob_lamps (s : State) (j : JobSlot) (b : Option Job) : (s.setJob j b).lamps = s.lamps := rfl
@[simp] theorem State.setJob_response (s : State) (j : JobSlot) (b : Option Job) : (s.setJob j b).response = s.response := rfl
@[simp] theorem State.setJob_clockedOut (s : State) (j : JobSlot) (b : Option Job) : (s.setJob j b).clockedOut = s.clockedOut := rfl
@[simp] theorem State.setJob_pending (s : State) (j : JobSlot) (b : Option Job) : (s.setJob j b).pending = s.pending := rfl

/-! ### setStation -/

@[simp] theorem State.setStation_timeBase (s : State) (a : Address) (st : Station) : (s.setStation a st).timeBase = s.timeBase := rfl
@[simp] theorem State.setStation_pool (s : State) (a : Address) (st : Station) : (s.setStation a st).pool = s.pool := rfl
@[simp] theorem State.setStation_admissionCounter (s : State) (a : Address) (st : Station) : (s.setStation a st).admissionCounter = s.admissionCounter := rfl
@[simp] theorem State.setStation_jobs (s : State) (a : Address) (st : Station) : (s.setStation a st).jobs = s.jobs := rfl
@[simp] theorem State.setStation_copyTables (s : State) (a : Address) (st : Station) : (s.setStation a st).copyTables = s.copyTables := rfl
@[simp] theorem State.setStation_classTable (s : State) (a : Address) (st : Station) : (s.setStation a st).classTable = s.classTable := rfl
@[simp] theorem State.setStation_filter (s : State) (a : Address) (st : Station) : (s.setStation a st).filter = s.filter := rfl
@[simp] theorem State.setStation_press (s : State) (a : Address) (st : Station) : (s.setStation a st).press = s.press := rfl
@[simp] theorem State.setStation_z1 (s : State) (a : Address) (st : Station) : (s.setStation a st).z1 = s.z1 := rfl
@[simp] theorem State.setStation_z2 (s : State) (a : Address) (st : Station) : (s.setStation a st).z2 = s.z2 := rfl
@[simp] theorem State.setStation_z4 (s : State) (a : Address) (st : Station) : (s.setStation a st).z4 = s.z4 := rfl
@[simp] theorem State.setStation_z5 (s : State) (a : Address) (st : Station) : (s.setStation a st).z5 = s.z5 := rfl
@[simp] theorem State.setStation_z3Mode (s : State) (a : Address) (st : Station) : (s.setStation a st).z3Mode = s.z3Mode := rfl
@[simp] theorem State.setStation_casing (s : State) (a : Address) (st : Station) : (s.setStation a st).casing = s.casing := rfl
@[simp] theorem State.setStation_pressEntry (s : State) (a : Address) (st : Station) : (s.setStation a st).pressEntry = s.pressEntry := rfl
@[simp] theorem State.setStation_jacketing (s : State) (a : Address) (st : Station) : (s.setStation a st).jacketing = s.jacketing := rfl
@[simp] theorem State.setStation_lost (s : State) (a : Address) (st : Station) : (s.setStation a st).lost = s.lost := rfl
@[simp] theorem State.setStation_casingMismatch (s : State) (a : Address) (st : Station) : (s.setStation a st).casingMismatch = s.casingMismatch := rfl
@[simp] theorem State.setStation_jacketingMismatch (s : State) (a : Address) (st : Station) : (s.setStation a st).jacketingMismatch = s.jacketingMismatch := rfl
@[simp] theorem State.setStation_gateQueue (s : State) (a : Address) (st : Station) : (s.setStation a st).gateQueue = s.gateQueue := rfl
@[simp] theorem State.setStation_gateInFlight (s : State) (a : Address) (st : Station) : (s.setStation a st).gateInFlight = s.gateInFlight := rfl
@[simp] theorem State.setStation_stations (s : State) (a : Address) (st : Station) : (s.setStation a st).stations = s.stations.set a st := rfl
@[simp] theorem State.setStation_link (s : State) (a : Address) (st : Station) : (s.setStation a st).link = s.link := rfl
@[simp] theorem State.setStation_check (s : State) (a : Address) (st : Station) : (s.setStation a st).check = s.check := rfl
@[simp] theorem State.setStation_flags (s : State) (a : Address) (st : Station) : (s.setStation a st).flags = s.flags := rfl
@[simp] theorem State.setStation_enables (s : State) (a : Address) (st : Station) : (s.setStation a st).enables = s.enables := rfl
@[simp] theorem State.setStation_lamps (s : State) (a : Address) (st : Station) : (s.setStation a st).lamps = s.lamps := rfl
@[simp] theorem State.setStation_response (s : State) (a : Address) (st : Station) : (s.setStation a st).response = s.response := rfl
@[simp] theorem State.setStation_clockedOut (s : State) (a : Address) (st : Station) : (s.setStation a st).clockedOut = s.clockedOut := rfl
@[simp] theorem State.setStation_pending (s : State) (a : Address) (st : Station) : (s.setStation a st).pending = s.pending := rfl

/-! ### atReading -/

@[simp] theorem State.atReading_timeBase (s : State) (now : Word32) : (s.atReading now).timeBase = now := rfl
@[simp] theorem State.atReading_pool (s : State) (now : Word32) : (s.atReading now).pool = s.pool := rfl
@[simp] theorem State.atReading_admissionCounter (s : State) (now : Word32) : (s.atReading now).admissionCounter = s.admissionCounter := rfl
@[simp] theorem State.atReading_jobs (s : State) (now : Word32) : (s.atReading now).jobs = s.jobs := rfl
@[simp] theorem State.atReading_copyTables (s : State) (now : Word32) : (s.atReading now).copyTables = s.copyTables := rfl
@[simp] theorem State.atReading_classTable (s : State) (now : Word32) : (s.atReading now).classTable = s.classTable := rfl
@[simp] theorem State.atReading_filter (s : State) (now : Word32) : (s.atReading now).filter = s.filter := rfl
@[simp] theorem State.atReading_press (s : State) (now : Word32) : (s.atReading now).press = s.press := rfl
@[simp] theorem State.atReading_z1 (s : State) (now : Word32) : (s.atReading now).z1 = s.z1 := rfl
@[simp] theorem State.atReading_z2 (s : State) (now : Word32) : (s.atReading now).z2 = s.z2 := rfl
@[simp] theorem State.atReading_z4 (s : State) (now : Word32) : (s.atReading now).z4 = s.z4 := rfl
@[simp] theorem State.atReading_z5 (s : State) (now : Word32) : (s.atReading now).z5 = s.z5 := rfl
@[simp] theorem State.atReading_z3Mode (s : State) (now : Word32) : (s.atReading now).z3Mode = s.z3Mode := rfl
@[simp] theorem State.atReading_casing (s : State) (now : Word32) : (s.atReading now).casing = s.casing := rfl
@[simp] theorem State.atReading_pressEntry (s : State) (now : Word32) : (s.atReading now).pressEntry = s.pressEntry := rfl
@[simp] theorem State.atReading_jacketing (s : State) (now : Word32) : (s.atReading now).jacketing = s.jacketing := rfl
@[simp] theorem State.atReading_lost (s : State) (now : Word32) : (s.atReading now).lost = s.lost := rfl
@[simp] theorem State.atReading_casingMismatch (s : State) (now : Word32) : (s.atReading now).casingMismatch = s.casingMismatch := rfl
@[simp] theorem State.atReading_jacketingMismatch (s : State) (now : Word32) : (s.atReading now).jacketingMismatch = s.jacketingMismatch := rfl
@[simp] theorem State.atReading_gateQueue (s : State) (now : Word32) : (s.atReading now).gateQueue = s.gateQueue := rfl
@[simp] theorem State.atReading_gateInFlight (s : State) (now : Word32) : (s.atReading now).gateInFlight = s.gateInFlight := rfl
@[simp] theorem State.atReading_stations (s : State) (now : Word32) : (s.atReading now).stations = s.stations := rfl
@[simp] theorem State.atReading_link (s : State) (now : Word32) : (s.atReading now).link = s.link := rfl
@[simp] theorem State.atReading_check (s : State) (now : Word32) : (s.atReading now).check = s.check := rfl
@[simp] theorem State.atReading_flags (s : State) (now : Word32) : (s.atReading now).flags = s.flags := rfl
@[simp] theorem State.atReading_enables (s : State) (now : Word32) : (s.atReading now).enables = s.enables := rfl
@[simp] theorem State.atReading_lamps (s : State) (now : Word32) : (s.atReading now).lamps = s.lamps := rfl
@[simp] theorem State.atReading_response (s : State) (now : Word32) : (s.atReading now).response = s.response := rfl
@[simp] theorem State.atReading_clockedOut (s : State) (now : Word32) : (s.atReading now).clockedOut = s.clockedOut := rfl
@[simp] theorem State.atReading_pending (s : State) (now : Word32) : (s.atReading now).pending = s.pending := rfl

/-! ### raise -/

@[simp] theorem State.raise_timeBase (s : State) (a : Attention) : (s.raise a).timeBase = s.timeBase := rfl
@[simp] theorem State.raise_pool (s : State) (a : Attention) : (s.raise a).pool = s.pool := rfl
@[simp] theorem State.raise_admissionCounter (s : State) (a : Attention) : (s.raise a).admissionCounter = s.admissionCounter := rfl
@[simp] theorem State.raise_jobs (s : State) (a : Attention) : (s.raise a).jobs = s.jobs := rfl
@[simp] theorem State.raise_copyTables (s : State) (a : Attention) : (s.raise a).copyTables = s.copyTables := rfl
@[simp] theorem State.raise_classTable (s : State) (a : Attention) : (s.raise a).classTable = s.classTable := rfl
@[simp] theorem State.raise_filter (s : State) (a : Attention) : (s.raise a).filter = s.filter := rfl
@[simp] theorem State.raise_press (s : State) (a : Attention) : (s.raise a).press = s.press := rfl
@[simp] theorem State.raise_z1 (s : State) (a : Attention) : (s.raise a).z1 = s.z1 := rfl
@[simp] theorem State.raise_z2 (s : State) (a : Attention) : (s.raise a).z2 = s.z2 := rfl
@[simp] theorem State.raise_z4 (s : State) (a : Attention) : (s.raise a).z4 = s.z4 := rfl
@[simp] theorem State.raise_z5 (s : State) (a : Attention) : (s.raise a).z5 = s.z5 := rfl
@[simp] theorem State.raise_z3Mode (s : State) (a : Attention) : (s.raise a).z3Mode = s.z3Mode := rfl
@[simp] theorem State.raise_casing (s : State) (a : Attention) : (s.raise a).casing = s.casing := rfl
@[simp] theorem State.raise_pressEntry (s : State) (a : Attention) : (s.raise a).pressEntry = s.pressEntry := rfl
@[simp] theorem State.raise_jacketing (s : State) (a : Attention) : (s.raise a).jacketing = s.jacketing := rfl
@[simp] theorem State.raise_lost (s : State) (a : Attention) : (s.raise a).lost = s.lost := rfl
@[simp] theorem State.raise_casingMismatch (s : State) (a : Attention) : (s.raise a).casingMismatch = s.casingMismatch := rfl
@[simp] theorem State.raise_jacketingMismatch (s : State) (a : Attention) : (s.raise a).jacketingMismatch = s.jacketingMismatch := rfl
@[simp] theorem State.raise_gateQueue (s : State) (a : Attention) : (s.raise a).gateQueue = s.gateQueue := rfl
@[simp] theorem State.raise_gateInFlight (s : State) (a : Attention) : (s.raise a).gateInFlight = s.gateInFlight := rfl
@[simp] theorem State.raise_stations (s : State) (a : Attention) : (s.raise a).stations = s.stations := rfl
@[simp] theorem State.raise_link (s : State) (a : Attention) : (s.raise a).link = s.link := rfl
@[simp] theorem State.raise_check (s : State) (a : Attention) : (s.raise a).check = s.check := rfl
@[simp] theorem State.raise_flags (s : State) (a : Attention) : (s.raise a).flags = s.flags ||| a.bit := rfl
@[simp] theorem State.raise_enables (s : State) (a : Attention) : (s.raise a).enables = s.enables := rfl
@[simp] theorem State.raise_lamps (s : State) (a : Attention) : (s.raise a).lamps = s.lamps := rfl
@[simp] theorem State.raise_response (s : State) (a : Attention) : (s.raise a).response = s.response := rfl
@[simp] theorem State.raise_clockedOut (s : State) (a : Attention) : (s.raise a).clockedOut = s.clockedOut := rfl
@[simp] theorem State.raise_pending (s : State) (a : Attention) : (s.raise a).pending = s.pending := rfl

/-! ### pulse -/

@[simp] theorem State.pulse_timeBase (s : State) (k : LampSource) : (s.pulse k).timeBase = s.timeBase := rfl
@[simp] theorem State.pulse_pool (s : State) (k : LampSource) : (s.pulse k).pool = s.pool := rfl
@[simp] theorem State.pulse_admissionCounter (s : State) (k : LampSource) : (s.pulse k).admissionCounter = s.admissionCounter := rfl
@[simp] theorem State.pulse_jobs (s : State) (k : LampSource) : (s.pulse k).jobs = s.jobs := rfl
@[simp] theorem State.pulse_copyTables (s : State) (k : LampSource) : (s.pulse k).copyTables = s.copyTables := rfl
@[simp] theorem State.pulse_classTable (s : State) (k : LampSource) : (s.pulse k).classTable = s.classTable := rfl
@[simp] theorem State.pulse_filter (s : State) (k : LampSource) : (s.pulse k).filter = s.filter := rfl
@[simp] theorem State.pulse_press (s : State) (k : LampSource) : (s.pulse k).press = s.press := rfl
@[simp] theorem State.pulse_z1 (s : State) (k : LampSource) : (s.pulse k).z1 = s.z1 := rfl
@[simp] theorem State.pulse_z2 (s : State) (k : LampSource) : (s.pulse k).z2 = s.z2 := rfl
@[simp] theorem State.pulse_z4 (s : State) (k : LampSource) : (s.pulse k).z4 = s.z4 := rfl
@[simp] theorem State.pulse_z5 (s : State) (k : LampSource) : (s.pulse k).z5 = s.z5 := rfl
@[simp] theorem State.pulse_z3Mode (s : State) (k : LampSource) : (s.pulse k).z3Mode = s.z3Mode := rfl
@[simp] theorem State.pulse_casing (s : State) (k : LampSource) : (s.pulse k).casing = s.casing := rfl
@[simp] theorem State.pulse_pressEntry (s : State) (k : LampSource) : (s.pulse k).pressEntry = s.pressEntry := rfl
@[simp] theorem State.pulse_jacketing (s : State) (k : LampSource) : (s.pulse k).jacketing = s.jacketing := rfl
@[simp] theorem State.pulse_lost (s : State) (k : LampSource) : (s.pulse k).lost = s.lost := rfl
@[simp] theorem State.pulse_casingMismatch (s : State) (k : LampSource) : (s.pulse k).casingMismatch = s.casingMismatch := rfl
@[simp] theorem State.pulse_jacketingMismatch (s : State) (k : LampSource) : (s.pulse k).jacketingMismatch = s.jacketingMismatch := rfl
@[simp] theorem State.pulse_gateQueue (s : State) (k : LampSource) : (s.pulse k).gateQueue = s.gateQueue := rfl
@[simp] theorem State.pulse_gateInFlight (s : State) (k : LampSource) : (s.pulse k).gateInFlight = s.gateInFlight := rfl
@[simp] theorem State.pulse_stations (s : State) (k : LampSource) : (s.pulse k).stations = s.stations := rfl
@[simp] theorem State.pulse_link (s : State) (k : LampSource) : (s.pulse k).link = s.link := rfl
@[simp] theorem State.pulse_check (s : State) (k : LampSource) : (s.pulse k).check = s.check := rfl
@[simp] theorem State.pulse_flags (s : State) (k : LampSource) : (s.pulse k).flags = s.flags := rfl
@[simp] theorem State.pulse_enables (s : State) (k : LampSource) : (s.pulse k).enables = s.enables := rfl
@[simp] theorem State.pulse_lamps (s : State) (k : LampSource) : (s.pulse k).lamps = s.lamps.map fun l => if l.source = k then { l with stretchEnd := some (later s.timeBase l.stretch) } else l := rfl
@[simp] theorem State.pulse_response (s : State) (k : LampSource) : (s.pulse k).response = s.response := rfl
@[simp] theorem State.pulse_clockedOut (s : State) (k : LampSource) : (s.pulse k).clockedOut = s.clockedOut := rfl
@[simp] theorem State.pulse_pending (s : State) (k : LampSource) : (s.pulse k).pending = s.pending := rfl

/-! ### withdrawGateOrders -/

@[simp] theorem State.withdrawGateOrders_timeBase (s : State) (w : Disposition → Tag → Bool) : (s.withdrawGateOrders w).timeBase = s.timeBase := rfl
@[simp] theorem State.withdrawGateOrders_pool (s : State) (w : Disposition → Tag → Bool) : (s.withdrawGateOrders w).pool = s.pool := rfl
@[simp] theorem State.withdrawGateOrders_admissionCounter (s : State) (w : Disposition → Tag → Bool) : (s.withdrawGateOrders w).admissionCounter = s.admissionCounter := rfl
@[simp] theorem State.withdrawGateOrders_jobs (s : State) (w : Disposition → Tag → Bool) : (s.withdrawGateOrders w).jobs = s.jobs := rfl
@[simp] theorem State.withdrawGateOrders_copyTables (s : State) (w : Disposition → Tag → Bool) : (s.withdrawGateOrders w).copyTables = s.copyTables := rfl
@[simp] theorem State.withdrawGateOrders_classTable (s : State) (w : Disposition → Tag → Bool) : (s.withdrawGateOrders w).classTable = s.classTable := rfl
@[simp] theorem State.withdrawGateOrders_filter (s : State) (w : Disposition → Tag → Bool) : (s.withdrawGateOrders w).filter = s.filter := rfl
@[simp] theorem State.withdrawGateOrders_press (s : State) (w : Disposition → Tag → Bool) : (s.withdrawGateOrders w).press = s.press := rfl
@[simp] theorem State.withdrawGateOrders_z1 (s : State) (w : Disposition → Tag → Bool) : (s.withdrawGateOrders w).z1 = s.z1 := rfl
@[simp] theorem State.withdrawGateOrders_z2 (s : State) (w : Disposition → Tag → Bool) : (s.withdrawGateOrders w).z2 = s.z2 := rfl
@[simp] theorem State.withdrawGateOrders_z4 (s : State) (w : Disposition → Tag → Bool) : (s.withdrawGateOrders w).z4 = s.z4 := rfl
@[simp] theorem State.withdrawGateOrders_z5 (s : State) (w : Disposition → Tag → Bool) : (s.withdrawGateOrders w).z5 = s.z5 := rfl
@[simp] theorem State.withdrawGateOrders_z3Mode (s : State) (w : Disposition → Tag → Bool) : (s.withdrawGateOrders w).z3Mode = s.z3Mode := rfl
@[simp] theorem State.withdrawGateOrders_casing (s : State) (w : Disposition → Tag → Bool) : (s.withdrawGateOrders w).casing = s.casing := rfl
@[simp] theorem State.withdrawGateOrders_pressEntry (s : State) (w : Disposition → Tag → Bool) : (s.withdrawGateOrders w).pressEntry = s.pressEntry := rfl
@[simp] theorem State.withdrawGateOrders_jacketing (s : State) (w : Disposition → Tag → Bool) : (s.withdrawGateOrders w).jacketing = s.jacketing := rfl
@[simp] theorem State.withdrawGateOrders_lost (s : State) (w : Disposition → Tag → Bool) : (s.withdrawGateOrders w).lost = s.lost := rfl
@[simp] theorem State.withdrawGateOrders_casingMismatch (s : State) (w : Disposition → Tag → Bool) : (s.withdrawGateOrders w).casingMismatch = s.casingMismatch := rfl
@[simp] theorem State.withdrawGateOrders_jacketingMismatch (s : State) (w : Disposition → Tag → Bool) : (s.withdrawGateOrders w).jacketingMismatch = s.jacketingMismatch := rfl
@[simp] theorem State.withdrawGateOrders_gateQueue (s : State) (w : Disposition → Tag → Bool) : (s.withdrawGateOrders w).gateQueue = s.gateQueue := rfl
@[simp] theorem State.withdrawGateOrders_gateInFlight (s : State) (w : Disposition → Tag → Bool) : (s.withdrawGateOrders w).gateInFlight = s.gateInFlight := rfl
@[simp] theorem State.withdrawGateOrders_link (s : State) (w : Disposition → Tag → Bool) : (s.withdrawGateOrders w).link = s.link := rfl
@[simp] theorem State.withdrawGateOrders_check (s : State) (w : Disposition → Tag → Bool) : (s.withdrawGateOrders w).check = s.check := rfl
@[simp] theorem State.withdrawGateOrders_flags (s : State) (w : Disposition → Tag → Bool) : (s.withdrawGateOrders w).flags = s.flags := rfl
@[simp] theorem State.withdrawGateOrders_enables (s : State) (w : Disposition → Tag → Bool) : (s.withdrawGateOrders w).enables = s.enables := rfl
@[simp] theorem State.withdrawGateOrders_lamps (s : State) (w : Disposition → Tag → Bool) : (s.withdrawGateOrders w).lamps = s.lamps := rfl
@[simp] theorem State.withdrawGateOrders_response (s : State) (w : Disposition → Tag → Bool) : (s.withdrawGateOrders w).response = s.response := rfl
@[simp] theorem State.withdrawGateOrders_clockedOut (s : State) (w : Disposition → Tag → Bool) : (s.withdrawGateOrders w).clockedOut = s.clockedOut := rfl
@[simp] theorem State.withdrawGateOrders_pending (s : State) (w : Disposition → Tag → Bool) : (s.withdrawGateOrders w).pending = s.pending := rfl

/-! ### takeOut -/

@[simp] theorem State.takeOut_timeBase (s : State) (t : Tag) : (s.takeOut t).timeBase = s.timeBase := rfl
@[simp] theorem State.takeOut_pool (s : State) (t : Tag) : (s.takeOut t).pool = s.pool := rfl
@[simp] theorem State.takeOut_admissionCounter (s : State) (t : Tag) : (s.takeOut t).admissionCounter = s.admissionCounter := rfl
@[simp] theorem State.takeOut_jobs (s : State) (t : Tag) : (s.takeOut t).jobs = s.jobs := rfl
@[simp] theorem State.takeOut_copyTables (s : State) (t : Tag) : (s.takeOut t).copyTables = s.copyTables := rfl
@[simp] theorem State.takeOut_classTable (s : State) (t : Tag) : (s.takeOut t).classTable = s.classTable := rfl
@[simp] theorem State.takeOut_filter (s : State) (t : Tag) : (s.takeOut t).filter = s.filter := rfl
@[simp] theorem State.takeOut_press (s : State) (t : Tag) : (s.takeOut t).press = { s.press with positions := s.press.positions.map (emptyOf t) } := rfl
@[simp] theorem State.takeOut_z1 (s : State) (t : Tag) : (s.takeOut t).z1 = s.z1.without t := rfl
@[simp] theorem State.takeOut_z2 (s : State) (t : Tag) : (s.takeOut t).z2 = s.z2.without t := rfl
@[simp] theorem State.takeOut_z4 (s : State) (t : Tag) : (s.takeOut t).z4 = s.z4.without t := rfl
@[simp] theorem State.takeOut_z5 (s : State) (t : Tag) : (s.takeOut t).z5 = s.z5.without t := rfl
@[simp] theorem State.takeOut_z3Mode (s : State) (t : Tag) : (s.takeOut t).z3Mode = s.z3Mode := rfl
@[simp] theorem State.takeOut_casing (s : State) (t : Tag) : (s.takeOut t).casing = emptyOf t s.casing := rfl
@[simp] theorem State.takeOut_pressEntry (s : State) (t : Tag) : (s.takeOut t).pressEntry = emptyOf t s.pressEntry := rfl
@[simp] theorem State.takeOut_jacketing (s : State) (t : Tag) : (s.takeOut t).jacketing = emptyOf t s.jacketing := rfl
@[simp] theorem State.takeOut_lost (s : State) (t : Tag) : (s.takeOut t).lost = s.lost.filter (· ≠ t) := rfl
@[simp] theorem State.takeOut_casingMismatch (s : State) (t : Tag) : (s.takeOut t).casingMismatch = s.casingMismatch := rfl
@[simp] theorem State.takeOut_jacketingMismatch (s : State) (t : Tag) : (s.takeOut t).jacketingMismatch = s.jacketingMismatch := rfl
@[simp] theorem State.takeOut_gateQueue (s : State) (t : Tag) : (s.takeOut t).gateQueue = s.gateQueue.filter (· ≠ t) := rfl
@[simp] theorem State.takeOut_gateInFlight (s : State) (t : Tag) : (s.takeOut t).gateInFlight = s.gateInFlight := rfl
@[simp] theorem State.takeOut_link (s : State) (t : Tag) : (s.takeOut t).link = s.link := rfl
@[simp] theorem State.takeOut_check (s : State) (t : Tag) : (s.takeOut t).check = s.check := rfl
@[simp] theorem State.takeOut_flags (s : State) (t : Tag) : (s.takeOut t).flags = s.flags := rfl
@[simp] theorem State.takeOut_enables (s : State) (t : Tag) : (s.takeOut t).enables = s.enables := rfl
@[simp] theorem State.takeOut_lamps (s : State) (t : Tag) : (s.takeOut t).lamps = s.lamps := rfl
@[simp] theorem State.takeOut_response (s : State) (t : Tag) : (s.takeOut t).response = s.response := rfl
@[simp] theorem State.takeOut_clockedOut (s : State) (t : Tag) : (s.takeOut t).clockedOut = s.clockedOut := rfl
@[simp] theorem State.takeOut_pending (s : State) (t : Tag) : (s.takeOut t).pending = s.pending := rfl

/-! ### lose -/

@[simp] theorem State.lose_timeBase (s : State) (t : Tag) : (s.lose t).timeBase = s.timeBase := rfl
@[simp] theorem State.lose_pool (s : State) (t : Tag) : (s.lose t).pool = s.pool.set t ((s.piece t).map fun p => (p.addFault .tracking).putIn .lost) := rfl
@[simp] theorem State.lose_admissionCounter (s : State) (t : Tag) : (s.lose t).admissionCounter = s.admissionCounter := rfl
@[simp] theorem State.lose_jobs (s : State) (t : Tag) : (s.lose t).jobs = s.jobs := rfl
@[simp] theorem State.lose_copyTables (s : State) (t : Tag) : (s.lose t).copyTables = s.copyTables := rfl
@[simp] theorem State.lose_classTable (s : State) (t : Tag) : (s.lose t).classTable = s.classTable := rfl
@[simp] theorem State.lose_filter (s : State) (t : Tag) : (s.lose t).filter = s.filter := rfl
@[simp] theorem State.lose_press (s : State) (t : Tag) : (s.lose t).press = s.press := rfl
@[simp] theorem State.lose_z1 (s : State) (t : Tag) : (s.lose t).z1 = s.z1 := rfl
@[simp] theorem State.lose_z2 (s : State) (t : Tag) : (s.lose t).z2 = s.z2 := rfl
@[simp] theorem State.lose_z4 (s : State) (t : Tag) : (s.lose t).z4 = s.z4 := rfl
@[simp] theorem State.lose_z5 (s : State) (t : Tag) : (s.lose t).z5 = s.z5 := rfl
@[simp] theorem State.lose_z3Mode (s : State) (t : Tag) : (s.lose t).z3Mode = s.z3Mode := rfl
@[simp] theorem State.lose_casing (s : State) (t : Tag) : (s.lose t).casing = s.casing := rfl
@[simp] theorem State.lose_pressEntry (s : State) (t : Tag) : (s.lose t).pressEntry = s.pressEntry := rfl
@[simp] theorem State.lose_jacketing (s : State) (t : Tag) : (s.lose t).jacketing = s.jacketing := rfl
@[simp] theorem State.lose_lost (s : State) (t : Tag) : (s.lose t).lost = s.lost ++ [t] := rfl
@[simp] theorem State.lose_casingMismatch (s : State) (t : Tag) : (s.lose t).casingMismatch = s.casingMismatch := rfl
@[simp] theorem State.lose_jacketingMismatch (s : State) (t : Tag) : (s.lose t).jacketingMismatch = s.jacketingMismatch := rfl
@[simp] theorem State.lose_gateQueue (s : State) (t : Tag) : (s.lose t).gateQueue = s.gateQueue := rfl
@[simp] theorem State.lose_gateInFlight (s : State) (t : Tag) : (s.lose t).gateInFlight = s.gateInFlight := rfl
@[simp] theorem State.lose_stations (s : State) (t : Tag) : (s.lose t).stations = s.stations := rfl
@[simp] theorem State.lose_link (s : State) (t : Tag) : (s.lose t).link = s.link := rfl
@[simp] theorem State.lose_check (s : State) (t : Tag) : (s.lose t).check = s.check := rfl
@[simp] theorem State.lose_flags (s : State) (t : Tag) : (s.lose t).flags = s.flags ||| Attention.tracking.bit := rfl
@[simp] theorem State.lose_enables (s : State) (t : Tag) : (s.lose t).enables = s.enables := rfl
@[simp] theorem State.lose_lamps (s : State) (t : Tag) : (s.lose t).lamps = s.lamps := rfl
@[simp] theorem State.lose_response (s : State) (t : Tag) : (s.lose t).response = s.response := rfl
@[simp] theorem State.lose_clockedOut (s : State) (t : Tag) : (s.lose t).clockedOut = s.clockedOut := rfl
@[simp] theorem State.lose_pending (s : State) (t : Tag) : (s.lose t).pending = s.pending := rfl

/-! ### stopOverdwell -/

@[simp] theorem State.stopOverdwell_timeBase (s : State) : (s.stopOverdwell).timeBase = s.timeBase := rfl
@[simp] theorem State.stopOverdwell_pool (s : State) : (s.stopOverdwell).pool = s.pool := rfl
@[simp] theorem State.stopOverdwell_admissionCounter (s : State) : (s.stopOverdwell).admissionCounter = s.admissionCounter := rfl
@[simp] theorem State.stopOverdwell_jobs (s : State) : (s.stopOverdwell).jobs = s.jobs := rfl
@[simp] theorem State.stopOverdwell_copyTables (s : State) : (s.stopOverdwell).copyTables = s.copyTables := rfl
@[simp] theorem State.stopOverdwell_classTable (s : State) : (s.stopOverdwell).classTable = s.classTable := rfl
@[simp] theorem State.stopOverdwell_filter (s : State) : (s.stopOverdwell).filter = s.filter := rfl
@[simp] theorem State.stopOverdwell_press (s : State) : (s.stopOverdwell).press = { s.press with overdwellTimer := none, overdwellDeferred := false } := rfl
@[simp] theorem State.stopOverdwell_z1 (s : State) : (s.stopOverdwell).z1 = s.z1 := rfl
@[simp] theorem State.stopOverdwell_z2 (s : State) : (s.stopOverdwell).z2 = s.z2 := rfl
@[simp] theorem State.stopOverdwell_z4 (s : State) : (s.stopOverdwell).z4 = s.z4 := rfl
@[simp] theorem State.stopOverdwell_z5 (s : State) : (s.stopOverdwell).z5 = s.z5 := rfl
@[simp] theorem State.stopOverdwell_z3Mode (s : State) : (s.stopOverdwell).z3Mode = s.z3Mode := rfl
@[simp] theorem State.stopOverdwell_casing (s : State) : (s.stopOverdwell).casing = s.casing := rfl
@[simp] theorem State.stopOverdwell_pressEntry (s : State) : (s.stopOverdwell).pressEntry = s.pressEntry := rfl
@[simp] theorem State.stopOverdwell_jacketing (s : State) : (s.stopOverdwell).jacketing = s.jacketing := rfl
@[simp] theorem State.stopOverdwell_lost (s : State) : (s.stopOverdwell).lost = s.lost := rfl
@[simp] theorem State.stopOverdwell_casingMismatch (s : State) : (s.stopOverdwell).casingMismatch = s.casingMismatch := rfl
@[simp] theorem State.stopOverdwell_jacketingMismatch (s : State) : (s.stopOverdwell).jacketingMismatch = s.jacketingMismatch := rfl
@[simp] theorem State.stopOverdwell_gateQueue (s : State) : (s.stopOverdwell).gateQueue = s.gateQueue := rfl
@[simp] theorem State.stopOverdwell_gateInFlight (s : State) : (s.stopOverdwell).gateInFlight = s.gateInFlight := rfl
@[simp] theorem State.stopOverdwell_stations (s : State) : (s.stopOverdwell).stations = s.stations := rfl
@[simp] theorem State.stopOverdwell_link (s : State) : (s.stopOverdwell).link = s.link := rfl
@[simp] theorem State.stopOverdwell_check (s : State) : (s.stopOverdwell).check = s.check := rfl
@[simp] theorem State.stopOverdwell_flags (s : State) : (s.stopOverdwell).flags = s.flags := rfl
@[simp] theorem State.stopOverdwell_enables (s : State) : (s.stopOverdwell).enables = s.enables := rfl
@[simp] theorem State.stopOverdwell_lamps (s : State) : (s.stopOverdwell).lamps = s.lamps := rfl
@[simp] theorem State.stopOverdwell_response (s : State) : (s.stopOverdwell).response = s.response := rfl
@[simp] theorem State.stopOverdwell_clockedOut (s : State) : (s.stopOverdwell).clockedOut = s.clockedOut := rfl
@[simp] theorem State.stopOverdwell_pending (s : State) : (s.stopOverdwell).pending = s.pending := rfl

/-! ### unsettleFilter -/

@[simp] theorem State.unsettleFilter_timeBase (s : State) : (s.unsettleFilter).timeBase = s.timeBase := rfl
@[simp] theorem State.unsettleFilter_pool (s : State) : (s.unsettleFilter).pool = s.pool := rfl
@[simp] theorem State.unsettleFilter_admissionCounter (s : State) : (s.unsettleFilter).admissionCounter = s.admissionCounter := rfl
@[simp] theorem State.unsettleFilter_jobs (s : State) : (s.unsettleFilter).jobs = s.jobs := rfl
@[simp] theorem State.unsettleFilter_copyTables (s : State) : (s.unsettleFilter).copyTables = s.copyTables := rfl
@[simp] theorem State.unsettleFilter_classTable (s : State) : (s.unsettleFilter).classTable = s.classTable := rfl
@[simp] theorem State.unsettleFilter_filter (s : State) : (s.unsettleFilter).filter = s.filter.unsettle := rfl
@[simp] theorem State.unsettleFilter_press (s : State) : (s.unsettleFilter).press = s.press := rfl
@[simp] theorem State.unsettleFilter_z1 (s : State) : (s.unsettleFilter).z1 = s.z1 := rfl
@[simp] theorem State.unsettleFilter_z2 (s : State) : (s.unsettleFilter).z2 = s.z2 := rfl
@[simp] theorem State.unsettleFilter_z4 (s : State) : (s.unsettleFilter).z4 = s.z4 := rfl
@[simp] theorem State.unsettleFilter_z5 (s : State) : (s.unsettleFilter).z5 = s.z5 := rfl
@[simp] theorem State.unsettleFilter_z3Mode (s : State) : (s.unsettleFilter).z3Mode = s.z3Mode := rfl
@[simp] theorem State.unsettleFilter_casing (s : State) : (s.unsettleFilter).casing = s.casing := rfl
@[simp] theorem State.unsettleFilter_pressEntry (s : State) : (s.unsettleFilter).pressEntry = s.pressEntry := rfl
@[simp] theorem State.unsettleFilter_jacketing (s : State) : (s.unsettleFilter).jacketing = s.jacketing := rfl
@[simp] theorem State.unsettleFilter_lost (s : State) : (s.unsettleFilter).lost = s.lost := rfl
@[simp] theorem State.unsettleFilter_casingMismatch (s : State) : (s.unsettleFilter).casingMismatch = s.casingMismatch := rfl
@[simp] theorem State.unsettleFilter_jacketingMismatch (s : State) : (s.unsettleFilter).jacketingMismatch = s.jacketingMismatch := rfl
@[simp] theorem State.unsettleFilter_gateQueue (s : State) : (s.unsettleFilter).gateQueue = s.gateQueue := rfl
@[simp] theorem State.unsettleFilter_gateInFlight (s : State) : (s.unsettleFilter).gateInFlight = s.gateInFlight := rfl
@[simp] theorem State.unsettleFilter_stations (s : State) : (s.unsettleFilter).stations = s.stations := rfl
@[simp] theorem State.unsettleFilter_link (s : State) : (s.unsettleFilter).link = s.link := rfl
@[simp] theorem State.unsettleFilter_check (s : State) : (s.unsettleFilter).check = s.check := rfl
@[simp] theorem State.unsettleFilter_flags (s : State) : (s.unsettleFilter).flags = s.flags := rfl
@[simp] theorem State.unsettleFilter_enables (s : State) : (s.unsettleFilter).enables = s.enables := rfl
@[simp] theorem State.unsettleFilter_lamps (s : State) : (s.unsettleFilter).lamps = s.lamps := rfl
@[simp] theorem State.unsettleFilter_response (s : State) : (s.unsettleFilter).response = s.response := rfl
@[simp] theorem State.unsettleFilter_clockedOut (s : State) : (s.unsettleFilter).clockedOut = s.clockedOut := rfl
@[simp] theorem State.unsettleFilter_pending (s : State) : (s.unsettleFilter).pending = s.pending := rfl

/-! ### takeTemp -/

@[simp] theorem State.takeTemp_timeBase (s : State) (x : Word16) : (s.takeTemp x).timeBase = s.timeBase := rfl
@[simp] theorem State.takeTemp_pool (s : State) (x : Word16) : (s.takeTemp x).pool = s.pool := rfl
@[simp] theorem State.takeTemp_admissionCounter (s : State) (x : Word16) : (s.takeTemp x).admissionCounter = s.admissionCounter := rfl
@[simp] theorem State.takeTemp_jobs (s : State) (x : Word16) : (s.takeTemp x).jobs = s.jobs := rfl
@[simp] theorem State.takeTemp_copyTables (s : State) (x : Word16) : (s.takeTemp x).copyTables = s.copyTables := rfl
@[simp] theorem State.takeTemp_classTable (s : State) (x : Word16) : (s.takeTemp x).classTable = s.classTable := rfl
@[simp] theorem State.takeTemp_filter (s : State) (x : Word16) : (s.takeTemp x).filter = s.filter.receive (clampSample x.toInt) := rfl
@[simp] theorem State.takeTemp_press (s : State) (x : Word16) : (s.takeTemp x).press = s.press := rfl
@[simp] theorem State.takeTemp_z1 (s : State) (x : Word16) : (s.takeTemp x).z1 = s.z1 := rfl
@[simp] theorem State.takeTemp_z2 (s : State) (x : Word16) : (s.takeTemp x).z2 = s.z2 := rfl
@[simp] theorem State.takeTemp_z4 (s : State) (x : Word16) : (s.takeTemp x).z4 = s.z4 := rfl
@[simp] theorem State.takeTemp_z5 (s : State) (x : Word16) : (s.takeTemp x).z5 = s.z5 := rfl
@[simp] theorem State.takeTemp_z3Mode (s : State) (x : Word16) : (s.takeTemp x).z3Mode = s.z3Mode := rfl
@[simp] theorem State.takeTemp_casing (s : State) (x : Word16) : (s.takeTemp x).casing = s.casing := rfl
@[simp] theorem State.takeTemp_pressEntry (s : State) (x : Word16) : (s.takeTemp x).pressEntry = s.pressEntry := rfl
@[simp] theorem State.takeTemp_jacketing (s : State) (x : Word16) : (s.takeTemp x).jacketing = s.jacketing := rfl
@[simp] theorem State.takeTemp_lost (s : State) (x : Word16) : (s.takeTemp x).lost = s.lost := rfl
@[simp] theorem State.takeTemp_casingMismatch (s : State) (x : Word16) : (s.takeTemp x).casingMismatch = s.casingMismatch := rfl
@[simp] theorem State.takeTemp_jacketingMismatch (s : State) (x : Word16) : (s.takeTemp x).jacketingMismatch = s.jacketingMismatch := rfl
@[simp] theorem State.takeTemp_gateQueue (s : State) (x : Word16) : (s.takeTemp x).gateQueue = s.gateQueue := rfl
@[simp] theorem State.takeTemp_gateInFlight (s : State) (x : Word16) : (s.takeTemp x).gateInFlight = s.gateInFlight := rfl
@[simp] theorem State.takeTemp_stations (s : State) (x : Word16) : (s.takeTemp x).stations = s.stations := rfl
@[simp] theorem State.takeTemp_link (s : State) (x : Word16) : (s.takeTemp x).link = s.link := rfl
@[simp] theorem State.takeTemp_check (s : State) (x : Word16) : (s.takeTemp x).check = s.check := rfl
@[simp] theorem State.takeTemp_flags (s : State) (x : Word16) : (s.takeTemp x).flags = s.flags := rfl
@[simp] theorem State.takeTemp_enables (s : State) (x : Word16) : (s.takeTemp x).enables = s.enables := rfl
@[simp] theorem State.takeTemp_lamps (s : State) (x : Word16) : (s.takeTemp x).lamps = s.lamps := rfl
@[simp] theorem State.takeTemp_response (s : State) (x : Word16) : (s.takeTemp x).response = s.response := rfl
@[simp] theorem State.takeTemp_clockedOut (s : State) (x : Word16) : (s.takeTemp x).clockedOut = s.clockedOut := rfl
@[simp] theorem State.takeTemp_pending (s : State) (x : Word16) : (s.takeTemp x).pending = s.pending := rfl

/-! ### qualifyOpen -/

@[simp] theorem State.qualifyOpen_timeBase (s : State) (o : Word32) : (s.qualifyOpen o).timeBase = s.timeBase := by simp only [State.qualifyOpen, State.updatePieces_timeBase, State.stopOverdwell_timeBase]
@[simp] theorem State.qualifyOpen_admissionCounter (s : State) (o : Word32) : (s.qualifyOpen o).admissionCounter = s.admissionCounter := by simp only [State.qualifyOpen, State.updatePieces_admissionCounter, State.stopOverdwell_admissionCounter]
@[simp] theorem State.qualifyOpen_jobs (s : State) (o : Word32) : (s.qualifyOpen o).jobs = s.jobs := by simp only [State.qualifyOpen, State.updatePieces_jobs, State.stopOverdwell_jobs]
@[simp] theorem State.qualifyOpen_copyTables (s : State) (o : Word32) : (s.qualifyOpen o).copyTables = s.copyTables := by simp only [State.qualifyOpen, State.updatePieces_copyTables, State.stopOverdwell_copyTables]
@[simp] theorem State.qualifyOpen_classTable (s : State) (o : Word32) : (s.qualifyOpen o).classTable = s.classTable := by simp only [State.qualifyOpen, State.updatePieces_classTable, State.stopOverdwell_classTable]
@[simp] theorem State.qualifyOpen_filter (s : State) (o : Word32) : (s.qualifyOpen o).filter = s.filter := by simp only [State.qualifyOpen, State.updatePieces_filter, State.stopOverdwell_filter]
@[simp] theorem State.qualifyOpen_press (s : State) (o : Word32) : (s.qualifyOpen o).press = { s.press with overdwellTimer := none, overdwellDeferred := false } := by simp only [State.qualifyOpen, State.updatePieces_press, State.stopOverdwell_press]
@[simp] theorem State.qualifyOpen_z1 (s : State) (o : Word32) : (s.qualifyOpen o).z1 = s.z1 := by simp only [State.qualifyOpen, State.updatePieces_z1, State.stopOverdwell_z1]
@[simp] theorem State.qualifyOpen_z2 (s : State) (o : Word32) : (s.qualifyOpen o).z2 = s.z2 := by simp only [State.qualifyOpen, State.updatePieces_z2, State.stopOverdwell_z2]
@[simp] theorem State.qualifyOpen_z4 (s : State) (o : Word32) : (s.qualifyOpen o).z4 = s.z4 := by simp only [State.qualifyOpen, State.updatePieces_z4, State.stopOverdwell_z4]
@[simp] theorem State.qualifyOpen_z5 (s : State) (o : Word32) : (s.qualifyOpen o).z5 = s.z5 := by simp only [State.qualifyOpen, State.updatePieces_z5, State.stopOverdwell_z5]
@[simp] theorem State.qualifyOpen_z3Mode (s : State) (o : Word32) : (s.qualifyOpen o).z3Mode = s.z3Mode := by simp only [State.qualifyOpen, State.updatePieces_z3Mode, State.stopOverdwell_z3Mode]
@[simp] theorem State.qualifyOpen_casing (s : State) (o : Word32) : (s.qualifyOpen o).casing = s.casing := by simp only [State.qualifyOpen, State.updatePieces_casing, State.stopOverdwell_casing]
@[simp] theorem State.qualifyOpen_pressEntry (s : State) (o : Word32) : (s.qualifyOpen o).pressEntry = s.pressEntry := by simp only [State.qualifyOpen, State.updatePieces_pressEntry, State.stopOverdwell_pressEntry]
@[simp] theorem State.qualifyOpen_jacketing (s : State) (o : Word32) : (s.qualifyOpen o).jacketing = s.jacketing := by simp only [State.qualifyOpen, State.updatePieces_jacketing, State.stopOverdwell_jacketing]
@[simp] theorem State.qualifyOpen_lost (s : State) (o : Word32) : (s.qualifyOpen o).lost = s.lost := by simp only [State.qualifyOpen, State.updatePieces_lost, State.stopOverdwell_lost]
@[simp] theorem State.qualifyOpen_casingMismatch (s : State) (o : Word32) : (s.qualifyOpen o).casingMismatch = s.casingMismatch := by simp only [State.qualifyOpen, State.updatePieces_casingMismatch, State.stopOverdwell_casingMismatch]
@[simp] theorem State.qualifyOpen_jacketingMismatch (s : State) (o : Word32) : (s.qualifyOpen o).jacketingMismatch = s.jacketingMismatch := by simp only [State.qualifyOpen, State.updatePieces_jacketingMismatch, State.stopOverdwell_jacketingMismatch]
@[simp] theorem State.qualifyOpen_gateQueue (s : State) (o : Word32) : (s.qualifyOpen o).gateQueue = s.gateQueue := by simp only [State.qualifyOpen, State.updatePieces_gateQueue, State.stopOverdwell_gateQueue]
@[simp] theorem State.qualifyOpen_gateInFlight (s : State) (o : Word32) : (s.qualifyOpen o).gateInFlight = s.gateInFlight := by simp only [State.qualifyOpen, State.updatePieces_gateInFlight, State.stopOverdwell_gateInFlight]
@[simp] theorem State.qualifyOpen_stations (s : State) (o : Word32) : (s.qualifyOpen o).stations = s.stations := by simp only [State.qualifyOpen, State.updatePieces_stations, State.stopOverdwell_stations]
@[simp] theorem State.qualifyOpen_link (s : State) (o : Word32) : (s.qualifyOpen o).link = s.link := by simp only [State.qualifyOpen, State.updatePieces_link, State.stopOverdwell_link]
@[simp] theorem State.qualifyOpen_check (s : State) (o : Word32) : (s.qualifyOpen o).check = s.check := by simp only [State.qualifyOpen, State.updatePieces_check, State.stopOverdwell_check]
@[simp] theorem State.qualifyOpen_flags (s : State) (o : Word32) : (s.qualifyOpen o).flags = s.flags := by simp only [State.qualifyOpen, State.updatePieces_flags, State.stopOverdwell_flags]
@[simp] theorem State.qualifyOpen_enables (s : State) (o : Word32) : (s.qualifyOpen o).enables = s.enables := by simp only [State.qualifyOpen, State.updatePieces_enables, State.stopOverdwell_enables]
@[simp] theorem State.qualifyOpen_lamps (s : State) (o : Word32) : (s.qualifyOpen o).lamps = s.lamps := by simp only [State.qualifyOpen, State.updatePieces_lamps, State.stopOverdwell_lamps]
@[simp] theorem State.qualifyOpen_response (s : State) (o : Word32) : (s.qualifyOpen o).response = s.response := by simp only [State.qualifyOpen, State.updatePieces_response, State.stopOverdwell_response]
@[simp] theorem State.qualifyOpen_clockedOut (s : State) (o : Word32) : (s.qualifyOpen o).clockedOut = s.clockedOut := by simp only [State.qualifyOpen, State.updatePieces_clockedOut, State.stopOverdwell_clockedOut]
@[simp] theorem State.qualifyOpen_pending (s : State) (o : Word32) : (s.qualifyOpen o).pending = s.pending := by simp only [State.qualifyOpen, State.updatePieces_pending, State.stopOverdwell_pending]

/-! ### armClosure -/

@[simp] theorem State.armClosure_timeBase (s : State) (c : Word32) : (s.armClosure c).timeBase = s.timeBase := rfl
@[simp] theorem State.armClosure_pool (s : State) (c : Word32) : (s.armClosure c).pool = s.pool := rfl
@[simp] theorem State.armClosure_admissionCounter (s : State) (c : Word32) : (s.armClosure c).admissionCounter = s.admissionCounter := rfl
@[simp] theorem State.armClosure_jobs (s : State) (c : Word32) : (s.armClosure c).jobs = s.jobs := rfl
@[simp] theorem State.armClosure_copyTables (s : State) (c : Word32) : (s.armClosure c).copyTables = s.copyTables := rfl
@[simp] theorem State.armClosure_classTable (s : State) (c : Word32) : (s.armClosure c).classTable = s.classTable := rfl
@[simp] theorem State.armClosure_filter (s : State) (c : Word32) : (s.armClosure c).filter = s.filter := rfl
@[simp] theorem State.armClosure_press (s : State) (c : Word32) : (s.armClosure c).press = { s.press with jaw := .closed, closeTime := c, hitTimer := none, overdwellTimer := s.headrooms.min?.map (later c), overdwellDeferred := false } := rfl
@[simp] theorem State.armClosure_z1 (s : State) (c : Word32) : (s.armClosure c).z1 = s.z1 := rfl
@[simp] theorem State.armClosure_z2 (s : State) (c : Word32) : (s.armClosure c).z2 = s.z2 := rfl
@[simp] theorem State.armClosure_z4 (s : State) (c : Word32) : (s.armClosure c).z4 = s.z4 := rfl
@[simp] theorem State.armClosure_z5 (s : State) (c : Word32) : (s.armClosure c).z5 = s.z5 := rfl
@[simp] theorem State.armClosure_z3Mode (s : State) (c : Word32) : (s.armClosure c).z3Mode = s.z3Mode := rfl
@[simp] theorem State.armClosure_casing (s : State) (c : Word32) : (s.armClosure c).casing = s.casing := rfl
@[simp] theorem State.armClosure_pressEntry (s : State) (c : Word32) : (s.armClosure c).pressEntry = s.pressEntry := rfl
@[simp] theorem State.armClosure_jacketing (s : State) (c : Word32) : (s.armClosure c).jacketing = s.jacketing := rfl
@[simp] theorem State.armClosure_lost (s : State) (c : Word32) : (s.armClosure c).lost = s.lost := rfl
@[simp] theorem State.armClosure_casingMismatch (s : State) (c : Word32) : (s.armClosure c).casingMismatch = s.casingMismatch := rfl
@[simp] theorem State.armClosure_jacketingMismatch (s : State) (c : Word32) : (s.armClosure c).jacketingMismatch = s.jacketingMismatch := rfl
@[simp] theorem State.armClosure_gateQueue (s : State) (c : Word32) : (s.armClosure c).gateQueue = s.gateQueue := rfl
@[simp] theorem State.armClosure_gateInFlight (s : State) (c : Word32) : (s.armClosure c).gateInFlight = s.gateInFlight := rfl
@[simp] theorem State.armClosure_stations (s : State) (c : Word32) : (s.armClosure c).stations = s.stations := rfl
@[simp] theorem State.armClosure_link (s : State) (c : Word32) : (s.armClosure c).link = s.link := rfl
@[simp] theorem State.armClosure_check (s : State) (c : Word32) : (s.armClosure c).check = s.check := rfl
@[simp] theorem State.armClosure_flags (s : State) (c : Word32) : (s.armClosure c).flags = s.flags := rfl
@[simp] theorem State.armClosure_enables (s : State) (c : Word32) : (s.armClosure c).enables = s.enables := rfl
@[simp] theorem State.armClosure_lamps (s : State) (c : Word32) : (s.armClosure c).lamps = s.lamps := rfl
@[simp] theorem State.armClosure_response (s : State) (c : Word32) : (s.armClosure c).response = s.response := rfl
@[simp] theorem State.armClosure_clockedOut (s : State) (c : Word32) : (s.armClosure c).clockedOut = s.clockedOut := rfl
@[simp] theorem State.armClosure_pending (s : State) (c : Word32) : (s.armClosure c).pending = s.pending := rfl

/-! ### markSequence -/

@[simp] theorem State.markSequence_timeBase (s : State) : (s.markSequence).timeBase = s.timeBase := by simp only [State.markSequence, State.updatePieces_timeBase, State.raise_timeBase]
@[simp] theorem State.markSequence_admissionCounter (s : State) : (s.markSequence).admissionCounter = s.admissionCounter := by simp only [State.markSequence, State.updatePieces_admissionCounter, State.raise_admissionCounter]
@[simp] theorem State.markSequence_jobs (s : State) : (s.markSequence).jobs = s.jobs := by simp only [State.markSequence, State.updatePieces_jobs, State.raise_jobs]
@[simp] theorem State.markSequence_copyTables (s : State) : (s.markSequence).copyTables = s.copyTables := by simp only [State.markSequence, State.updatePieces_copyTables, State.raise_copyTables]
@[simp] theorem State.markSequence_classTable (s : State) : (s.markSequence).classTable = s.classTable := by simp only [State.markSequence, State.updatePieces_classTable, State.raise_classTable]
@[simp] theorem State.markSequence_filter (s : State) : (s.markSequence).filter = s.filter := by simp only [State.markSequence, State.updatePieces_filter, State.raise_filter]
@[simp] theorem State.markSequence_press (s : State) : (s.markSequence).press = s.press := by simp only [State.markSequence, State.updatePieces_press, State.raise_press]
@[simp] theorem State.markSequence_z1 (s : State) : (s.markSequence).z1 = s.z1 := by simp only [State.markSequence, State.updatePieces_z1, State.raise_z1]
@[simp] theorem State.markSequence_z2 (s : State) : (s.markSequence).z2 = s.z2 := by simp only [State.markSequence, State.updatePieces_z2, State.raise_z2]
@[simp] theorem State.markSequence_z4 (s : State) : (s.markSequence).z4 = s.z4 := by simp only [State.markSequence, State.updatePieces_z4, State.raise_z4]
@[simp] theorem State.markSequence_z5 (s : State) : (s.markSequence).z5 = s.z5 := by simp only [State.markSequence, State.updatePieces_z5, State.raise_z5]
@[simp] theorem State.markSequence_z3Mode (s : State) : (s.markSequence).z3Mode = s.z3Mode := by simp only [State.markSequence, State.updatePieces_z3Mode, State.raise_z3Mode]
@[simp] theorem State.markSequence_casing (s : State) : (s.markSequence).casing = s.casing := by simp only [State.markSequence, State.updatePieces_casing, State.raise_casing]
@[simp] theorem State.markSequence_pressEntry (s : State) : (s.markSequence).pressEntry = s.pressEntry := by simp only [State.markSequence, State.updatePieces_pressEntry, State.raise_pressEntry]
@[simp] theorem State.markSequence_jacketing (s : State) : (s.markSequence).jacketing = s.jacketing := by simp only [State.markSequence, State.updatePieces_jacketing, State.raise_jacketing]
@[simp] theorem State.markSequence_lost (s : State) : (s.markSequence).lost = s.lost := by simp only [State.markSequence, State.updatePieces_lost, State.raise_lost]
@[simp] theorem State.markSequence_casingMismatch (s : State) : (s.markSequence).casingMismatch = s.casingMismatch := by simp only [State.markSequence, State.updatePieces_casingMismatch, State.raise_casingMismatch]
@[simp] theorem State.markSequence_jacketingMismatch (s : State) : (s.markSequence).jacketingMismatch = s.jacketingMismatch := by simp only [State.markSequence, State.updatePieces_jacketingMismatch, State.raise_jacketingMismatch]
@[simp] theorem State.markSequence_gateQueue (s : State) : (s.markSequence).gateQueue = s.gateQueue := by simp only [State.markSequence, State.updatePieces_gateQueue, State.raise_gateQueue]
@[simp] theorem State.markSequence_gateInFlight (s : State) : (s.markSequence).gateInFlight = s.gateInFlight := by simp only [State.markSequence, State.updatePieces_gateInFlight, State.raise_gateInFlight]
@[simp] theorem State.markSequence_stations (s : State) : (s.markSequence).stations = s.stations := by simp only [State.markSequence, State.updatePieces_stations, State.raise_stations]
@[simp] theorem State.markSequence_link (s : State) : (s.markSequence).link = s.link := by simp only [State.markSequence, State.updatePieces_link, State.raise_link]
@[simp] theorem State.markSequence_check (s : State) : (s.markSequence).check = s.check := by simp only [State.markSequence, State.updatePieces_check, State.raise_check]
@[simp] theorem State.markSequence_flags (s : State) : (s.markSequence).flags = s.flags ||| Attention.pressSequence.bit := by simp only [State.markSequence, State.updatePieces_flags, State.raise_flags]
@[simp] theorem State.markSequence_enables (s : State) : (s.markSequence).enables = s.enables := by simp only [State.markSequence, State.updatePieces_enables, State.raise_enables]
@[simp] theorem State.markSequence_lamps (s : State) : (s.markSequence).lamps = s.lamps := by simp only [State.markSequence, State.updatePieces_lamps, State.raise_lamps]
@[simp] theorem State.markSequence_response (s : State) : (s.markSequence).response = s.response := by simp only [State.markSequence, State.updatePieces_response, State.raise_response]
@[simp] theorem State.markSequence_clockedOut (s : State) : (s.markSequence).clockedOut = s.clockedOut := by simp only [State.markSequence, State.updatePieces_clockedOut, State.raise_clockedOut]
@[simp] theorem State.markSequence_pending (s : State) : (s.markSequence).pending = s.pending := by simp only [State.markSequence, State.updatePieces_pending, State.raise_pending]

/-! ### shiftPress -/

@[simp] theorem State.shiftPress_timeBase (s : State) : (s.shiftPress).timeBase = s.timeBase := by simp only [State.shiftPress, State.updatePieces_timeBase]
@[simp] theorem State.shiftPress_admissionCounter (s : State) : (s.shiftPress).admissionCounter = s.admissionCounter := by simp only [State.shiftPress, State.updatePieces_admissionCounter]
@[simp] theorem State.shiftPress_jobs (s : State) : (s.shiftPress).jobs = s.jobs := by simp only [State.shiftPress, State.updatePieces_jobs]
@[simp] theorem State.shiftPress_copyTables (s : State) : (s.shiftPress).copyTables = s.copyTables := by simp only [State.shiftPress, State.updatePieces_copyTables]
@[simp] theorem State.shiftPress_classTable (s : State) : (s.shiftPress).classTable = s.classTable := by simp only [State.shiftPress, State.updatePieces_classTable]
@[simp] theorem State.shiftPress_filter (s : State) : (s.shiftPress).filter = s.filter := by simp only [State.shiftPress, State.updatePieces_filter]
@[simp] theorem State.shiftPress_press (s : State) : (s.shiftPress).press = { s.press with positions := shiftedPositions s.press.positions } := by
  simp only [State.shiftPress, State.updatePieces_press]
@[simp] theorem State.shiftPress_z1 (s : State) : (s.shiftPress).z1 = s.z1 := by simp only [State.shiftPress, State.updatePieces_z1]
@[simp] theorem State.shiftPress_z2 (s : State) : (s.shiftPress).z2 = s.z2 := by simp only [State.shiftPress, State.updatePieces_z2]
@[simp] theorem State.shiftPress_z4 (s : State) : (s.shiftPress).z4 = s.z4 := by simp only [State.shiftPress, State.updatePieces_z4]
@[simp] theorem State.shiftPress_z5 (s : State) : (s.shiftPress).z5 = s.z5 := by simp only [State.shiftPress, State.updatePieces_z5]
@[simp] theorem State.shiftPress_z3Mode (s : State) : (s.shiftPress).z3Mode = s.z3Mode := by simp only [State.shiftPress, State.updatePieces_z3Mode]
@[simp] theorem State.shiftPress_casing (s : State) : (s.shiftPress).casing = s.casing := by simp only [State.shiftPress, State.updatePieces_casing]
@[simp] theorem State.shiftPress_pressEntry (s : State) : (s.shiftPress).pressEntry = s.pressEntry := by simp only [State.shiftPress, State.updatePieces_pressEntry]
@[simp] theorem State.shiftPress_jacketing (s : State) : (s.shiftPress).jacketing = s.jacketing := by simp only [State.shiftPress, State.updatePieces_jacketing]
@[simp] theorem State.shiftPress_lost (s : State) : (s.shiftPress).lost = s.lost := by simp only [State.shiftPress, State.updatePieces_lost]
@[simp] theorem State.shiftPress_casingMismatch (s : State) : (s.shiftPress).casingMismatch = s.casingMismatch := by simp only [State.shiftPress, State.updatePieces_casingMismatch]
@[simp] theorem State.shiftPress_jacketingMismatch (s : State) : (s.shiftPress).jacketingMismatch = s.jacketingMismatch := by simp only [State.shiftPress, State.updatePieces_jacketingMismatch]
@[simp] theorem State.shiftPress_gateQueue (s : State) : (s.shiftPress).gateQueue = s.gateQueue := by simp only [State.shiftPress, State.updatePieces_gateQueue]
@[simp] theorem State.shiftPress_gateInFlight (s : State) : (s.shiftPress).gateInFlight = s.gateInFlight := by simp only [State.shiftPress, State.updatePieces_gateInFlight]
@[simp] theorem State.shiftPress_stations (s : State) : (s.shiftPress).stations = s.stations := by simp only [State.shiftPress, State.updatePieces_stations]
@[simp] theorem State.shiftPress_link (s : State) : (s.shiftPress).link = s.link := by simp only [State.shiftPress, State.updatePieces_link]
@[simp] theorem State.shiftPress_check (s : State) : (s.shiftPress).check = s.check := by simp only [State.shiftPress, State.updatePieces_check]
@[simp] theorem State.shiftPress_flags (s : State) : (s.shiftPress).flags = s.flags := by simp only [State.shiftPress, State.updatePieces_flags]
@[simp] theorem State.shiftPress_enables (s : State) : (s.shiftPress).enables = s.enables := by simp only [State.shiftPress, State.updatePieces_enables]
@[simp] theorem State.shiftPress_lamps (s : State) : (s.shiftPress).lamps = s.lamps := by simp only [State.shiftPress, State.updatePieces_lamps]
@[simp] theorem State.shiftPress_response (s : State) : (s.shiftPress).response = s.response := by simp only [State.shiftPress, State.updatePieces_response]
@[simp] theorem State.shiftPress_clockedOut (s : State) : (s.shiftPress).clockedOut = s.clockedOut := by simp only [State.shiftPress, State.updatePieces_clockedOut]
@[simp] theorem State.shiftPress_pending (s : State) : (s.shiftPress).pending = s.pending := by simp only [State.shiftPress, State.updatePieces_pending]

/-! ### setReceiver -/

@[simp] theorem State.setReceiver_timeBase (s : State) (rx : RxState) (b : List Byte) : (s.setReceiver rx b).timeBase = s.timeBase := rfl
@[simp] theorem State.setReceiver_pool (s : State) (rx : RxState) (b : List Byte) : (s.setReceiver rx b).pool = s.pool := rfl
@[simp] theorem State.setReceiver_admissionCounter (s : State) (rx : RxState) (b : List Byte) : (s.setReceiver rx b).admissionCounter = s.admissionCounter := rfl
@[simp] theorem State.setReceiver_jobs (s : State) (rx : RxState) (b : List Byte) : (s.setReceiver rx b).jobs = s.jobs := rfl
@[simp] theorem State.setReceiver_copyTables (s : State) (rx : RxState) (b : List Byte) : (s.setReceiver rx b).copyTables = s.copyTables := rfl
@[simp] theorem State.setReceiver_classTable (s : State) (rx : RxState) (b : List Byte) : (s.setReceiver rx b).classTable = s.classTable := rfl
@[simp] theorem State.setReceiver_filter (s : State) (rx : RxState) (b : List Byte) : (s.setReceiver rx b).filter = s.filter := rfl
@[simp] theorem State.setReceiver_press (s : State) (rx : RxState) (b : List Byte) : (s.setReceiver rx b).press = s.press := rfl
@[simp] theorem State.setReceiver_z1 (s : State) (rx : RxState) (b : List Byte) : (s.setReceiver rx b).z1 = s.z1 := rfl
@[simp] theorem State.setReceiver_z2 (s : State) (rx : RxState) (b : List Byte) : (s.setReceiver rx b).z2 = s.z2 := rfl
@[simp] theorem State.setReceiver_z4 (s : State) (rx : RxState) (b : List Byte) : (s.setReceiver rx b).z4 = s.z4 := rfl
@[simp] theorem State.setReceiver_z5 (s : State) (rx : RxState) (b : List Byte) : (s.setReceiver rx b).z5 = s.z5 := rfl
@[simp] theorem State.setReceiver_z3Mode (s : State) (rx : RxState) (b : List Byte) : (s.setReceiver rx b).z3Mode = s.z3Mode := rfl
@[simp] theorem State.setReceiver_casing (s : State) (rx : RxState) (b : List Byte) : (s.setReceiver rx b).casing = s.casing := rfl
@[simp] theorem State.setReceiver_pressEntry (s : State) (rx : RxState) (b : List Byte) : (s.setReceiver rx b).pressEntry = s.pressEntry := rfl
@[simp] theorem State.setReceiver_jacketing (s : State) (rx : RxState) (b : List Byte) : (s.setReceiver rx b).jacketing = s.jacketing := rfl
@[simp] theorem State.setReceiver_lost (s : State) (rx : RxState) (b : List Byte) : (s.setReceiver rx b).lost = s.lost := rfl
@[simp] theorem State.setReceiver_casingMismatch (s : State) (rx : RxState) (b : List Byte) : (s.setReceiver rx b).casingMismatch = s.casingMismatch := rfl
@[simp] theorem State.setReceiver_jacketingMismatch (s : State) (rx : RxState) (b : List Byte) : (s.setReceiver rx b).jacketingMismatch = s.jacketingMismatch := rfl
@[simp] theorem State.setReceiver_gateQueue (s : State) (rx : RxState) (b : List Byte) : (s.setReceiver rx b).gateQueue = s.gateQueue := rfl
@[simp] theorem State.setReceiver_gateInFlight (s : State) (rx : RxState) (b : List Byte) : (s.setReceiver rx b).gateInFlight = s.gateInFlight := rfl
@[simp] theorem State.setReceiver_stations (s : State) (rx : RxState) (b : List Byte) : (s.setReceiver rx b).stations = s.stations := rfl
@[simp] theorem State.setReceiver_link (s : State) (rx : RxState) (b : List Byte) : (s.setReceiver rx b).link = { s.link with rx := rx, buffer := b } := rfl
@[simp] theorem State.setReceiver_check (s : State) (rx : RxState) (b : List Byte) : (s.setReceiver rx b).check = s.check := rfl
@[simp] theorem State.setReceiver_flags (s : State) (rx : RxState) (b : List Byte) : (s.setReceiver rx b).flags = s.flags := rfl
@[simp] theorem State.setReceiver_enables (s : State) (rx : RxState) (b : List Byte) : (s.setReceiver rx b).enables = s.enables := rfl
@[simp] theorem State.setReceiver_lamps (s : State) (rx : RxState) (b : List Byte) : (s.setReceiver rx b).lamps = s.lamps := rfl
@[simp] theorem State.setReceiver_response (s : State) (rx : RxState) (b : List Byte) : (s.setReceiver rx b).response = s.response := rfl
@[simp] theorem State.setReceiver_clockedOut (s : State) (rx : RxState) (b : List Byte) : (s.setReceiver rx b).clockedOut = s.clockedOut := rfl
@[simp] theorem State.setReceiver_pending (s : State) (rx : RxState) (b : List Byte) : (s.setReceiver rx b).pending = s.pending := rfl

/-! ### endExchange -/

@[simp] theorem State.endExchange_timeBase (s : State) : (s.endExchange).timeBase = s.timeBase := rfl
@[simp] theorem State.endExchange_pool (s : State) : (s.endExchange).pool = s.pool := rfl
@[simp] theorem State.endExchange_admissionCounter (s : State) : (s.endExchange).admissionCounter = s.admissionCounter := rfl
@[simp] theorem State.endExchange_jobs (s : State) : (s.endExchange).jobs = s.jobs := rfl
@[simp] theorem State.endExchange_copyTables (s : State) : (s.endExchange).copyTables = s.copyTables := rfl
@[simp] theorem State.endExchange_classTable (s : State) : (s.endExchange).classTable = s.classTable := rfl
@[simp] theorem State.endExchange_filter (s : State) : (s.endExchange).filter = s.filter := rfl
@[simp] theorem State.endExchange_press (s : State) : (s.endExchange).press = s.press := rfl
@[simp] theorem State.endExchange_z1 (s : State) : (s.endExchange).z1 = s.z1 := rfl
@[simp] theorem State.endExchange_z2 (s : State) : (s.endExchange).z2 = s.z2 := rfl
@[simp] theorem State.endExchange_z4 (s : State) : (s.endExchange).z4 = s.z4 := rfl
@[simp] theorem State.endExchange_z5 (s : State) : (s.endExchange).z5 = s.z5 := rfl
@[simp] theorem State.endExchange_z3Mode (s : State) : (s.endExchange).z3Mode = s.z3Mode := rfl
@[simp] theorem State.endExchange_casing (s : State) : (s.endExchange).casing = s.casing := rfl
@[simp] theorem State.endExchange_pressEntry (s : State) : (s.endExchange).pressEntry = s.pressEntry := rfl
@[simp] theorem State.endExchange_jacketing (s : State) : (s.endExchange).jacketing = s.jacketing := rfl
@[simp] theorem State.endExchange_lost (s : State) : (s.endExchange).lost = s.lost := rfl
@[simp] theorem State.endExchange_casingMismatch (s : State) : (s.endExchange).casingMismatch = s.casingMismatch := rfl
@[simp] theorem State.endExchange_jacketingMismatch (s : State) : (s.endExchange).jacketingMismatch = s.jacketingMismatch := rfl
@[simp] theorem State.endExchange_gateQueue (s : State) : (s.endExchange).gateQueue = s.gateQueue := rfl
@[simp] theorem State.endExchange_gateInFlight (s : State) : (s.endExchange).gateInFlight = s.gateInFlight := rfl
@[simp] theorem State.endExchange_stations (s : State) : (s.endExchange).stations = s.stations := rfl
@[simp] theorem State.endExchange_link (s : State) : (s.endExchange).link = { s.link with exchange := none } := rfl
@[simp] theorem State.endExchange_check (s : State) : (s.endExchange).check = s.check := rfl
@[simp] theorem State.endExchange_flags (s : State) : (s.endExchange).flags = s.flags := rfl
@[simp] theorem State.endExchange_enables (s : State) : (s.endExchange).enables = s.enables := rfl
@[simp] theorem State.endExchange_lamps (s : State) : (s.endExchange).lamps = s.lamps := rfl
@[simp] theorem State.endExchange_response (s : State) : (s.endExchange).response = s.response := rfl
@[simp] theorem State.endExchange_clockedOut (s : State) : (s.endExchange).clockedOut = s.clockedOut := rfl
@[simp] theorem State.endExchange_pending (s : State) : (s.endExchange).pending = s.pending := rfl

/-! ### sendFrame -/

@[simp] theorem State.sendFrame_timeBase (s : State) (a : Address) (k : Byte) (p : List Byte) : (s.sendFrame a k p).timeBase = s.timeBase := rfl
@[simp] theorem State.sendFrame_pool (s : State) (a : Address) (k : Byte) (p : List Byte) : (s.sendFrame a k p).pool = s.pool := rfl
@[simp] theorem State.sendFrame_admissionCounter (s : State) (a : Address) (k : Byte) (p : List Byte) : (s.sendFrame a k p).admissionCounter = s.admissionCounter := rfl
@[simp] theorem State.sendFrame_jobs (s : State) (a : Address) (k : Byte) (p : List Byte) : (s.sendFrame a k p).jobs = s.jobs := rfl
@[simp] theorem State.sendFrame_copyTables (s : State) (a : Address) (k : Byte) (p : List Byte) : (s.sendFrame a k p).copyTables = s.copyTables := rfl
@[simp] theorem State.sendFrame_classTable (s : State) (a : Address) (k : Byte) (p : List Byte) : (s.sendFrame a k p).classTable = s.classTable := rfl
@[simp] theorem State.sendFrame_filter (s : State) (a : Address) (k : Byte) (p : List Byte) : (s.sendFrame a k p).filter = s.filter := rfl
@[simp] theorem State.sendFrame_press (s : State) (a : Address) (k : Byte) (p : List Byte) : (s.sendFrame a k p).press = s.press := rfl
@[simp] theorem State.sendFrame_z1 (s : State) (a : Address) (k : Byte) (p : List Byte) : (s.sendFrame a k p).z1 = s.z1 := rfl
@[simp] theorem State.sendFrame_z2 (s : State) (a : Address) (k : Byte) (p : List Byte) : (s.sendFrame a k p).z2 = s.z2 := rfl
@[simp] theorem State.sendFrame_z4 (s : State) (a : Address) (k : Byte) (p : List Byte) : (s.sendFrame a k p).z4 = s.z4 := rfl
@[simp] theorem State.sendFrame_z5 (s : State) (a : Address) (k : Byte) (p : List Byte) : (s.sendFrame a k p).z5 = s.z5 := rfl
@[simp] theorem State.sendFrame_z3Mode (s : State) (a : Address) (k : Byte) (p : List Byte) : (s.sendFrame a k p).z3Mode = s.z3Mode := rfl
@[simp] theorem State.sendFrame_casing (s : State) (a : Address) (k : Byte) (p : List Byte) : (s.sendFrame a k p).casing = s.casing := rfl
@[simp] theorem State.sendFrame_pressEntry (s : State) (a : Address) (k : Byte) (p : List Byte) : (s.sendFrame a k p).pressEntry = s.pressEntry := rfl
@[simp] theorem State.sendFrame_jacketing (s : State) (a : Address) (k : Byte) (p : List Byte) : (s.sendFrame a k p).jacketing = s.jacketing := rfl
@[simp] theorem State.sendFrame_lost (s : State) (a : Address) (k : Byte) (p : List Byte) : (s.sendFrame a k p).lost = s.lost := rfl
@[simp] theorem State.sendFrame_casingMismatch (s : State) (a : Address) (k : Byte) (p : List Byte) : (s.sendFrame a k p).casingMismatch = s.casingMismatch := rfl
@[simp] theorem State.sendFrame_jacketingMismatch (s : State) (a : Address) (k : Byte) (p : List Byte) : (s.sendFrame a k p).jacketingMismatch = s.jacketingMismatch := rfl
@[simp] theorem State.sendFrame_gateQueue (s : State) (a : Address) (k : Byte) (p : List Byte) : (s.sendFrame a k p).gateQueue = s.gateQueue := rfl
@[simp] theorem State.sendFrame_gateInFlight (s : State) (a : Address) (k : Byte) (p : List Byte) : (s.sendFrame a k p).gateInFlight = s.gateInFlight := rfl
@[simp] theorem State.sendFrame_stations (s : State) (a : Address) (k : Byte) (p : List Byte) : (s.sendFrame a k p).stations = s.stations := rfl
@[simp] theorem State.sendFrame_link (s : State) (a : Address) (k : Byte) (p : List Byte) : (s.sendFrame a k p).link = { s.link with sent := onLine (frameContent (addressByte a) 0 k p), rx := .outside, buffer := [], direction := false } := rfl
@[simp] theorem State.sendFrame_check (s : State) (a : Address) (k : Byte) (p : List Byte) : (s.sendFrame a k p).check = s.check := rfl
@[simp] theorem State.sendFrame_flags (s : State) (a : Address) (k : Byte) (p : List Byte) : (s.sendFrame a k p).flags = s.flags := rfl
@[simp] theorem State.sendFrame_enables (s : State) (a : Address) (k : Byte) (p : List Byte) : (s.sendFrame a k p).enables = s.enables := rfl
@[simp] theorem State.sendFrame_lamps (s : State) (a : Address) (k : Byte) (p : List Byte) : (s.sendFrame a k p).lamps = s.lamps := rfl
@[simp] theorem State.sendFrame_response (s : State) (a : Address) (k : Byte) (p : List Byte) : (s.sendFrame a k p).response = s.response := rfl
@[simp] theorem State.sendFrame_clockedOut (s : State) (a : Address) (k : Byte) (p : List Byte) : (s.sendFrame a k p).clockedOut = s.clockedOut := rfl
@[simp] theorem State.sendFrame_pending (s : State) (a : Address) (k : Byte) (p : List Byte) : (s.sendFrame a k p).pending = s.pending := rfl

/-! ### setDirection -/

@[simp] theorem State.setDirection_timeBase (s : State) (b : Bool) : (s.setDirection b).timeBase = s.timeBase := rfl
@[simp] theorem State.setDirection_pool (s : State) (b : Bool) : (s.setDirection b).pool = s.pool := rfl
@[simp] theorem State.setDirection_admissionCounter (s : State) (b : Bool) : (s.setDirection b).admissionCounter = s.admissionCounter := rfl
@[simp] theorem State.setDirection_jobs (s : State) (b : Bool) : (s.setDirection b).jobs = s.jobs := rfl
@[simp] theorem State.setDirection_copyTables (s : State) (b : Bool) : (s.setDirection b).copyTables = s.copyTables := rfl
@[simp] theorem State.setDirection_classTable (s : State) (b : Bool) : (s.setDirection b).classTable = s.classTable := rfl
@[simp] theorem State.setDirection_filter (s : State) (b : Bool) : (s.setDirection b).filter = s.filter := rfl
@[simp] theorem State.setDirection_press (s : State) (b : Bool) : (s.setDirection b).press = s.press := rfl
@[simp] theorem State.setDirection_z1 (s : State) (b : Bool) : (s.setDirection b).z1 = s.z1 := rfl
@[simp] theorem State.setDirection_z2 (s : State) (b : Bool) : (s.setDirection b).z2 = s.z2 := rfl
@[simp] theorem State.setDirection_z4 (s : State) (b : Bool) : (s.setDirection b).z4 = s.z4 := rfl
@[simp] theorem State.setDirection_z5 (s : State) (b : Bool) : (s.setDirection b).z5 = s.z5 := rfl
@[simp] theorem State.setDirection_z3Mode (s : State) (b : Bool) : (s.setDirection b).z3Mode = s.z3Mode := rfl
@[simp] theorem State.setDirection_casing (s : State) (b : Bool) : (s.setDirection b).casing = s.casing := rfl
@[simp] theorem State.setDirection_pressEntry (s : State) (b : Bool) : (s.setDirection b).pressEntry = s.pressEntry := rfl
@[simp] theorem State.setDirection_jacketing (s : State) (b : Bool) : (s.setDirection b).jacketing = s.jacketing := rfl
@[simp] theorem State.setDirection_lost (s : State) (b : Bool) : (s.setDirection b).lost = s.lost := rfl
@[simp] theorem State.setDirection_casingMismatch (s : State) (b : Bool) : (s.setDirection b).casingMismatch = s.casingMismatch := rfl
@[simp] theorem State.setDirection_jacketingMismatch (s : State) (b : Bool) : (s.setDirection b).jacketingMismatch = s.jacketingMismatch := rfl
@[simp] theorem State.setDirection_gateQueue (s : State) (b : Bool) : (s.setDirection b).gateQueue = s.gateQueue := rfl
@[simp] theorem State.setDirection_gateInFlight (s : State) (b : Bool) : (s.setDirection b).gateInFlight = s.gateInFlight := rfl
@[simp] theorem State.setDirection_stations (s : State) (b : Bool) : (s.setDirection b).stations = s.stations := rfl
@[simp] theorem State.setDirection_link (s : State) (b : Bool) : (s.setDirection b).link = { s.link with direction := b } := rfl
@[simp] theorem State.setDirection_check (s : State) (b : Bool) : (s.setDirection b).check = s.check := rfl
@[simp] theorem State.setDirection_flags (s : State) (b : Bool) : (s.setDirection b).flags = s.flags := rfl
@[simp] theorem State.setDirection_enables (s : State) (b : Bool) : (s.setDirection b).enables = s.enables := rfl
@[simp] theorem State.setDirection_lamps (s : State) (b : Bool) : (s.setDirection b).lamps = s.lamps := rfl
@[simp] theorem State.setDirection_response (s : State) (b : Bool) : (s.setDirection b).response = s.response := rfl
@[simp] theorem State.setDirection_clockedOut (s : State) (b : Bool) : (s.setDirection b).clockedOut = s.clockedOut := rfl
@[simp] theorem State.setDirection_pending (s : State) (b : Bool) : (s.setDirection b).pending = s.pending := rfl

/-! ### respond -/

@[simp] theorem State.respond_timeBase (s : State) (n : Nat) (r : Reply) : (s.respond n r).timeBase = s.timeBase := rfl
@[simp] theorem State.respond_pool (s : State) (n : Nat) (r : Reply) : (s.respond n r).pool = s.pool := rfl
@[simp] theorem State.respond_admissionCounter (s : State) (n : Nat) (r : Reply) : (s.respond n r).admissionCounter = s.admissionCounter := rfl
@[simp] theorem State.respond_jobs (s : State) (n : Nat) (r : Reply) : (s.respond n r).jobs = s.jobs := rfl
@[simp] theorem State.respond_copyTables (s : State) (n : Nat) (r : Reply) : (s.respond n r).copyTables = s.copyTables := rfl
@[simp] theorem State.respond_classTable (s : State) (n : Nat) (r : Reply) : (s.respond n r).classTable = s.classTable := rfl
@[simp] theorem State.respond_filter (s : State) (n : Nat) (r : Reply) : (s.respond n r).filter = s.filter := rfl
@[simp] theorem State.respond_press (s : State) (n : Nat) (r : Reply) : (s.respond n r).press = s.press := rfl
@[simp] theorem State.respond_z1 (s : State) (n : Nat) (r : Reply) : (s.respond n r).z1 = s.z1 := rfl
@[simp] theorem State.respond_z2 (s : State) (n : Nat) (r : Reply) : (s.respond n r).z2 = s.z2 := rfl
@[simp] theorem State.respond_z4 (s : State) (n : Nat) (r : Reply) : (s.respond n r).z4 = s.z4 := rfl
@[simp] theorem State.respond_z5 (s : State) (n : Nat) (r : Reply) : (s.respond n r).z5 = s.z5 := rfl
@[simp] theorem State.respond_z3Mode (s : State) (n : Nat) (r : Reply) : (s.respond n r).z3Mode = s.z3Mode := rfl
@[simp] theorem State.respond_casing (s : State) (n : Nat) (r : Reply) : (s.respond n r).casing = s.casing := rfl
@[simp] theorem State.respond_pressEntry (s : State) (n : Nat) (r : Reply) : (s.respond n r).pressEntry = s.pressEntry := rfl
@[simp] theorem State.respond_jacketing (s : State) (n : Nat) (r : Reply) : (s.respond n r).jacketing = s.jacketing := rfl
@[simp] theorem State.respond_lost (s : State) (n : Nat) (r : Reply) : (s.respond n r).lost = s.lost := rfl
@[simp] theorem State.respond_casingMismatch (s : State) (n : Nat) (r : Reply) : (s.respond n r).casingMismatch = s.casingMismatch := rfl
@[simp] theorem State.respond_jacketingMismatch (s : State) (n : Nat) (r : Reply) : (s.respond n r).jacketingMismatch = s.jacketingMismatch := rfl
@[simp] theorem State.respond_gateQueue (s : State) (n : Nat) (r : Reply) : (s.respond n r).gateQueue = s.gateQueue := rfl
@[simp] theorem State.respond_gateInFlight (s : State) (n : Nat) (r : Reply) : (s.respond n r).gateInFlight = s.gateInFlight := rfl
@[simp] theorem State.respond_stations (s : State) (n : Nat) (r : Reply) : (s.respond n r).stations = s.stations := rfl
@[simp] theorem State.respond_link (s : State) (n : Nat) (r : Reply) : (s.respond n r).link = s.link := rfl
@[simp] theorem State.respond_check (s : State) (n : Nat) (r : Reply) : (s.respond n r).check = s.check := rfl
@[simp] theorem State.respond_flags (s : State) (n : Nat) (r : Reply) : (s.respond n r).flags = s.flags := rfl
@[simp] theorem State.respond_enables (s : State) (n : Nat) (r : Reply) : (s.respond n r).enables = s.enables := rfl
@[simp] theorem State.respond_lamps (s : State) (n : Nat) (r : Reply) : (s.respond n r).lamps = s.lamps := rfl
@[simp] theorem State.respond_response (s : State) (n : Nat) (r : Reply) : (s.respond n r).response = some r.frame := rfl
@[simp] theorem State.respond_clockedOut (s : State) (n : Nat) (r : Reply) : (s.respond n r).clockedOut = List.replicate n 0xFF := rfl
@[simp] theorem State.respond_pending (s : State) (n : Nat) (r : Reply) : (s.respond n r).pending = s.pending := rfl

/-! ### completeJob -/

@[simp] theorem State.completeJob_timeBase (s : State) (j : JobSlot) (b : Job) : (s.completeJob j b).timeBase = s.timeBase := rfl
@[simp] theorem State.completeJob_pool (s : State) (j : JobSlot) (b : Job) : (s.completeJob j b).pool = s.pool := rfl
@[simp] theorem State.completeJob_admissionCounter (s : State) (j : JobSlot) (b : Job) : (s.completeJob j b).admissionCounter = s.admissionCounter := rfl
@[simp] theorem State.completeJob_jobs (s : State) (j : JobSlot) (b : Job) : (s.completeJob j b).jobs = s.jobs.set j (some { b with state := .complete }) := rfl
@[simp] theorem State.completeJob_copyTables (s : State) (j : JobSlot) (b : Job) : (s.completeJob j b).copyTables = s.copyTables := rfl
@[simp] theorem State.completeJob_classTable (s : State) (j : JobSlot) (b : Job) : (s.completeJob j b).classTable = s.classTable := rfl
@[simp] theorem State.completeJob_filter (s : State) (j : JobSlot) (b : Job) : (s.completeJob j b).filter = s.filter := rfl
@[simp] theorem State.completeJob_press (s : State) (j : JobSlot) (b : Job) : (s.completeJob j b).press = s.press := rfl
@[simp] theorem State.completeJob_z1 (s : State) (j : JobSlot) (b : Job) : (s.completeJob j b).z1 = s.z1 := rfl
@[simp] theorem State.completeJob_z2 (s : State) (j : JobSlot) (b : Job) : (s.completeJob j b).z2 = s.z2 := rfl
@[simp] theorem State.completeJob_z4 (s : State) (j : JobSlot) (b : Job) : (s.completeJob j b).z4 = s.z4 := rfl
@[simp] theorem State.completeJob_z5 (s : State) (j : JobSlot) (b : Job) : (s.completeJob j b).z5 = s.z5 := rfl
@[simp] theorem State.completeJob_z3Mode (s : State) (j : JobSlot) (b : Job) : (s.completeJob j b).z3Mode = s.z3Mode := rfl
@[simp] theorem State.completeJob_casing (s : State) (j : JobSlot) (b : Job) : (s.completeJob j b).casing = s.casing := rfl
@[simp] theorem State.completeJob_pressEntry (s : State) (j : JobSlot) (b : Job) : (s.completeJob j b).pressEntry = s.pressEntry := rfl
@[simp] theorem State.completeJob_jacketing (s : State) (j : JobSlot) (b : Job) : (s.completeJob j b).jacketing = s.jacketing := rfl
@[simp] theorem State.completeJob_lost (s : State) (j : JobSlot) (b : Job) : (s.completeJob j b).lost = s.lost := rfl
@[simp] theorem State.completeJob_casingMismatch (s : State) (j : JobSlot) (b : Job) : (s.completeJob j b).casingMismatch = s.casingMismatch := rfl
@[simp] theorem State.completeJob_jacketingMismatch (s : State) (j : JobSlot) (b : Job) : (s.completeJob j b).jacketingMismatch = s.jacketingMismatch := rfl
@[simp] theorem State.completeJob_gateQueue (s : State) (j : JobSlot) (b : Job) : (s.completeJob j b).gateQueue = s.gateQueue := rfl
@[simp] theorem State.completeJob_gateInFlight (s : State) (j : JobSlot) (b : Job) : (s.completeJob j b).gateInFlight = s.gateInFlight := rfl
@[simp] theorem State.completeJob_stations (s : State) (j : JobSlot) (b : Job) : (s.completeJob j b).stations = s.stations := rfl
@[simp] theorem State.completeJob_link (s : State) (j : JobSlot) (b : Job) : (s.completeJob j b).link = s.link := rfl
@[simp] theorem State.completeJob_check (s : State) (j : JobSlot) (b : Job) : (s.completeJob j b).check = s.check := rfl
@[simp] theorem State.completeJob_flags (s : State) (j : JobSlot) (b : Job) : (s.completeJob j b).flags = s.flags ||| Attention.jobComplete.bit := rfl
@[simp] theorem State.completeJob_enables (s : State) (j : JobSlot) (b : Job) : (s.completeJob j b).enables = s.enables := rfl
@[simp] theorem State.completeJob_lamps (s : State) (j : JobSlot) (b : Job) : (s.completeJob j b).lamps = s.lamps := rfl
@[simp] theorem State.completeJob_response (s : State) (j : JobSlot) (b : Job) : (s.completeJob j b).response = s.response := rfl
@[simp] theorem State.completeJob_clockedOut (s : State) (j : JobSlot) (b : Job) : (s.completeJob j b).clockedOut = s.clockedOut := rfl
@[simp] theorem State.completeJob_pending (s : State) (j : JobSlot) (b : Job) : (s.completeJob j b).pending = s.pending := rfl

/-! ### enterCasing -/

@[simp] theorem State.enterCasing_timeBase (s : State) (t : Tag) : (s.enterCasing t).timeBase = s.timeBase := rfl
@[simp] theorem State.enterCasing_admissionCounter (s : State) (t : Tag) : (s.enterCasing t).admissionCounter = s.admissionCounter := rfl
@[simp] theorem State.enterCasing_jobs (s : State) (t : Tag) : (s.enterCasing t).jobs = s.jobs := rfl
@[simp] theorem State.enterCasing_copyTables (s : State) (t : Tag) : (s.enterCasing t).copyTables = s.copyTables := rfl
@[simp] theorem State.enterCasing_classTable (s : State) (t : Tag) : (s.enterCasing t).classTable = s.classTable := rfl
@[simp] theorem State.enterCasing_filter (s : State) (t : Tag) : (s.enterCasing t).filter = s.filter := rfl
@[simp] theorem State.enterCasing_press (s : State) (t : Tag) : (s.enterCasing t).press = s.press := rfl
@[simp] theorem State.enterCasing_z1 (s : State) (t : Tag) : (s.enterCasing t).z1 = s.z1 := rfl
@[simp] theorem State.enterCasing_z2 (s : State) (t : Tag) : (s.enterCasing t).z2 = s.z2 := rfl
@[simp] theorem State.enterCasing_z4 (s : State) (t : Tag) : (s.enterCasing t).z4 = s.z4 := rfl
@[simp] theorem State.enterCasing_z5 (s : State) (t : Tag) : (s.enterCasing t).z5 = s.z5 := rfl
@[simp] theorem State.enterCasing_z3Mode (s : State) (t : Tag) : (s.enterCasing t).z3Mode = s.z3Mode := rfl
@[simp] theorem State.enterCasing_casing (s : State) (t : Tag) : (s.enterCasing t).casing = some t := rfl
@[simp] theorem State.enterCasing_pressEntry (s : State) (t : Tag) : (s.enterCasing t).pressEntry = s.pressEntry := rfl
@[simp] theorem State.enterCasing_jacketing (s : State) (t : Tag) : (s.enterCasing t).jacketing = s.jacketing := rfl
@[simp] theorem State.enterCasing_lost (s : State) (t : Tag) : (s.enterCasing t).lost = s.lost := rfl
@[simp] theorem State.enterCasing_casingMismatch (s : State) (t : Tag) : (s.enterCasing t).casingMismatch = 0 := rfl
@[simp] theorem State.enterCasing_jacketingMismatch (s : State) (t : Tag) : (s.enterCasing t).jacketingMismatch = s.jacketingMismatch := rfl
@[simp] theorem State.enterCasing_gateQueue (s : State) (t : Tag) : (s.enterCasing t).gateQueue = s.gateQueue := rfl
@[simp] theorem State.enterCasing_gateInFlight (s : State) (t : Tag) : (s.enterCasing t).gateInFlight = s.gateInFlight := rfl
@[simp] theorem State.enterCasing_stations (s : State) (t : Tag) : (s.enterCasing t).stations = s.stations := rfl
@[simp] theorem State.enterCasing_link (s : State) (t : Tag) : (s.enterCasing t).link = s.link := rfl
@[simp] theorem State.enterCasing_check (s : State) (t : Tag) : (s.enterCasing t).check = s.check := rfl
@[simp] theorem State.enterCasing_flags (s : State) (t : Tag) : (s.enterCasing t).flags = s.flags := rfl
@[simp] theorem State.enterCasing_enables (s : State) (t : Tag) : (s.enterCasing t).enables = s.enables := rfl
@[simp] theorem State.enterCasing_lamps (s : State) (t : Tag) : (s.enterCasing t).lamps = s.lamps := rfl
@[simp] theorem State.enterCasing_response (s : State) (t : Tag) : (s.enterCasing t).response = s.response := rfl
@[simp] theorem State.enterCasing_clockedOut (s : State) (t : Tag) : (s.enterCasing t).clockedOut = s.clockedOut := rfl
@[simp] theorem State.enterCasing_pending (s : State) (t : Tag) : (s.enterCasing t).pending = s.pending := rfl

/-! ### enterJacketing -/

@[simp] theorem State.enterJacketing_timeBase (s : State) (t : Tag) : (s.enterJacketing t).timeBase = s.timeBase := rfl
@[simp] theorem State.enterJacketing_admissionCounter (s : State) (t : Tag) : (s.enterJacketing t).admissionCounter = s.admissionCounter := rfl
@[simp] theorem State.enterJacketing_jobs (s : State) (t : Tag) : (s.enterJacketing t).jobs = s.jobs := rfl
@[simp] theorem State.enterJacketing_copyTables (s : State) (t : Tag) : (s.enterJacketing t).copyTables = s.copyTables := rfl
@[simp] theorem State.enterJacketing_classTable (s : State) (t : Tag) : (s.enterJacketing t).classTable = s.classTable := rfl
@[simp] theorem State.enterJacketing_filter (s : State) (t : Tag) : (s.enterJacketing t).filter = s.filter := rfl
@[simp] theorem State.enterJacketing_press (s : State) (t : Tag) : (s.enterJacketing t).press = s.press := rfl
@[simp] theorem State.enterJacketing_z1 (s : State) (t : Tag) : (s.enterJacketing t).z1 = s.z1 := rfl
@[simp] theorem State.enterJacketing_z2 (s : State) (t : Tag) : (s.enterJacketing t).z2 = s.z2 := rfl
@[simp] theorem State.enterJacketing_z4 (s : State) (t : Tag) : (s.enterJacketing t).z4 = s.z4 := rfl
@[simp] theorem State.enterJacketing_z5 (s : State) (t : Tag) : (s.enterJacketing t).z5 = s.z5 := rfl
@[simp] theorem State.enterJacketing_z3Mode (s : State) (t : Tag) : (s.enterJacketing t).z3Mode = s.z3Mode := rfl
@[simp] theorem State.enterJacketing_casing (s : State) (t : Tag) : (s.enterJacketing t).casing = s.casing := rfl
@[simp] theorem State.enterJacketing_pressEntry (s : State) (t : Tag) : (s.enterJacketing t).pressEntry = s.pressEntry := rfl
@[simp] theorem State.enterJacketing_jacketing (s : State) (t : Tag) : (s.enterJacketing t).jacketing = some t := rfl
@[simp] theorem State.enterJacketing_lost (s : State) (t : Tag) : (s.enterJacketing t).lost = s.lost := rfl
@[simp] theorem State.enterJacketing_casingMismatch (s : State) (t : Tag) : (s.enterJacketing t).casingMismatch = s.casingMismatch := rfl
@[simp] theorem State.enterJacketing_jacketingMismatch (s : State) (t : Tag) : (s.enterJacketing t).jacketingMismatch = 0 := rfl
@[simp] theorem State.enterJacketing_gateQueue (s : State) (t : Tag) : (s.enterJacketing t).gateQueue = s.gateQueue := rfl
@[simp] theorem State.enterJacketing_gateInFlight (s : State) (t : Tag) : (s.enterJacketing t).gateInFlight = s.gateInFlight := rfl
@[simp] theorem State.enterJacketing_stations (s : State) (t : Tag) : (s.enterJacketing t).stations = s.stations := rfl
@[simp] theorem State.enterJacketing_link (s : State) (t : Tag) : (s.enterJacketing t).link = s.link := rfl
@[simp] theorem State.enterJacketing_check (s : State) (t : Tag) : (s.enterJacketing t).check = s.check := rfl
@[simp] theorem State.enterJacketing_flags (s : State) (t : Tag) : (s.enterJacketing t).flags = s.flags := rfl
@[simp] theorem State.enterJacketing_enables (s : State) (t : Tag) : (s.enterJacketing t).enables = s.enables := rfl
@[simp] theorem State.enterJacketing_lamps (s : State) (t : Tag) : (s.enterJacketing t).lamps = s.lamps := rfl
@[simp] theorem State.enterJacketing_response (s : State) (t : Tag) : (s.enterJacketing t).response = s.response := rfl
@[simp] theorem State.enterJacketing_clockedOut (s : State) (t : Tag) : (s.enterJacketing t).clockedOut = s.clockedOut := rfl
@[simp] theorem State.enterJacketing_pending (s : State) (t : Tag) : (s.enterJacketing t).pending = s.pending := rfl

/-! ### enterHold -/

@[simp] theorem State.enterHold_timeBase (s : State) (t : Tag) : (s.enterHold t).timeBase = s.timeBase := rfl
@[simp] theorem State.enterHold_admissionCounter (s : State) (t : Tag) : (s.enterHold t).admissionCounter = s.admissionCounter := rfl
@[simp] theorem State.enterHold_jobs (s : State) (t : Tag) : (s.enterHold t).jobs = s.jobs := rfl
@[simp] theorem State.enterHold_copyTables (s : State) (t : Tag) : (s.enterHold t).copyTables = s.copyTables := rfl
@[simp] theorem State.enterHold_classTable (s : State) (t : Tag) : (s.enterHold t).classTable = s.classTable := rfl
@[simp] theorem State.enterHold_filter (s : State) (t : Tag) : (s.enterHold t).filter = s.filter := rfl
@[simp] theorem State.enterHold_press (s : State) (t : Tag) : (s.enterHold t).press = s.press := rfl
@[simp] theorem State.enterHold_z1 (s : State) (t : Tag) : (s.enterHold t).z1 = s.z1 := rfl
@[simp] theorem State.enterHold_z2 (s : State) (t : Tag) : (s.enterHold t).z2 = s.z2 := rfl
@[simp] theorem State.enterHold_z4 (s : State) (t : Tag) : (s.enterHold t).z4 = s.z4 := rfl
@[simp] theorem State.enterHold_z5 (s : State) (t : Tag) : (s.enterHold t).z5 = s.z5 := rfl
@[simp] theorem State.enterHold_z3Mode (s : State) (t : Tag) : (s.enterHold t).z3Mode = s.z3Mode := rfl
@[simp] theorem State.enterHold_casing (s : State) (t : Tag) : (s.enterHold t).casing = s.casing := rfl
@[simp] theorem State.enterHold_pressEntry (s : State) (t : Tag) : (s.enterHold t).pressEntry = some t := rfl
@[simp] theorem State.enterHold_jacketing (s : State) (t : Tag) : (s.enterHold t).jacketing = s.jacketing := rfl
@[simp] theorem State.enterHold_lost (s : State) (t : Tag) : (s.enterHold t).lost = s.lost := rfl
@[simp] theorem State.enterHold_casingMismatch (s : State) (t : Tag) : (s.enterHold t).casingMismatch = s.casingMismatch := rfl
@[simp] theorem State.enterHold_jacketingMismatch (s : State) (t : Tag) : (s.enterHold t).jacketingMismatch = s.jacketingMismatch := rfl
@[simp] theorem State.enterHold_gateQueue (s : State) (t : Tag) : (s.enterHold t).gateQueue = s.gateQueue := rfl
@[simp] theorem State.enterHold_gateInFlight (s : State) (t : Tag) : (s.enterHold t).gateInFlight = s.gateInFlight := rfl
@[simp] theorem State.enterHold_stations (s : State) (t : Tag) : (s.enterHold t).stations = s.stations := rfl
@[simp] theorem State.enterHold_link (s : State) (t : Tag) : (s.enterHold t).link = s.link := rfl
@[simp] theorem State.enterHold_check (s : State) (t : Tag) : (s.enterHold t).check = s.check := rfl
@[simp] theorem State.enterHold_flags (s : State) (t : Tag) : (s.enterHold t).flags = s.flags := rfl
@[simp] theorem State.enterHold_enables (s : State) (t : Tag) : (s.enterHold t).enables = s.enables := rfl
@[simp] theorem State.enterHold_lamps (s : State) (t : Tag) : (s.enterHold t).lamps = s.lamps := rfl
@[simp] theorem State.enterHold_response (s : State) (t : Tag) : (s.enterHold t).response = s.response := rfl
@[simp] theorem State.enterHold_clockedOut (s : State) (t : Tag) : (s.enterHold t).clockedOut = s.clockedOut := rfl
@[simp] theorem State.enterHold_pending (s : State) (t : Tag) : (s.enterHold t).pending = s.pending := rfl

/-! ### queueGateOrder -/

@[simp] theorem State.queueGateOrder_timeBase (s : State) (a : Address) (o : Disposition) (t : Tag) : (s.queueGateOrder a o t).timeBase = s.timeBase := rfl
@[simp] theorem State.queueGateOrder_admissionCounter (s : State) (a : Address) (o : Disposition) (t : Tag) : (s.queueGateOrder a o t).admissionCounter = s.admissionCounter := rfl
@[simp] theorem State.queueGateOrder_jobs (s : State) (a : Address) (o : Disposition) (t : Tag) : (s.queueGateOrder a o t).jobs = s.jobs := rfl
@[simp] theorem State.queueGateOrder_copyTables (s : State) (a : Address) (o : Disposition) (t : Tag) : (s.queueGateOrder a o t).copyTables = s.copyTables := rfl
@[simp] theorem State.queueGateOrder_classTable (s : State) (a : Address) (o : Disposition) (t : Tag) : (s.queueGateOrder a o t).classTable = s.classTable := rfl
@[simp] theorem State.queueGateOrder_filter (s : State) (a : Address) (o : Disposition) (t : Tag) : (s.queueGateOrder a o t).filter = s.filter := rfl
@[simp] theorem State.queueGateOrder_press (s : State) (a : Address) (o : Disposition) (t : Tag) : (s.queueGateOrder a o t).press = s.press := rfl
@[simp] theorem State.queueGateOrder_z1 (s : State) (a : Address) (o : Disposition) (t : Tag) : (s.queueGateOrder a o t).z1 = s.z1 := rfl
@[simp] theorem State.queueGateOrder_z2 (s : State) (a : Address) (o : Disposition) (t : Tag) : (s.queueGateOrder a o t).z2 = s.z2 := rfl
@[simp] theorem State.queueGateOrder_z4 (s : State) (a : Address) (o : Disposition) (t : Tag) : (s.queueGateOrder a o t).z4 = s.z4 := rfl
@[simp] theorem State.queueGateOrder_z5 (s : State) (a : Address) (o : Disposition) (t : Tag) : (s.queueGateOrder a o t).z5 = s.z5 := rfl
@[simp] theorem State.queueGateOrder_z3Mode (s : State) (a : Address) (o : Disposition) (t : Tag) : (s.queueGateOrder a o t).z3Mode = s.z3Mode := rfl
@[simp] theorem State.queueGateOrder_casing (s : State) (a : Address) (o : Disposition) (t : Tag) : (s.queueGateOrder a o t).casing = s.casing := rfl
@[simp] theorem State.queueGateOrder_pressEntry (s : State) (a : Address) (o : Disposition) (t : Tag) : (s.queueGateOrder a o t).pressEntry = s.pressEntry := rfl
@[simp] theorem State.queueGateOrder_jacketing (s : State) (a : Address) (o : Disposition) (t : Tag) : (s.queueGateOrder a o t).jacketing = s.jacketing := rfl
@[simp] theorem State.queueGateOrder_lost (s : State) (a : Address) (o : Disposition) (t : Tag) : (s.queueGateOrder a o t).lost = s.lost := rfl
@[simp] theorem State.queueGateOrder_casingMismatch (s : State) (a : Address) (o : Disposition) (t : Tag) : (s.queueGateOrder a o t).casingMismatch = s.casingMismatch := rfl
@[simp] theorem State.queueGateOrder_jacketingMismatch (s : State) (a : Address) (o : Disposition) (t : Tag) : (s.queueGateOrder a o t).jacketingMismatch = s.jacketingMismatch := rfl
@[simp] theorem State.queueGateOrder_gateQueue (s : State) (a : Address) (o : Disposition) (t : Tag) : (s.queueGateOrder a o t).gateQueue = s.gateQueue ++ [t] := rfl
@[simp] theorem State.queueGateOrder_gateInFlight (s : State) (a : Address) (o : Disposition) (t : Tag) : (s.queueGateOrder a o t).gateInFlight = s.gateInFlight := rfl
@[simp] theorem State.queueGateOrder_link (s : State) (a : Address) (o : Disposition) (t : Tag) : (s.queueGateOrder a o t).link = s.link := rfl
@[simp] theorem State.queueGateOrder_check (s : State) (a : Address) (o : Disposition) (t : Tag) : (s.queueGateOrder a o t).check = s.check := rfl
@[simp] theorem State.queueGateOrder_flags (s : State) (a : Address) (o : Disposition) (t : Tag) : (s.queueGateOrder a o t).flags = s.flags := rfl
@[simp] theorem State.queueGateOrder_enables (s : State) (a : Address) (o : Disposition) (t : Tag) : (s.queueGateOrder a o t).enables = s.enables := rfl
@[simp] theorem State.queueGateOrder_lamps (s : State) (a : Address) (o : Disposition) (t : Tag) : (s.queueGateOrder a o t).lamps = s.lamps := rfl
@[simp] theorem State.queueGateOrder_response (s : State) (a : Address) (o : Disposition) (t : Tag) : (s.queueGateOrder a o t).response = s.response := rfl
@[simp] theorem State.queueGateOrder_clockedOut (s : State) (a : Address) (o : Disposition) (t : Tag) : (s.queueGateOrder a o t).clockedOut = s.clockedOut := rfl
@[simp] theorem State.queueGateOrder_pending (s : State) (a : Address) (o : Disposition) (t : Tag) : (s.queueGateOrder a o t).pending = s.pending := rfl

end Sys2Proof.Machine
end

