-- ==== Sys2Proof/Laws/Frames.lean ====
section
/-! SUPPORT. The frames of the shared operations: the fields of the state that each leaves as they were. -/

namespace Sys2Proof.Machine

/-! ### setConveyor -/

@[simp] theorem State.setConveyor_timeBase (s : State) (z : ConveyorZone) (c : Conveyor) : (s.setConveyor z c).timeBase = s.timeBase := by
  cases z <;> rfl
@[simp] theorem State.setConveyor_pool (s : State) (z : ConveyorZone) (c : Conveyor) : (s.setConveyor z c).pool = s.pool := by
  cases z <;> rfl
@[simp] theorem State.setConveyor_admissionCounter (s : State) (z : ConveyorZone) (c : Conveyor) : (s.setConveyor z c).admissionCounter = s.admissionCounter := by
  cases z <;> rfl
@[simp] theorem State.setConveyor_jobs (s : State) (z : ConveyorZone) (c : Conveyor) : (s.setConveyor z c).jobs = s.jobs := by
  cases z <;> rfl
@[simp] theorem State.setConveyor_copyTables (s : State) (z : ConveyorZone) (c : Conveyor) : (s.setConveyor z c).copyTables = s.copyTables := by
  cases z <;> rfl
@[simp] theorem State.setConveyor_classTable (s : State) (z : ConveyorZone) (c : Conveyor) : (s.setConveyor z c).classTable = s.classTable := by
  cases z <;> rfl
@[simp] theorem State.setConveyor_filter (s : State) (z : ConveyorZone) (c : Conveyor) : (s.setConveyor z c).filter = s.filter := by
  cases z <;> rfl
@[simp] theorem State.setConveyor_press (s : State) (z : ConveyorZone) (c : Conveyor) : (s.setConveyor z c).press = s.press := by
  cases z <;> rfl
@[simp] theorem State.setConveyor_z3Mode (s : State) (z : ConveyorZone) (c : Conveyor) : (s.setConveyor z c).z3Mode = s.z3Mode := by
  cases z <;> rfl
@[simp] theorem State.setConveyor_casing (s : State) (z : ConveyorZone) (c : Conveyor) : (s.setConveyor z c).casing = s.casing := by
  cases z <;> rfl
@[simp] theorem State.setConveyor_pressEntry (s : State) (z : ConveyorZone) (c : Conveyor) : (s.setConveyor z c).pressEntry = s.pressEntry := by
  cases z <;> rfl
@[simp] theorem State.setConveyor_jacketing (s : State) (z : ConveyorZone) (c : Conveyor) : (s.setConveyor z c).jacketing = s.jacketing := by
  cases z <;> rfl
@[simp] theorem State.setConveyor_lost (s : State) (z : ConveyorZone) (c : Conveyor) : (s.setConveyor z c).lost = s.lost := by
  cases z <;> rfl
@[simp] theorem State.setConveyor_casingMismatch (s : State) (z : ConveyorZone) (c : Conveyor) : (s.setConveyor z c).casingMismatch = s.casingMismatch := by
  cases z <;> rfl
@[simp] theorem State.setConveyor_jacketingMismatch (s : State) (z : ConveyorZone) (c : Conveyor) : (s.setConveyor z c).jacketingMismatch = s.jacketingMismatch := by
  cases z <;> rfl
@[simp] theorem State.setConveyor_gateQueue (s : State) (z : ConveyorZone) (c : Conveyor) : (s.setConveyor z c).gateQueue = s.gateQueue := by
  cases z <;> rfl
@[simp] theorem State.setConveyor_gateInFlight (s : State) (z : ConveyorZone) (c : Conveyor) : (s.setConveyor z c).gateInFlight = s.gateInFlight := by
  cases z <;> rfl
@[simp] theorem State.setConveyor_stations (s : State) (z : ConveyorZone) (c : Conveyor) : (s.setConveyor z c).stations = s.stations := by
  cases z <;> rfl
@[simp] theorem State.setConveyor_link (s : State) (z : ConveyorZone) (c : Conveyor) : (s.setConveyor z c).link = s.link := by
  cases z <;> rfl
@[simp] theorem State.setConveyor_check (s : State) (z : ConveyorZone) (c : Conveyor) : (s.setConveyor z c).check = s.check := by
  cases z <;> rfl
@[simp] theorem State.setConveyor_flags (s : State) (z : ConveyorZone) (c : Conveyor) : (s.setConveyor z c).flags = s.flags := by
  cases z <;> rfl
@[simp] theorem State.setConveyor_enables (s : State) (z : ConveyorZone) (c : Conveyor) : (s.setConveyor z c).enables = s.enables := by
  cases z <;> rfl
@[simp] theorem State.setConveyor_lamps (s : State) (z : ConveyorZone) (c : Conveyor) : (s.setConveyor z c).lamps = s.lamps := by
  cases z <;> rfl
@[simp] theorem State.setConveyor_response (s : State) (z : ConveyorZone) (c : Conveyor) : (s.setConveyor z c).response = s.response := by
  cases z <;> rfl
@[simp] theorem State.setConveyor_clockedOut (s : State) (z : ConveyorZone) (c : Conveyor) : (s.setConveyor z c).clockedOut = s.clockedOut := by
  cases z <;> rfl
@[simp] theorem State.setConveyor_pending (s : State) (z : ConveyorZone) (c : Conveyor) : (s.setConveyor z c).pending = s.pending := by
  cases z <;> rfl

/-! ### setMode -/

@[simp] theorem State.setMode_timeBase (s : State) (z : Zone) (m : ZoneMode) : (s.setMode z m).timeBase = s.timeBase := by
  cases z <;> rfl
@[simp] theorem State.setMode_pool (s : State) (z : Zone) (m : ZoneMode) : (s.setMode z m).pool = s.pool := by
  cases z <;> rfl
@[simp] theorem State.setMode_admissionCounter (s : State) (z : Zone) (m : ZoneMode) : (s.setMode z m).admissionCounter = s.admissionCounter := by
  cases z <;> rfl
@[simp] theorem State.setMode_jobs (s : State) (z : Zone) (m : ZoneMode) : (s.setMode z m).jobs = s.jobs := by
  cases z <;> rfl
@[simp] theorem State.setMode_copyTables (s : State) (z : Zone) (m : ZoneMode) : (s.setMode z m).copyTables = s.copyTables := by
  cases z <;> rfl
@[simp] theorem State.setMode_classTable (s : State) (z : Zone) (m : ZoneMode) : (s.setMode z m).classTable = s.classTable := by
  cases z <;> rfl
@[simp] theorem State.setMode_filter (s : State) (z : Zone) (m : ZoneMode) : (s.setMode z m).filter = s.filter := by
  cases z <;> rfl
@[simp] theorem State.setMode_press (s : State) (z : Zone) (m : ZoneMode) : (s.setMode z m).press = s.press := by
  cases z <;> rfl
@[simp] theorem State.setMode_casing (s : State) (z : Zone) (m : ZoneMode) : (s.setMode z m).casing = s.casing := by
  cases z <;> rfl
@[simp] theorem State.setMode_pressEntry (s : State) (z : Zone) (m : ZoneMode) : (s.setMode z m).pressEntry = s.pressEntry := by
  cases z <;> rfl
@[simp] theorem State.setMode_jacketing (s : State) (z : Zone) (m : ZoneMode) : (s.setMode z m).jacketing = s.jacketing := by
  cases z <;> rfl
@[simp] theorem State.setMode_lost (s : State) (z : Zone) (m : ZoneMode) : (s.setMode z m).lost = s.lost := by
  cases z <;> rfl
@[simp] theorem State.setMode_casingMismatch (s : State) (z : Zone) (m : ZoneMode) : (s.setMode z m).casingMismatch = s.casingMismatch := by
  cases z <;> rfl
@[simp] theorem State.setMode_jacketingMismatch (s : State) (z : Zone) (m : ZoneMode) : (s.setMode z m).jacketingMismatch = s.jacketingMismatch := by
  cases z <;> rfl
@[simp] theorem State.setMode_gateQueue (s : State) (z : Zone) (m : ZoneMode) : (s.setMode z m).gateQueue = s.gateQueue := by
  cases z <;> rfl
@[simp] theorem State.setMode_gateInFlight (s : State) (z : Zone) (m : ZoneMode) : (s.setMode z m).gateInFlight = s.gateInFlight := by
  cases z <;> rfl
@[simp] theorem State.setMode_stations (s : State) (z : Zone) (m : ZoneMode) : (s.setMode z m).stations = s.stations := by
  cases z <;> rfl
@[simp] theorem State.setMode_link (s : State) (z : Zone) (m : ZoneMode) : (s.setMode z m).link = s.link := by
  cases z <;> rfl
@[simp] theorem State.setMode_check (s : State) (z : Zone) (m : ZoneMode) : (s.setMode z m).check = s.check := by
  cases z <;> rfl
@[simp] theorem State.setMode_flags (s : State) (z : Zone) (m : ZoneMode) : (s.setMode z m).flags = s.flags := by
  cases z <;> rfl
@[simp] theorem State.setMode_enables (s : State) (z : Zone) (m : ZoneMode) : (s.setMode z m).enables = s.enables := by
  cases z <;> rfl
@[simp] theorem State.setMode_lamps (s : State) (z : Zone) (m : ZoneMode) : (s.setMode z m).lamps = s.lamps := by
  cases z <;> rfl
@[simp] theorem State.setMode_response (s : State) (z : Zone) (m : ZoneMode) : (s.setMode z m).response = s.response := by
  cases z <;> rfl
@[simp] theorem State.setMode_clockedOut (s : State) (z : Zone) (m : ZoneMode) : (s.setMode z m).clockedOut = s.clockedOut := by
  cases z <;> rfl
@[simp] theorem State.setMode_pending (s : State) (z : Zone) (m : ZoneMode) : (s.setMode z m).pending = s.pending := by
  cases z <;> rfl

/-! ### raiseIf -/

@[simp] theorem State.raiseIf_timeBase (s : State) (c : Bool) (a : Attention) : (s.raiseIf c a).timeBase = s.timeBase := by
  unfold State.raiseIf; split <;> simp
@[simp] theorem State.raiseIf_pool (s : State) (c : Bool) (a : Attention) : (s.raiseIf c a).pool = s.pool := by
  unfold State.raiseIf; split <;> simp
@[simp] theorem State.raiseIf_admissionCounter (s : State) (c : Bool) (a : Attention) : (s.raiseIf c a).admissionCounter = s.admissionCounter := by
  unfold State.raiseIf; split <;> simp
@[simp] theorem State.raiseIf_jobs (s : State) (c : Bool) (a : Attention) : (s.raiseIf c a).jobs = s.jobs := by
  unfold State.raiseIf; split <;> simp
@[simp] theorem State.raiseIf_copyTables (s : State) (c : Bool) (a : Attention) : (s.raiseIf c a).copyTables = s.copyTables := by
  unfold State.raiseIf; split <;> simp
@[simp] theorem State.raiseIf_classTable (s : State) (c : Bool) (a : Attention) : (s.raiseIf c a).classTable = s.classTable := by
  unfold State.raiseIf; split <;> simp
@[simp] theorem State.raiseIf_filter (s : State) (c : Bool) (a : Attention) : (s.raiseIf c a).filter = s.filter := by
  unfold State.raiseIf; split <;> simp
@[simp] theorem State.raiseIf_press (s : State) (c : Bool) (a : Attention) : (s.raiseIf c a).press = s.press := by
  unfold State.raiseIf; split <;> simp
@[simp] theorem State.raiseIf_z1 (s : State) (c : Bool) (a : Attention) : (s.raiseIf c a).z1 = s.z1 := by
  unfold State.raiseIf; split <;> simp
@[simp] theorem State.raiseIf_z2 (s : State) (c : Bool) (a : Attention) : (s.raiseIf c a).z2 = s.z2 := by
  unfold State.raiseIf; split <;> simp
@[simp] theorem State.raiseIf_z4 (s : State) (c : Bool) (a : Attention) : (s.raiseIf c a).z4 = s.z4 := by
  unfold State.raiseIf; split <;> simp
@[simp] theorem State.raiseIf_z5 (s : State) (c : Bool) (a : Attention) : (s.raiseIf c a).z5 = s.z5 := by
  unfold State.raiseIf; split <;> simp
@[simp] theorem State.raiseIf_z3Mode (s : State) (c : Bool) (a : Attention) : (s.raiseIf c a).z3Mode = s.z3Mode := by
  unfold State.raiseIf; split <;> simp
@[simp] theorem State.raiseIf_casing (s : State) (c : Bool) (a : Attention) : (s.raiseIf c a).casing = s.casing := by
  unfold State.raiseIf; split <;> simp
@[simp] theorem State.raiseIf_pressEntry (s : State) (c : Bool) (a : Attention) : (s.raiseIf c a).pressEntry = s.pressEntry := by
  unfold State.raiseIf; split <;> simp
@[simp] theorem State.raiseIf_jacketing (s : State) (c : Bool) (a : Attention) : (s.raiseIf c a).jacketing = s.jacketing := by
  unfold State.raiseIf; split <;> simp
@[simp] theorem State.raiseIf_lost (s : State) (c : Bool) (a : Attention) : (s.raiseIf c a).lost = s.lost := by
  unfold State.raiseIf; split <;> simp
@[simp] theorem State.raiseIf_casingMismatch (s : State) (c : Bool) (a : Attention) : (s.raiseIf c a).casingMismatch = s.casingMismatch := by
  unfold State.raiseIf; split <;> simp
@[simp] theorem State.raiseIf_jacketingMismatch (s : State) (c : Bool) (a : Attention) : (s.raiseIf c a).jacketingMismatch = s.jacketingMismatch := by
  unfold State.raiseIf; split <;> simp
@[simp] theorem State.raiseIf_gateQueue (s : State) (c : Bool) (a : Attention) : (s.raiseIf c a).gateQueue = s.gateQueue := by
  unfold State.raiseIf; split <;> simp
@[simp] theorem State.raiseIf_gateInFlight (s : State) (c : Bool) (a : Attention) : (s.raiseIf c a).gateInFlight = s.gateInFlight := by
  unfold State.raiseIf; split <;> simp
@[simp] theorem State.raiseIf_stations (s : State) (c : Bool) (a : Attention) : (s.raiseIf c a).stations = s.stations := by
  unfold State.raiseIf; split <;> simp
@[simp] theorem State.raiseIf_link (s : State) (c : Bool) (a : Attention) : (s.raiseIf c a).link = s.link := by
  unfold State.raiseIf; split <;> simp
@[simp] theorem State.raiseIf_check (s : State) (c : Bool) (a : Attention) : (s.raiseIf c a).check = s.check := by
  unfold State.raiseIf; split <;> simp
@[simp] theorem State.raiseIf_enables (s : State) (c : Bool) (a : Attention) : (s.raiseIf c a).enables = s.enables := by
  unfold State.raiseIf; split <;> simp
@[simp] theorem State.raiseIf_lamps (s : State) (c : Bool) (a : Attention) : (s.raiseIf c a).lamps = s.lamps := by
  unfold State.raiseIf; split <;> simp
@[simp] theorem State.raiseIf_response (s : State) (c : Bool) (a : Attention) : (s.raiseIf c a).response = s.response := by
  unfold State.raiseIf; split <;> simp
@[simp] theorem State.raiseIf_clockedOut (s : State) (c : Bool) (a : Attention) : (s.raiseIf c a).clockedOut = s.clockedOut := by
  unfold State.raiseIf; split <;> simp
@[simp] theorem State.raiseIf_pending (s : State) (c : Bool) (a : Attention) : (s.raiseIf c a).pending = s.pending := by
  unfold State.raiseIf; split <;> simp

/-! ### haltZone -/

@[simp] theorem State.haltZone_timeBase (s : State) (z : ConveyorZone) : (s.haltZone z).timeBase = s.timeBase := by
  unfold State.haltZone; simp
@[simp] theorem State.haltZone_pool (s : State) (z : ConveyorZone) : (s.haltZone z).pool = s.pool := by
  unfold State.haltZone; simp
@[simp] theorem State.haltZone_admissionCounter (s : State) (z : ConveyorZone) : (s.haltZone z).admissionCounter = s.admissionCounter := by
  unfold State.haltZone; simp
@[simp] theorem State.haltZone_jobs (s : State) (z : ConveyorZone) : (s.haltZone z).jobs = s.jobs := by
  unfold State.haltZone; simp
@[simp] theorem State.haltZone_copyTables (s : State) (z : ConveyorZone) : (s.haltZone z).copyTables = s.copyTables := by
  unfold State.haltZone; simp
@[simp] theorem State.haltZone_classTable (s : State) (z : ConveyorZone) : (s.haltZone z).classTable = s.classTable := by
  unfold State.haltZone; simp
@[simp] theorem State.haltZone_filter (s : State) (z : ConveyorZone) : (s.haltZone z).filter = s.filter := by
  unfold State.haltZone; simp
@[simp] theorem State.haltZone_press (s : State) (z : ConveyorZone) : (s.haltZone z).press = s.press := by
  unfold State.haltZone; simp
@[simp] theorem State.haltZone_casing (s : State) (z : ConveyorZone) : (s.haltZone z).casing = s.casing := by
  unfold State.haltZone; simp
@[simp] theorem State.haltZone_pressEntry (s : State) (z : ConveyorZone) : (s.haltZone z).pressEntry = s.pressEntry := by
  unfold State.haltZone; simp
@[simp] theorem State.haltZone_jacketing (s : State) (z : ConveyorZone) : (s.haltZone z).jacketing = s.jacketing := by
  unfold State.haltZone; simp
@[simp] theorem State.haltZone_lost (s : State) (z : ConveyorZone) : (s.haltZone z).lost = s.lost := by
  unfold State.haltZone; simp
@[simp] theorem State.haltZone_casingMismatch (s : State) (z : ConveyorZone) : (s.haltZone z).casingMismatch = s.casingMismatch := by
  unfold State.haltZone; simp
@[simp] theorem State.haltZone_jacketingMismatch (s : State) (z : ConveyorZone) : (s.haltZone z).jacketingMismatch = s.jacketingMismatch := by
  unfold State.haltZone; simp
@[simp] theorem State.haltZone_gateQueue (s : State) (z : ConveyorZone) : (s.haltZone z).gateQueue = s.gateQueue := by
  unfold State.haltZone; simp
@[simp] theorem State.haltZone_gateInFlight (s : State) (z : ConveyorZone) : (s.haltZone z).gateInFlight = s.gateInFlight := by
  unfold State.haltZone; simp
@[simp] theorem State.haltZone_stations (s : State) (z : ConveyorZone) : (s.haltZone z).stations = s.stations := by
  unfold State.haltZone; simp
@[simp] theorem State.haltZone_link (s : State) (z : ConveyorZone) : (s.haltZone z).link = s.link := by
  unfold State.haltZone; simp
@[simp] theorem State.haltZone_check (s : State) (z : ConveyorZone) : (s.haltZone z).check = s.check := by
  unfold State.haltZone; simp
@[simp] theorem State.haltZone_flags (s : State) (z : ConveyorZone) : (s.haltZone z).flags = s.flags := by
  unfold State.haltZone; simp
@[simp] theorem State.haltZone_enables (s : State) (z : ConveyorZone) : (s.haltZone z).enables = s.enables := by
  unfold State.haltZone; simp
@[simp] theorem State.haltZone_lamps (s : State) (z : ConveyorZone) : (s.haltZone z).lamps = s.lamps := by
  unfold State.haltZone; simp
@[simp] theorem State.haltZone_response (s : State) (z : ConveyorZone) : (s.haltZone z).response = s.response := by
  unfold State.haltZone; simp
@[simp] theorem State.haltZone_clockedOut (s : State) (z : ConveyorZone) : (s.haltZone z).clockedOut = s.clockedOut := by
  unfold State.haltZone; simp
@[simp] theorem State.haltZone_pending (s : State) (z : ConveyorZone) : (s.haltZone z).pending = s.pending := by
  unfold State.haltZone; simp

/-! ### joinQueue -/

@[simp] theorem State.joinQueue_timeBase (s : State) (z : ConveyorZone) (t : Tag) : (s.joinQueue z t).timeBase = s.timeBase := by
  unfold State.joinQueue; simp
@[simp] theorem State.joinQueue_admissionCounter (s : State) (z : ConveyorZone) (t : Tag) : (s.joinQueue z t).admissionCounter = s.admissionCounter := by
  unfold State.joinQueue; simp
@[simp] theorem State.joinQueue_jobs (s : State) (z : ConveyorZone) (t : Tag) : (s.joinQueue z t).jobs = s.jobs := by
  unfold State.joinQueue; simp
@[simp] theorem State.joinQueue_copyTables (s : State) (z : ConveyorZone) (t : Tag) : (s.joinQueue z t).copyTables = s.copyTables := by
  unfold State.joinQueue; simp
@[simp] theorem State.joinQueue_classTable (s : State) (z : ConveyorZone) (t : Tag) : (s.joinQueue z t).classTable = s.classTable := by
  unfold State.joinQueue; simp
@[simp] theorem State.joinQueue_filter (s : State) (z : ConveyorZone) (t : Tag) : (s.joinQueue z t).filter = s.filter := by
  unfold State.joinQueue; simp
@[simp] theorem State.joinQueue_press (s : State) (z : ConveyorZone) (t : Tag) : (s.joinQueue z t).press = s.press := by
  unfold State.joinQueue; simp
@[simp] theorem State.joinQueue_z3Mode (s : State) (z : ConveyorZone) (t : Tag) : (s.joinQueue z t).z3Mode = s.z3Mode := by
  unfold State.joinQueue; simp
@[simp] theorem State.joinQueue_casing (s : State) (z : ConveyorZone) (t : Tag) : (s.joinQueue z t).casing = s.casing := by
  unfold State.joinQueue; simp
@[simp] theorem State.joinQueue_pressEntry (s : State) (z : ConveyorZone) (t : Tag) : (s.joinQueue z t).pressEntry = s.pressEntry := by
  unfold State.joinQueue; simp
@[simp] theorem State.joinQueue_jacketing (s : State) (z : ConveyorZone) (t : Tag) : (s.joinQueue z t).jacketing = s.jacketing := by
  unfold State.joinQueue; simp
@[simp] theorem State.joinQueue_lost (s : State) (z : ConveyorZone) (t : Tag) : (s.joinQueue z t).lost = s.lost := by
  unfold State.joinQueue; simp
@[simp] theorem State.joinQueue_casingMismatch (s : State) (z : ConveyorZone) (t : Tag) : (s.joinQueue z t).casingMismatch = s.casingMismatch := by
  unfold State.joinQueue; simp
@[simp] theorem State.joinQueue_jacketingMismatch (s : State) (z : ConveyorZone) (t : Tag) : (s.joinQueue z t).jacketingMismatch = s.jacketingMismatch := by
  unfold State.joinQueue; simp
@[simp] theorem State.joinQueue_gateQueue (s : State) (z : ConveyorZone) (t : Tag) : (s.joinQueue z t).gateQueue = s.gateQueue := by
  unfold State.joinQueue; simp
@[simp] theorem State.joinQueue_gateInFlight (s : State) (z : ConveyorZone) (t : Tag) : (s.joinQueue z t).gateInFlight = s.gateInFlight := by
  unfold State.joinQueue; simp
@[simp] theorem State.joinQueue_stations (s : State) (z : ConveyorZone) (t : Tag) : (s.joinQueue z t).stations = s.stations := by
  unfold State.joinQueue; simp
@[simp] theorem State.joinQueue_link (s : State) (z : ConveyorZone) (t : Tag) : (s.joinQueue z t).link = s.link := by
  unfold State.joinQueue; simp
@[simp] theorem State.joinQueue_check (s : State) (z : ConveyorZone) (t : Tag) : (s.joinQueue z t).check = s.check := by
  unfold State.joinQueue; simp
@[simp] theorem State.joinQueue_flags (s : State) (z : ConveyorZone) (t : Tag) : (s.joinQueue z t).flags = s.flags := by
  unfold State.joinQueue; simp
@[simp] theorem State.joinQueue_enables (s : State) (z : ConveyorZone) (t : Tag) : (s.joinQueue z t).enables = s.enables := by
  unfold State.joinQueue; simp
@[simp] theorem State.joinQueue_lamps (s : State) (z : ConveyorZone) (t : Tag) : (s.joinQueue z t).lamps = s.lamps := by
  unfold State.joinQueue; simp
@[simp] theorem State.joinQueue_response (s : State) (z : ConveyorZone) (t : Tag) : (s.joinQueue z t).response = s.response := by
  unfold State.joinQueue; simp
@[simp] theorem State.joinQueue_clockedOut (s : State) (z : ConveyorZone) (t : Tag) : (s.joinQueue z t).clockedOut = s.clockedOut := by
  unfold State.joinQueue; simp
@[simp] theorem State.joinQueue_pending (s : State) (z : ConveyorZone) (t : Tag) : (s.joinQueue z t).pending = s.pending := by
  unfold State.joinQueue; simp

/-! ### setCopyEntry -/

@[simp] theorem State.setCopyEntry_timeBase (s : State) (n : Numbering) (c : Nat) (x : CopyState) : (s.setCopyEntry n c x).timeBase = s.timeBase := by
  unfold State.setCopyEntry; split <;> rfl
@[simp] theorem State.setCopyEntry_pool (s : State) (n : Numbering) (c : Nat) (x : CopyState) : (s.setCopyEntry n c x).pool = s.pool := by
  unfold State.setCopyEntry; split <;> rfl
@[simp] theorem State.setCopyEntry_admissionCounter (s : State) (n : Numbering) (c : Nat) (x : CopyState) : (s.setCopyEntry n c x).admissionCounter = s.admissionCounter := by
  unfold State.setCopyEntry; split <;> rfl
@[simp] theorem State.setCopyEntry_jobs (s : State) (n : Numbering) (c : Nat) (x : CopyState) : (s.setCopyEntry n c x).jobs = s.jobs := by
  unfold State.setCopyEntry; split <;> rfl
@[simp] theorem State.setCopyEntry_classTable (s : State) (n : Numbering) (c : Nat) (x : CopyState) : (s.setCopyEntry n c x).classTable = s.classTable := by
  unfold State.setCopyEntry; split <;> rfl
@[simp] theorem State.setCopyEntry_filter (s : State) (n : Numbering) (c : Nat) (x : CopyState) : (s.setCopyEntry n c x).filter = s.filter := by
  unfold State.setCopyEntry; split <;> rfl
@[simp] theorem State.setCopyEntry_press (s : State) (n : Numbering) (c : Nat) (x : CopyState) : (s.setCopyEntry n c x).press = s.press := by
  unfold State.setCopyEntry; split <;> rfl
@[simp] theorem State.setCopyEntry_z1 (s : State) (n : Numbering) (c : Nat) (x : CopyState) : (s.setCopyEntry n c x).z1 = s.z1 := by
  unfold State.setCopyEntry; split <;> rfl
@[simp] theorem State.setCopyEntry_z2 (s : State) (n : Numbering) (c : Nat) (x : CopyState) : (s.setCopyEntry n c x).z2 = s.z2 := by
  unfold State.setCopyEntry; split <;> rfl
@[simp] theorem State.setCopyEntry_z4 (s : State) (n : Numbering) (c : Nat) (x : CopyState) : (s.setCopyEntry n c x).z4 = s.z4 := by
  unfold State.setCopyEntry; split <;> rfl
@[simp] theorem State.setCopyEntry_z5 (s : State) (n : Numbering) (c : Nat) (x : CopyState) : (s.setCopyEntry n c x).z5 = s.z5 := by
  unfold State.setCopyEntry; split <;> rfl
@[simp] theorem State.setCopyEntry_z3Mode (s : State) (n : Numbering) (c : Nat) (x : CopyState) : (s.setCopyEntry n c x).z3Mode = s.z3Mode := by
  unfold State.setCopyEntry; split <;> rfl
@[simp] theorem State.setCopyEntry_casing (s : State) (n : Numbering) (c : Nat) (x : CopyState) : (s.setCopyEntry n c x).casing = s.casing := by
  unfold State.setCopyEntry; split <;> rfl
@[simp] theorem State.setCopyEntry_pressEntry (s : State) (n : Numbering) (c : Nat) (x : CopyState) : (s.setCopyEntry n c x).pressEntry = s.pressEntry := by
  unfold State.setCopyEntry; split <;> rfl
@[simp] theorem State.setCopyEntry_jacketing (s : State) (n : Numbering) (c : Nat) (x : CopyState) : (s.setCopyEntry n c x).jacketing = s.jacketing := by
  unfold State.setCopyEntry; split <;> rfl
@[simp] theorem State.setCopyEntry_lost (s : State) (n : Numbering) (c : Nat) (x : CopyState) : (s.setCopyEntry n c x).lost = s.lost := by
  unfold State.setCopyEntry; split <;> rfl
@[simp] theorem State.setCopyEntry_casingMismatch (s : State) (n : Numbering) (c : Nat) (x : CopyState) : (s.setCopyEntry n c x).casingMismatch = s.casingMismatch := by
  unfold State.setCopyEntry; split <;> rfl
@[simp] theorem State.setCopyEntry_jacketingMismatch (s : State) (n : Numbering) (c : Nat) (x : CopyState) : (s.setCopyEntry n c x).jacketingMismatch = s.jacketingMismatch := by
  unfold State.setCopyEntry; split <;> rfl
@[simp] theorem State.setCopyEntry_gateQueue (s : State) (n : Numbering) (c : Nat) (x : CopyState) : (s.setCopyEntry n c x).gateQueue = s.gateQueue := by
  unfold State.setCopyEntry; split <;> rfl
@[simp] theorem State.setCopyEntry_gateInFlight (s : State) (n : Numbering) (c : Nat) (x : CopyState) : (s.setCopyEntry n c x).gateInFlight = s.gateInFlight := by
  unfold State.setCopyEntry; split <;> rfl
@[simp] theorem State.setCopyEntry_stations (s : State) (n : Numbering) (c : Nat) (x : CopyState) : (s.setCopyEntry n c x).stations = s.stations := by
  unfold State.setCopyEntry; split <;> rfl
@[simp] theorem State.setCopyEntry_link (s : State) (n : Numbering) (c : Nat) (x : CopyState) : (s.setCopyEntry n c x).link = s.link := by
  unfold State.setCopyEntry; split <;> rfl
@[simp] theorem State.setCopyEntry_check (s : State) (n : Numbering) (c : Nat) (x : CopyState) : (s.setCopyEntry n c x).check = s.check := by
  unfold State.setCopyEntry; split <;> rfl
@[simp] theorem State.setCopyEntry_flags (s : State) (n : Numbering) (c : Nat) (x : CopyState) : (s.setCopyEntry n c x).flags = s.flags := by
  unfold State.setCopyEntry; split <;> rfl
@[simp] theorem State.setCopyEntry_enables (s : State) (n : Numbering) (c : Nat) (x : CopyState) : (s.setCopyEntry n c x).enables = s.enables := by
  unfold State.setCopyEntry; split <;> rfl
@[simp] theorem State.setCopyEntry_lamps (s : State) (n : Numbering) (c : Nat) (x : CopyState) : (s.setCopyEntry n c x).lamps = s.lamps := by
  unfold State.setCopyEntry; split <;> rfl
@[simp] theorem State.setCopyEntry_response (s : State) (n : Numbering) (c : Nat) (x : CopyState) : (s.setCopyEntry n c x).response = s.response := by
  unfold State.setCopyEntry; split <;> rfl
@[simp] theorem State.setCopyEntry_clockedOut (s : State) (n : Numbering) (c : Nat) (x : CopyState) : (s.setCopyEntry n c x).clockedOut = s.clockedOut := by
  unfold State.setCopyEntry; split <;> rfl
@[simp] theorem State.setCopyEntry_pending (s : State) (n : Numbering) (c : Nat) (x : CopyState) : (s.setCopyEntry n c x).pending = s.pending := by
  unfold State.setCopyEntry; split <;> rfl

/-! ### settleCopy -/

@[simp] theorem State.settleCopy_timeBase (s : State) (k : Retirement) (p : Piece) (b : Job) : (s.settleCopy k p b).timeBase = s.timeBase := by
  unfold State.settleCopy; split <;> (try split) <;> simp
@[simp] theorem State.settleCopy_pool (s : State) (k : Retirement) (p : Piece) (b : Job) : (s.settleCopy k p b).pool = s.pool := by
  unfold State.settleCopy; split <;> (try split) <;> simp
@[simp] theorem State.settleCopy_admissionCounter (s : State) (k : Retirement) (p : Piece) (b : Job) : (s.settleCopy k p b).admissionCounter = s.admissionCounter := by
  unfold State.settleCopy; split <;> (try split) <;> simp
@[simp] theorem State.settleCopy_jobs (s : State) (k : Retirement) (p : Piece) (b : Job) : (s.settleCopy k p b).jobs = s.jobs := by
  unfold State.settleCopy; split <;> (try split) <;> simp
@[simp] theorem State.settleCopy_classTable (s : State) (k : Retirement) (p : Piece) (b : Job) : (s.settleCopy k p b).classTable = s.classTable := by
  unfold State.settleCopy; split <;> (try split) <;> simp
@[simp] theorem State.settleCopy_filter (s : State) (k : Retirement) (p : Piece) (b : Job) : (s.settleCopy k p b).filter = s.filter := by
  unfold State.settleCopy; split <;> (try split) <;> simp
@[simp] theorem State.settleCopy_press (s : State) (k : Retirement) (p : Piece) (b : Job) : (s.settleCopy k p b).press = s.press := by
  unfold State.settleCopy; split <;> (try split) <;> simp
@[simp] theorem State.settleCopy_z1 (s : State) (k : Retirement) (p : Piece) (b : Job) : (s.settleCopy k p b).z1 = s.z1 := by
  unfold State.settleCopy; split <;> (try split) <;> simp
@[simp] theorem State.settleCopy_z2 (s : State) (k : Retirement) (p : Piece) (b : Job) : (s.settleCopy k p b).z2 = s.z2 := by
  unfold State.settleCopy; split <;> (try split) <;> simp
@[simp] theorem State.settleCopy_z4 (s : State) (k : Retirement) (p : Piece) (b : Job) : (s.settleCopy k p b).z4 = s.z4 := by
  unfold State.settleCopy; split <;> (try split) <;> simp
@[simp] theorem State.settleCopy_z5 (s : State) (k : Retirement) (p : Piece) (b : Job) : (s.settleCopy k p b).z5 = s.z5 := by
  unfold State.settleCopy; split <;> (try split) <;> simp
@[simp] theorem State.settleCopy_z3Mode (s : State) (k : Retirement) (p : Piece) (b : Job) : (s.settleCopy k p b).z3Mode = s.z3Mode := by
  unfold State.settleCopy; split <;> (try split) <;> simp
@[simp] theorem State.settleCopy_casing (s : State) (k : Retirement) (p : Piece) (b : Job) : (s.settleCopy k p b).casing = s.casing := by
  unfold State.settleCopy; split <;> (try split) <;> simp
@[simp] theorem State.settleCopy_pressEntry (s : State) (k : Retirement) (p : Piece) (b : Job) : (s.settleCopy k p b).pressEntry = s.pressEntry := by
  unfold State.settleCopy; split <;> (try split) <;> simp
@[simp] theorem State.settleCopy_jacketing (s : State) (k : Retirement) (p : Piece) (b : Job) : (s.settleCopy k p b).jacketing = s.jacketing := by
  unfold State.settleCopy; split <;> (try split) <;> simp
@[simp] theorem State.settleCopy_lost (s : State) (k : Retirement) (p : Piece) (b : Job) : (s.settleCopy k p b).lost = s.lost := by
  unfold State.settleCopy; split <;> (try split) <;> simp
@[simp] theorem State.settleCopy_casingMismatch (s : State) (k : Retirement) (p : Piece) (b : Job) : (s.settleCopy k p b).casingMismatch = s.casingMismatch := by
  unfold State.settleCopy; split <;> (try split) <;> simp
@[simp] theorem State.settleCopy_jacketingMismatch (s : State) (k : Retirement) (p : Piece) (b : Job) : (s.settleCopy k p b).jacketingMismatch = s.jacketingMismatch := by
  unfold State.settleCopy; split <;> (try split) <;> simp
@[simp] theorem State.settleCopy_gateQueue (s : State) (k : Retirement) (p : Piece) (b : Job) : (s.settleCopy k p b).gateQueue = s.gateQueue := by
  unfold State.settleCopy; split <;> (try split) <;> simp
@[simp] theorem State.settleCopy_gateInFlight (s : State) (k : Retirement) (p : Piece) (b : Job) : (s.settleCopy k p b).gateInFlight = s.gateInFlight := by
  unfold State.settleCopy; split <;> (try split) <;> simp
@[simp] theorem State.settleCopy_stations (s : State) (k : Retirement) (p : Piece) (b : Job) : (s.settleCopy k p b).stations = s.stations := by
  unfold State.settleCopy; split <;> (try split) <;> simp
@[simp] theorem State.settleCopy_link (s : State) (k : Retirement) (p : Piece) (b : Job) : (s.settleCopy k p b).link = s.link := by
  unfold State.settleCopy; split <;> (try split) <;> simp
@[simp] theorem State.settleCopy_check (s : State) (k : Retirement) (p : Piece) (b : Job) : (s.settleCopy k p b).check = s.check := by
  unfold State.settleCopy; split <;> (try split) <;> simp
@[simp] theorem State.settleCopy_flags (s : State) (k : Retirement) (p : Piece) (b : Job) : (s.settleCopy k p b).flags = s.flags := by
  unfold State.settleCopy; split <;> (try split) <;> simp
@[simp] theorem State.settleCopy_enables (s : State) (k : Retirement) (p : Piece) (b : Job) : (s.settleCopy k p b).enables = s.enables := by
  unfold State.settleCopy; split <;> (try split) <;> simp
@[simp] theorem State.settleCopy_lamps (s : State) (k : Retirement) (p : Piece) (b : Job) : (s.settleCopy k p b).lamps = s.lamps := by
  unfold State.settleCopy; split <;> (try split) <;> simp
@[simp] theorem State.settleCopy_response (s : State) (k : Retirement) (p : Piece) (b : Job) : (s.settleCopy k p b).response = s.response := by
  unfold State.settleCopy; split <;> (try split) <;> simp
@[simp] theorem State.settleCopy_clockedOut (s : State) (k : Retirement) (p : Piece) (b : Job) : (s.settleCopy k p b).clockedOut = s.clockedOut := by
  unfold State.settleCopy; split <;> (try split) <;> simp
@[simp] theorem State.settleCopy_pending (s : State) (k : Retirement) (p : Piece) (b : Job) : (s.settleCopy k p b).pending = s.pending := by
  unfold State.settleCopy; split <;> (try split) <;> simp

/-! ### emptyJob -/

@[simp] theorem State.emptyJob_timeBase (s : State) (j : JobSlot) (b : Job) : (s.emptyJob j b).timeBase = s.timeBase := by
  unfold State.emptyJob; split <;> simp
@[simp] theorem State.emptyJob_pool (s : State) (j : JobSlot) (b : Job) : (s.emptyJob j b).pool = s.pool := by
  unfold State.emptyJob; split <;> simp
@[simp] theorem State.emptyJob_admissionCounter (s : State) (j : JobSlot) (b : Job) : (s.emptyJob j b).admissionCounter = s.admissionCounter := by
  unfold State.emptyJob; split <;> simp
@[simp] theorem State.emptyJob_classTable (s : State) (j : JobSlot) (b : Job) : (s.emptyJob j b).classTable = s.classTable := by
  unfold State.emptyJob; split <;> simp
@[simp] theorem State.emptyJob_filter (s : State) (j : JobSlot) (b : Job) : (s.emptyJob j b).filter = s.filter := by
  unfold State.emptyJob; split <;> simp
@[simp] theorem State.emptyJob_press (s : State) (j : JobSlot) (b : Job) : (s.emptyJob j b).press = s.press := by
  unfold State.emptyJob; split <;> simp
@[simp] theorem State.emptyJob_z1 (s : State) (j : JobSlot) (b : Job) : (s.emptyJob j b).z1 = s.z1 := by
  unfold State.emptyJob; split <;> simp
@[simp] theorem State.emptyJob_z2 (s : State) (j : JobSlot) (b : Job) : (s.emptyJob j b).z2 = s.z2 := by
  unfold State.emptyJob; split <;> simp
@[simp] theorem State.emptyJob_z4 (s : State) (j : JobSlot) (b : Job) : (s.emptyJob j b).z4 = s.z4 := by
  unfold State.emptyJob; split <;> simp
@[simp] theorem State.emptyJob_z5 (s : State) (j : JobSlot) (b : Job) : (s.emptyJob j b).z5 = s.z5 := by
  unfold State.emptyJob; split <;> simp
@[simp] theorem State.emptyJob_z3Mode (s : State) (j : JobSlot) (b : Job) : (s.emptyJob j b).z3Mode = s.z3Mode := by
  unfold State.emptyJob; split <;> simp
@[simp] theorem State.emptyJob_casing (s : State) (j : JobSlot) (b : Job) : (s.emptyJob j b).casing = s.casing := by
  unfold State.emptyJob; split <;> simp
@[simp] theorem State.emptyJob_pressEntry (s : State) (j : JobSlot) (b : Job) : (s.emptyJob j b).pressEntry = s.pressEntry := by
  unfold State.emptyJob; split <;> simp
@[simp] theorem State.emptyJob_jacketing (s : State) (j : JobSlot) (b : Job) : (s.emptyJob j b).jacketing = s.jacketing := by
  unfold State.emptyJob; split <;> simp
@[simp] theorem State.emptyJob_lost (s : State) (j : JobSlot) (b : Job) : (s.emptyJob j b).lost = s.lost := by
  unfold State.emptyJob; split <;> simp
@[simp] theorem State.emptyJob_casingMismatch (s : State) (j : JobSlot) (b : Job) : (s.emptyJob j b).casingMismatch = s.casingMismatch := by
  unfold State.emptyJob; split <;> simp
@[simp] theorem State.emptyJob_jacketingMismatch (s : State) (j : JobSlot) (b : Job) : (s.emptyJob j b).jacketingMismatch = s.jacketingMismatch := by
  unfold State.emptyJob; split <;> simp
@[simp] theorem State.emptyJob_gateQueue (s : State) (j : JobSlot) (b : Job) : (s.emptyJob j b).gateQueue = s.gateQueue := by
  unfold State.emptyJob; split <;> simp
@[simp] theorem State.emptyJob_gateInFlight (s : State) (j : JobSlot) (b : Job) : (s.emptyJob j b).gateInFlight = s.gateInFlight := by
  unfold State.emptyJob; split <;> simp
@[simp] theorem State.emptyJob_stations (s : State) (j : JobSlot) (b : Job) : (s.emptyJob j b).stations = s.stations := by
  unfold State.emptyJob; split <;> simp
@[simp] theorem State.emptyJob_link (s : State) (j : JobSlot) (b : Job) : (s.emptyJob j b).link = s.link := by
  unfold State.emptyJob; split <;> simp
@[simp] theorem State.emptyJob_check (s : State) (j : JobSlot) (b : Job) : (s.emptyJob j b).check = s.check := by
  unfold State.emptyJob; split <;> simp
@[simp] theorem State.emptyJob_flags (s : State) (j : JobSlot) (b : Job) : (s.emptyJob j b).flags = s.flags := by
  unfold State.emptyJob; split <;> simp
@[simp] theorem State.emptyJob_enables (s : State) (j : JobSlot) (b : Job) : (s.emptyJob j b).enables = s.enables := by
  unfold State.emptyJob; split <;> simp
@[simp] theorem State.emptyJob_lamps (s : State) (j : JobSlot) (b : Job) : (s.emptyJob j b).lamps = s.lamps := by
  unfold State.emptyJob; split <;> simp
@[simp] theorem State.emptyJob_response (s : State) (j : JobSlot) (b : Job) : (s.emptyJob j b).response = s.response := by
  unfold State.emptyJob; split <;> simp
@[simp] theorem State.emptyJob_clockedOut (s : State) (j : JobSlot) (b : Job) : (s.emptyJob j b).clockedOut = s.clockedOut := by
  unfold State.emptyJob; split <;> simp
@[simp] theorem State.emptyJob_pending (s : State) (j : JobSlot) (b : Job) : (s.emptyJob j b).pending = s.pending := by
  unfold State.emptyJob; split <;> simp

/-! ### settleJob -/

@[simp] theorem State.settleJob_timeBase (s : State) (k : Retirement) (p : Piece) : (s.settleJob k p).timeBase = s.timeBase := by
  unfold State.settleJob; split
  · rfl
  · split
    · rfl
    · simp only []; split <;> (try split) <;> simp
@[simp] theorem State.settleJob_pool (s : State) (k : Retirement) (p : Piece) : (s.settleJob k p).pool = s.pool := by
  unfold State.settleJob; split
  · rfl
  · split
    · rfl
    · simp only []; split <;> (try split) <;> simp
@[simp] theorem State.settleJob_admissionCounter (s : State) (k : Retirement) (p : Piece) : (s.settleJob k p).admissionCounter = s.admissionCounter := by
  unfold State.settleJob; split
  · rfl
  · split
    · rfl
    · simp only []; split <;> (try split) <;> simp
@[simp] theorem State.settleJob_classTable (s : State) (k : Retirement) (p : Piece) : (s.settleJob k p).classTable = s.classTable := by
  unfold State.settleJob; split
  · rfl
  · split
    · rfl
    · simp only []; split <;> (try split) <;> simp
@[simp] theorem State.settleJob_filter (s : State) (k : Retirement) (p : Piece) : (s.settleJob k p).filter = s.filter := by
  unfold State.settleJob; split
  · rfl
  · split
    · rfl
    · simp only []; split <;> (try split) <;> simp
@[simp] theorem State.settleJob_press (s : State) (k : Retirement) (p : Piece) : (s.settleJob k p).press = s.press := by
  unfold State.settleJob; split
  · rfl
  · split
    · rfl
    · simp only []; split <;> (try split) <;> simp
@[simp] theorem State.settleJob_z1 (s : State) (k : Retirement) (p : Piece) : (s.settleJob k p).z1 = s.z1 := by
  unfold State.settleJob; split
  · rfl
  · split
    · rfl
    · simp only []; split <;> (try split) <;> simp
@[simp] theorem State.settleJob_z2 (s : State) (k : Retirement) (p : Piece) : (s.settleJob k p).z2 = s.z2 := by
  unfold State.settleJob; split
  · rfl
  · split
    · rfl
    · simp only []; split <;> (try split) <;> simp
@[simp] theorem State.settleJob_z4 (s : State) (k : Retirement) (p : Piece) : (s.settleJob k p).z4 = s.z4 := by
  unfold State.settleJob; split
  · rfl
  · split
    · rfl
    · simp only []; split <;> (try split) <;> simp
@[simp] theorem State.settleJob_z5 (s : State) (k : Retirement) (p : Piece) : (s.settleJob k p).z5 = s.z5 := by
  unfold State.settleJob; split
  · rfl
  · split
    · rfl
    · simp only []; split <;> (try split) <;> simp
@[simp] theorem State.settleJob_z3Mode (s : State) (k : Retirement) (p : Piece) : (s.settleJob k p).z3Mode = s.z3Mode := by
  unfold State.settleJob; split
  · rfl
  · split
    · rfl
    · simp only []; split <;> (try split) <;> simp
@[simp] theorem State.settleJob_casing (s : State) (k : Retirement) (p : Piece) : (s.settleJob k p).casing = s.casing := by
  unfold State.settleJob; split
  · rfl
  · split
    · rfl
    · simp only []; split <;> (try split) <;> simp
@[simp] theorem State.settleJob_pressEntry (s : State) (k : Retirement) (p : Piece) : (s.settleJob k p).pressEntry = s.pressEntry := by
  unfold State.settleJob; split
  · rfl
  · split
    · rfl
    · simp only []; split <;> (try split) <;> simp
@[simp] theorem State.settleJob_jacketing (s : State) (k : Retirement) (p : Piece) : (s.settleJob k p).jacketing = s.jacketing := by
  unfold State.settleJob; split
  · rfl
  · split
    · rfl
    · simp only []; split <;> (try split) <;> simp
@[simp] theorem State.settleJob_lost (s : State) (k : Retirement) (p : Piece) : (s.settleJob k p).lost = s.lost := by
  unfold State.settleJob; split
  · rfl
  · split
    · rfl
    · simp only []; split <;> (try split) <;> simp
@[simp] theorem State.settleJob_casingMismatch (s : State) (k : Retirement) (p : Piece) : (s.settleJob k p).casingMismatch = s.casingMismatch := by
  unfold State.settleJob; split
  · rfl
  · split
    · rfl
    · simp only []; split <;> (try split) <;> simp
@[simp] theorem State.settleJob_jacketingMismatch (s : State) (k : Retirement) (p : Piece) : (s.settleJob k p).jacketingMismatch = s.jacketingMismatch := by
  unfold State.settleJob; split
  · rfl
  · split
    · rfl
    · simp only []; split <;> (try split) <;> simp
@[simp] theorem State.settleJob_gateQueue (s : State) (k : Retirement) (p : Piece) : (s.settleJob k p).gateQueue = s.gateQueue := by
  unfold State.settleJob; split
  · rfl
  · split
    · rfl
    · simp only []; split <;> (try split) <;> simp
@[simp] theorem State.settleJob_gateInFlight (s : State) (k : Retirement) (p : Piece) : (s.settleJob k p).gateInFlight = s.gateInFlight := by
  unfold State.settleJob; split
  · rfl
  · split
    · rfl
    · simp only []; split <;> (try split) <;> simp
@[simp] theorem State.settleJob_stations (s : State) (k : Retirement) (p : Piece) : (s.settleJob k p).stations = s.stations := by
  unfold State.settleJob; split
  · rfl
  · split
    · rfl
    · simp only []; split <;> (try split) <;> simp
@[simp] theorem State.settleJob_link (s : State) (k : Retirement) (p : Piece) : (s.settleJob k p).link = s.link := by
  unfold State.settleJob; split
  · rfl
  · split
    · rfl
    · simp only []; split <;> (try split) <;> simp
@[simp] theorem State.settleJob_check (s : State) (k : Retirement) (p : Piece) : (s.settleJob k p).check = s.check := by
  unfold State.settleJob; split
  · rfl
  · split
    · rfl
    · simp only []; split <;> (try split) <;> simp
@[simp] theorem State.settleJob_enables (s : State) (k : Retirement) (p : Piece) : (s.settleJob k p).enables = s.enables := by
  unfold State.settleJob; split
  · rfl
  · split
    · rfl
    · simp only []; split <;> (try split) <;> simp
@[simp] theorem State.settleJob_lamps (s : State) (k : Retirement) (p : Piece) : (s.settleJob k p).lamps = s.lamps := by
  unfold State.settleJob; split
  · rfl
  · split
    · rfl
    · simp only []; split <;> (try split) <;> simp
@[simp] theorem State.settleJob_response (s : State) (k : Retirement) (p : Piece) : (s.settleJob k p).response = s.response := by
  unfold State.settleJob; split
  · rfl
  · split
    · rfl
    · simp only []; split <;> (try split) <;> simp
@[simp] theorem State.settleJob_clockedOut (s : State) (k : Retirement) (p : Piece) : (s.settleJob k p).clockedOut = s.clockedOut := by
  unfold State.settleJob; split
  · rfl
  · split
    · rfl
    · simp only []; split <;> (try split) <;> simp
@[simp] theorem State.settleJob_pending (s : State) (k : Retirement) (p : Piece) : (s.settleJob k p).pending = s.pending := by
  unfold State.settleJob; split
  · rfl
  · split
    · rfl
    · simp only []; split <;> (try split) <;> simp

/-! ### retirePulse -/

@[simp] theorem State.retirePulse_timeBase (s : State) (k : Retirement) : (s.retirePulse k).timeBase = s.timeBase := by
  unfold State.retirePulse; split <;> simp
@[simp] theorem State.retirePulse_pool (s : State) (k : Retirement) : (s.retirePulse k).pool = s.pool := by
  unfold State.retirePulse; split <;> simp
@[simp] theorem State.retirePulse_admissionCounter (s : State) (k : Retirement) : (s.retirePulse k).admissionCounter = s.admissionCounter := by
  unfold State.retirePulse; split <;> simp
@[simp] theorem State.retirePulse_jobs (s : State) (k : Retirement) : (s.retirePulse k).jobs = s.jobs := by
  unfold State.retirePulse; split <;> simp
@[simp] theorem State.retirePulse_copyTables (s : State) (k : Retirement) : (s.retirePulse k).copyTables = s.copyTables := by
  unfold State.retirePulse; split <;> simp
@[simp] theorem State.retirePulse_classTable (s : State) (k : Retirement) : (s.retirePulse k).classTable = s.classTable := by
  unfold State.retirePulse; split <;> simp
@[simp] theorem State.retirePulse_filter (s : State) (k : Retirement) : (s.retirePulse k).filter = s.filter := by
  unfold State.retirePulse; split <;> simp
@[simp] theorem State.retirePulse_press (s : State) (k : Retirement) : (s.retirePulse k).press = s.press := by
  unfold State.retirePulse; split <;> simp
@[simp] theorem State.retirePulse_z1 (s : State) (k : Retirement) : (s.retirePulse k).z1 = s.z1 := by
  unfold State.retirePulse; split <;> simp
@[simp] theorem State.retirePulse_z2 (s : State) (k : Retirement) : (s.retirePulse k).z2 = s.z2 := by
  unfold State.retirePulse; split <;> simp
@[simp] theorem State.retirePulse_z4 (s : State) (k : Retirement) : (s.retirePulse k).z4 = s.z4 := by
  unfold State.retirePulse; split <;> simp
@[simp] theorem State.retirePulse_z5 (s : State) (k : Retirement) : (s.retirePulse k).z5 = s.z5 := by
  unfold State.retirePulse; split <;> simp
@[simp] theorem State.retirePulse_z3Mode (s : State) (k : Retirement) : (s.retirePulse k).z3Mode = s.z3Mode := by
  unfold State.retirePulse; split <;> simp
@[simp] theorem State.retirePulse_casing (s : State) (k : Retirement) : (s.retirePulse k).casing = s.casing := by
  unfold State.retirePulse; split <;> simp
@[simp] theorem State.retirePulse_pressEntry (s : State) (k : Retirement) : (s.retirePulse k).pressEntry = s.pressEntry := by
  unfold State.retirePulse; split <;> simp
@[simp] theorem State.retirePulse_jacketing (s : State) (k : Retirement) : (s.retirePulse k).jacketing = s.jacketing := by
  unfold State.retirePulse; split <;> simp
@[simp] theorem State.retirePulse_lost (s : State) (k : Retirement) : (s.retirePulse k).lost = s.lost := by
  unfold State.retirePulse; split <;> simp
@[simp] theorem State.retirePulse_casingMismatch (s : State) (k : Retirement) : (s.retirePulse k).casingMismatch = s.casingMismatch := by
  unfold State.retirePulse; split <;> simp
@[simp] theorem State.retirePulse_jacketingMismatch (s : State) (k : Retirement) : (s.retirePulse k).jacketingMismatch = s.jacketingMismatch := by
  unfold State.retirePulse; split <;> simp
@[simp] theorem State.retirePulse_gateQueue (s : State) (k : Retirement) : (s.retirePulse k).gateQueue = s.gateQueue := by
  unfold State.retirePulse; split <;> simp
@[simp] theorem State.retirePulse_gateInFlight (s : State) (k : Retirement) : (s.retirePulse k).gateInFlight = s.gateInFlight := by
  unfold State.retirePulse; split <;> simp
@[simp] theorem State.retirePulse_stations (s : State) (k : Retirement) : (s.retirePulse k).stations = s.stations := by
  unfold State.retirePulse; split <;> simp
@[simp] theorem State.retirePulse_link (s : State) (k : Retirement) : (s.retirePulse k).link = s.link := by
  unfold State.retirePulse; split <;> simp
@[simp] theorem State.retirePulse_check (s : State) (k : Retirement) : (s.retirePulse k).check = s.check := by
  unfold State.retirePulse; split <;> simp
@[simp] theorem State.retirePulse_flags (s : State) (k : Retirement) : (s.retirePulse k).flags = s.flags := by
  unfold State.retirePulse; split <;> simp
@[simp] theorem State.retirePulse_enables (s : State) (k : Retirement) : (s.retirePulse k).enables = s.enables := by
  unfold State.retirePulse; split <;> simp
@[simp] theorem State.retirePulse_response (s : State) (k : Retirement) : (s.retirePulse k).response = s.response := by
  unfold State.retirePulse; split <;> simp
@[simp] theorem State.retirePulse_clockedOut (s : State) (k : Retirement) : (s.retirePulse k).clockedOut = s.clockedOut := by
  unfold State.retirePulse; split <;> simp
@[simp] theorem State.retirePulse_pending (s : State) (k : Retirement) : (s.retirePulse k).pending = s.pending := by
  unfold State.retirePulse; split <;> simp

/-! ### retire -/

@[simp] theorem State.retire_timeBase (s : State) (k : Retirement) (t : Tag) : (s.retire k t).timeBase = s.timeBase := by
  unfold State.retire; split <;> simp
@[simp] theorem State.retire_admissionCounter (s : State) (k : Retirement) (t : Tag) : (s.retire k t).admissionCounter = s.admissionCounter := by
  unfold State.retire; split <;> simp
@[simp] theorem State.retire_classTable (s : State) (k : Retirement) (t : Tag) : (s.retire k t).classTable = s.classTable := by
  unfold State.retire; split <;> simp
@[simp] theorem State.retire_filter (s : State) (k : Retirement) (t : Tag) : (s.retire k t).filter = s.filter := by
  unfold State.retire; split <;> simp
@[simp] theorem State.retire_z3Mode (s : State) (k : Retirement) (t : Tag) : (s.retire k t).z3Mode = s.z3Mode := by
  unfold State.retire; split <;> simp
@[simp] theorem State.retire_casingMismatch (s : State) (k : Retirement) (t : Tag) : (s.retire k t).casingMismatch = s.casingMismatch := by
  unfold State.retire; split <;> simp
@[simp] theorem State.retire_jacketingMismatch (s : State) (k : Retirement) (t : Tag) : (s.retire k t).jacketingMismatch = s.jacketingMismatch := by
  unfold State.retire; split <;> simp
@[simp] theorem State.retire_gateInFlight (s : State) (k : Retirement) (t : Tag) : (s.retire k t).gateInFlight = s.gateInFlight := by
  unfold State.retire; split <;> simp
@[simp] theorem State.retire_link (s : State) (k : Retirement) (t : Tag) : (s.retire k t).link = s.link := by
  unfold State.retire; split <;> simp
@[simp] theorem State.retire_check (s : State) (k : Retirement) (t : Tag) : (s.retire k t).check = s.check := by
  unfold State.retire; split <;> simp
@[simp] theorem State.retire_enables (s : State) (k : Retirement) (t : Tag) : (s.retire k t).enables = s.enables := by
  unfold State.retire; split <;> simp
@[simp] theorem State.retire_response (s : State) (k : Retirement) (t : Tag) : (s.retire k t).response = s.response := by
  unfold State.retire; split <;> simp
@[simp] theorem State.retire_clockedOut (s : State) (k : Retirement) (t : Tag) : (s.retire k t).clockedOut = s.clockedOut := by
  unfold State.retire; split <;> simp
@[simp] theorem State.retire_pending (s : State) (k : Retirement) (t : Tag) : (s.retire k t).pending = s.pending := by
  unfold State.retire; split <;> simp

/-! ### retireAll -/

@[simp] theorem State.retireAll_timeBase (s : State) (k : Retirement) (ts : List Tag) : (s.retireAll k ts).timeBase = s.timeBase := by
  induction ts generalizing s with
  | nil => rfl
  | cons t ts ih => simp only [State.retireAll, List.foldl_cons] at ih ⊢; rw [ih]; simp
@[simp] theorem State.retireAll_admissionCounter (s : State) (k : Retirement) (ts : List Tag) : (s.retireAll k ts).admissionCounter = s.admissionCounter := by
  induction ts generalizing s with
  | nil => rfl
  | cons t ts ih => simp only [State.retireAll, List.foldl_cons] at ih ⊢; rw [ih]; simp
@[simp] theorem State.retireAll_classTable (s : State) (k : Retirement) (ts : List Tag) : (s.retireAll k ts).classTable = s.classTable := by
  induction ts generalizing s with
  | nil => rfl
  | cons t ts ih => simp only [State.retireAll, List.foldl_cons] at ih ⊢; rw [ih]; simp
@[simp] theorem State.retireAll_filter (s : State) (k : Retirement) (ts : List Tag) : (s.retireAll k ts).filter = s.filter := by
  induction ts generalizing s with
  | nil => rfl
  | cons t ts ih => simp only [State.retireAll, List.foldl_cons] at ih ⊢; rw [ih]; simp
@[simp] theorem State.retireAll_z3Mode (s : State) (k : Retirement) (ts : List Tag) : (s.retireAll k ts).z3Mode = s.z3Mode := by
  induction ts generalizing s with
  | nil => rfl
  | cons t ts ih => simp only [State.retireAll, List.foldl_cons] at ih ⊢; rw [ih]; simp
@[simp] theorem State.retireAll_casingMismatch (s : State) (k : Retirement) (ts : List Tag) : (s.retireAll k ts).casingMismatch = s.casingMismatch := by
  induction ts generalizing s with
  | nil => rfl
  | cons t ts ih => simp only [State.retireAll, List.foldl_cons] at ih ⊢; rw [ih]; simp
@[simp] theorem State.retireAll_jacketingMismatch (s : State) (k : Retirement) (ts : List Tag) : (s.retireAll k ts).jacketingMismatch = s.jacketingMismatch := by
  induction ts generalizing s with
  | nil => rfl
  | cons t ts ih => simp only [State.retireAll, List.foldl_cons] at ih ⊢; rw [ih]; simp
@[simp] theorem State.retireAll_gateInFlight (s : State) (k : Retirement) (ts : List Tag) : (s.retireAll k ts).gateInFlight = s.gateInFlight := by
  induction ts generalizing s with
  | nil => rfl
  | cons t ts ih => simp only [State.retireAll, List.foldl_cons] at ih ⊢; rw [ih]; simp
@[simp] theorem State.retireAll_link (s : State) (k : Retirement) (ts : List Tag) : (s.retireAll k ts).link = s.link := by
  induction ts generalizing s with
  | nil => rfl
  | cons t ts ih => simp only [State.retireAll, List.foldl_cons] at ih ⊢; rw [ih]; simp
@[simp] theorem State.retireAll_check (s : State) (k : Retirement) (ts : List Tag) : (s.retireAll k ts).check = s.check := by
  induction ts generalizing s with
  | nil => rfl
  | cons t ts ih => simp only [State.retireAll, List.foldl_cons] at ih ⊢; rw [ih]; simp
@[simp] theorem State.retireAll_enables (s : State) (k : Retirement) (ts : List Tag) : (s.retireAll k ts).enables = s.enables := by
  induction ts generalizing s with
  | nil => rfl
  | cons t ts ih => simp only [State.retireAll, List.foldl_cons] at ih ⊢; rw [ih]; simp
@[simp] theorem State.retireAll_response (s : State) (k : Retirement) (ts : List Tag) : (s.retireAll k ts).response = s.response := by
  induction ts generalizing s with
  | nil => rfl
  | cons t ts ih => simp only [State.retireAll, List.foldl_cons] at ih ⊢; rw [ih]; simp
@[simp] theorem State.retireAll_clockedOut (s : State) (k : Retirement) (ts : List Tag) : (s.retireAll k ts).clockedOut = s.clockedOut := by
  induction ts generalizing s with
  | nil => rfl
  | cons t ts ih => simp only [State.retireAll, List.foldl_cons] at ih ⊢; rw [ih]; simp
@[simp] theorem State.retireAll_pending (s : State) (k : Retirement) (ts : List Tag) : (s.retireAll k ts).pending = s.pending := by
  induction ts generalizing s with
  | nil => rfl
  | cons t ts ih => simp only [State.retireAll, List.foldl_cons] at ih ⊢; rw [ih]; simp

/-! ### divertUnconfirmed -/

@[simp] theorem State.divertUnconfirmed_timeBase (s : State) (t : Tag) : (s.divertUnconfirmed t).timeBase = s.timeBase := by
  unfold State.divertUnconfirmed; simp
@[simp] theorem State.divertUnconfirmed_admissionCounter (s : State) (t : Tag) : (s.divertUnconfirmed t).admissionCounter = s.admissionCounter := by
  unfold State.divertUnconfirmed; simp
@[simp] theorem State.divertUnconfirmed_classTable (s : State) (t : Tag) : (s.divertUnconfirmed t).classTable = s.classTable := by
  unfold State.divertUnconfirmed; simp
@[simp] theorem State.divertUnconfirmed_filter (s : State) (t : Tag) : (s.divertUnconfirmed t).filter = s.filter := by
  unfold State.divertUnconfirmed; simp
@[simp] theorem State.divertUnconfirmed_z3Mode (s : State) (t : Tag) : (s.divertUnconfirmed t).z3Mode = s.z3Mode := by
  unfold State.divertUnconfirmed; simp
@[simp] theorem State.divertUnconfirmed_casingMismatch (s : State) (t : Tag) : (s.divertUnconfirmed t).casingMismatch = s.casingMismatch := by
  unfold State.divertUnconfirmed; simp
@[simp] theorem State.divertUnconfirmed_jacketingMismatch (s : State) (t : Tag) : (s.divertUnconfirmed t).jacketingMismatch = s.jacketingMismatch := by
  unfold State.divertUnconfirmed; simp
@[simp] theorem State.divertUnconfirmed_gateInFlight (s : State) (t : Tag) : (s.divertUnconfirmed t).gateInFlight = s.gateInFlight := by
  unfold State.divertUnconfirmed; simp
@[simp] theorem State.divertUnconfirmed_link (s : State) (t : Tag) : (s.divertUnconfirmed t).link = s.link := by
  unfold State.divertUnconfirmed; simp
@[simp] theorem State.divertUnconfirmed_check (s : State) (t : Tag) : (s.divertUnconfirmed t).check = s.check := by
  unfold State.divertUnconfirmed; simp
@[simp] theorem State.divertUnconfirmed_enables (s : State) (t : Tag) : (s.divertUnconfirmed t).enables = s.enables := by
  unfold State.divertUnconfirmed; simp
@[simp] theorem State.divertUnconfirmed_response (s : State) (t : Tag) : (s.divertUnconfirmed t).response = s.response := by
  unfold State.divertUnconfirmed; simp
@[simp] theorem State.divertUnconfirmed_clockedOut (s : State) (t : Tag) : (s.divertUnconfirmed t).clockedOut = s.clockedOut := by
  unfold State.divertUnconfirmed; simp
@[simp] theorem State.divertUnconfirmed_pending (s : State) (t : Tag) : (s.divertUnconfirmed t).pending = s.pending := by
  unfold State.divertUnconfirmed; simp

/-! ### divertAllUnconfirmed -/

@[simp] theorem State.divertAllUnconfirmed_timeBase (s : State) (ts : List Tag) : (s.divertAllUnconfirmed ts).timeBase = s.timeBase := by
  induction ts generalizing s with
  | nil => rfl
  | cons t ts ih => simp only [State.divertAllUnconfirmed, List.foldl_cons] at ih ⊢; rw [ih]; simp
@[simp] theorem State.divertAllUnconfirmed_admissionCounter (s : State) (ts : List Tag) : (s.divertAllUnconfirmed ts).admissionCounter = s.admissionCounter := by
  induction ts generalizing s with
  | nil => rfl
  | cons t ts ih => simp only [State.divertAllUnconfirmed, List.foldl_cons] at ih ⊢; rw [ih]; simp
@[simp] theorem State.divertAllUnconfirmed_classTable (s : State) (ts : List Tag) : (s.divertAllUnconfirmed ts).classTable = s.classTable := by
  induction ts generalizing s with
  | nil => rfl
  | cons t ts ih => simp only [State.divertAllUnconfirmed, List.foldl_cons] at ih ⊢; rw [ih]; simp
@[simp] theorem State.divertAllUnconfirmed_filter (s : State) (ts : List Tag) : (s.divertAllUnconfirmed ts).filter = s.filter := by
  induction ts generalizing s with
  | nil => rfl
  | cons t ts ih => simp only [State.divertAllUnconfirmed, List.foldl_cons] at ih ⊢; rw [ih]; simp
@[simp] theorem State.divertAllUnconfirmed_z3Mode (s : State) (ts : List Tag) : (s.divertAllUnconfirmed ts).z3Mode = s.z3Mode := by
  induction ts generalizing s with
  | nil => rfl
  | cons t ts ih => simp only [State.divertAllUnconfirmed, List.foldl_cons] at ih ⊢; rw [ih]; simp
@[simp] theorem State.divertAllUnconfirmed_casingMismatch (s : State) (ts : List Tag) : (s.divertAllUnconfirmed ts).casingMismatch = s.casingMismatch := by
  induction ts generalizing s with
  | nil => rfl
  | cons t ts ih => simp only [State.divertAllUnconfirmed, List.foldl_cons] at ih ⊢; rw [ih]; simp
@[simp] theorem State.divertAllUnconfirmed_jacketingMismatch (s : State) (ts : List Tag) : (s.divertAllUnconfirmed ts).jacketingMismatch = s.jacketingMismatch := by
  induction ts generalizing s with
  | nil => rfl
  | cons t ts ih => simp only [State.divertAllUnconfirmed, List.foldl_cons] at ih ⊢; rw [ih]; simp
@[simp] theorem State.divertAllUnconfirmed_gateInFlight (s : State) (ts : List Tag) : (s.divertAllUnconfirmed ts).gateInFlight = s.gateInFlight := by
  induction ts generalizing s with
  | nil => rfl
  | cons t ts ih => simp only [State.divertAllUnconfirmed, List.foldl_cons] at ih ⊢; rw [ih]; simp
@[simp] theorem State.divertAllUnconfirmed_link (s : State) (ts : List Tag) : (s.divertAllUnconfirmed ts).link = s.link := by
  induction ts generalizing s with
  | nil => rfl
  | cons t ts ih => simp only [State.divertAllUnconfirmed, List.foldl_cons] at ih ⊢; rw [ih]; simp
@[simp] theorem State.divertAllUnconfirmed_check (s : State) (ts : List Tag) : (s.divertAllUnconfirmed ts).check = s.check := by
  induction ts generalizing s with
  | nil => rfl
  | cons t ts ih => simp only [State.divertAllUnconfirmed, List.foldl_cons] at ih ⊢; rw [ih]; simp
@[simp] theorem State.divertAllUnconfirmed_enables (s : State) (ts : List Tag) : (s.divertAllUnconfirmed ts).enables = s.enables := by
  induction ts generalizing s with
  | nil => rfl
  | cons t ts ih => simp only [State.divertAllUnconfirmed, List.foldl_cons] at ih ⊢; rw [ih]; simp
@[simp] theorem State.divertAllUnconfirmed_response (s : State) (ts : List Tag) : (s.divertAllUnconfirmed ts).response = s.response := by
  induction ts generalizing s with
  | nil => rfl
  | cons t ts ih => simp only [State.divertAllUnconfirmed, List.foldl_cons] at ih ⊢; rw [ih]; simp
@[simp] theorem State.divertAllUnconfirmed_clockedOut (s : State) (ts : List Tag) : (s.divertAllUnconfirmed ts).clockedOut = s.clockedOut := by
  induction ts generalizing s with
  | nil => rfl
  | cons t ts ih => simp only [State.divertAllUnconfirmed, List.foldl_cons] at ih ⊢; rw [ih]; simp
@[simp] theorem State.divertAllUnconfirmed_pending (s : State) (ts : List Tag) : (s.divertAllUnconfirmed ts).pending = s.pending := by
  induction ts generalizing s with
  | nil => rfl
  | cons t ts ih => simp only [State.divertAllUnconfirmed, List.foldl_cons] at ih ⊢; rw [ih]; simp

/-! ### handOver -/

@[simp] theorem State.handOver_timeBase (s : State) (z : ConveyorZone) (t : Tag) : (s.handOver z t).timeBase = s.timeBase := by
  unfold State.handOver; split <;> (try split) <;> simp
@[simp] theorem State.handOver_admissionCounter (s : State) (z : ConveyorZone) (t : Tag) : (s.handOver z t).admissionCounter = s.admissionCounter := by
  unfold State.handOver; split <;> (try split) <;> simp
@[simp] theorem State.handOver_classTable (s : State) (z : ConveyorZone) (t : Tag) : (s.handOver z t).classTable = s.classTable := by
  unfold State.handOver; split <;> (try split) <;> simp
@[simp] theorem State.handOver_filter (s : State) (z : ConveyorZone) (t : Tag) : (s.handOver z t).filter = s.filter := by
  unfold State.handOver; split <;> (try split) <;> simp
@[simp] theorem State.handOver_z3Mode (s : State) (z : ConveyorZone) (t : Tag) : (s.handOver z t).z3Mode = s.z3Mode := by
  unfold State.handOver; split <;> (try split) <;> simp
@[simp] theorem State.handOver_casingMismatch (s : State) (z : ConveyorZone) (t : Tag) : (s.handOver z t).casingMismatch = s.casingMismatch := by
  unfold State.handOver; split <;> (try split) <;> simp
@[simp] theorem State.handOver_jacketingMismatch (s : State) (z : ConveyorZone) (t : Tag) : (s.handOver z t).jacketingMismatch = s.jacketingMismatch := by
  unfold State.handOver; split <;> (try split) <;> simp
@[simp] theorem State.handOver_gateInFlight (s : State) (z : ConveyorZone) (t : Tag) : (s.handOver z t).gateInFlight = s.gateInFlight := by
  unfold State.handOver; split <;> (try split) <;> simp
@[simp] theorem State.handOver_link (s : State) (z : ConveyorZone) (t : Tag) : (s.handOver z t).link = s.link := by
  unfold State.handOver; split <;> (try split) <;> simp
@[simp] theorem State.handOver_check (s : State) (z : ConveyorZone) (t : Tag) : (s.handOver z t).check = s.check := by
  unfold State.handOver; split <;> (try split) <;> simp
@[simp] theorem State.handOver_enables (s : State) (z : ConveyorZone) (t : Tag) : (s.handOver z t).enables = s.enables := by
  unfold State.handOver; split <;> (try split) <;> simp
@[simp] theorem State.handOver_response (s : State) (z : ConveyorZone) (t : Tag) : (s.handOver z t).response = s.response := by
  unfold State.handOver; split <;> (try split) <;> simp
@[simp] theorem State.handOver_clockedOut (s : State) (z : ConveyorZone) (t : Tag) : (s.handOver z t).clockedOut = s.clockedOut := by
  unfold State.handOver; split <;> (try split) <;> simp
@[simp] theorem State.handOver_pending (s : State) (z : ConveyorZone) (t : Tag) : (s.handOver z t).pending = s.pending := by
  unfold State.handOver; split <;> (try split) <;> simp

/-! ### enterReset -/

@[simp] theorem State.enterReset_timeBase (s : State) (z : Zone) : (s.enterReset z).timeBase = s.timeBase := by
  unfold State.enterReset; split
  · rfl
  · cases z <;> simp
@[simp] theorem State.enterReset_admissionCounter (s : State) (z : Zone) : (s.enterReset z).admissionCounter = s.admissionCounter := by
  unfold State.enterReset; split
  · rfl
  · cases z <;> simp
@[simp] theorem State.enterReset_classTable (s : State) (z : Zone) : (s.enterReset z).classTable = s.classTable := by
  unfold State.enterReset; split
  · rfl
  · cases z <;> simp
@[simp] theorem State.enterReset_filter (s : State) (z : Zone) : (s.enterReset z).filter = s.filter := by
  unfold State.enterReset; split
  · rfl
  · cases z <;> simp
@[simp] theorem State.enterReset_gateInFlight (s : State) (z : Zone) : (s.enterReset z).gateInFlight = s.gateInFlight := by
  unfold State.enterReset; split
  · rfl
  · cases z <;> simp
@[simp] theorem State.enterReset_link (s : State) (z : Zone) : (s.enterReset z).link = s.link := by
  unfold State.enterReset; split
  · rfl
  · cases z <;> simp
@[simp] theorem State.enterReset_check (s : State) (z : Zone) : (s.enterReset z).check = s.check := by
  unfold State.enterReset; split
  · rfl
  · cases z <;> simp
@[simp] theorem State.enterReset_enables (s : State) (z : Zone) : (s.enterReset z).enables = s.enables := by
  unfold State.enterReset; split
  · rfl
  · cases z <;> simp
@[simp] theorem State.enterReset_response (s : State) (z : Zone) : (s.enterReset z).response = s.response := by
  unfold State.enterReset; split
  · rfl
  · cases z <;> simp
@[simp] theorem State.enterReset_clockedOut (s : State) (z : Zone) : (s.enterReset z).clockedOut = s.clockedOut := by
  unfold State.enterReset; split
  · rfl
  · cases z <;> simp
@[simp] theorem State.enterReset_pending (s : State) (z : Zone) : (s.enterReset z).pending = s.pending := by
  unfold State.enterReset; split
  · rfl
  · cases z <;> simp

/-! ### offerJawRelease -/

@[simp] theorem State.offerJawRelease_timeBase (s : State) : (s.offerJawRelease).timeBase = s.timeBase := by
  unfold State.offerJawRelease; split
  · rfl
  · simp only []; split <;> simp
@[simp] theorem State.offerJawRelease_pool (s : State) : (s.offerJawRelease).pool = s.pool := by
  unfold State.offerJawRelease; split
  · rfl
  · simp only []; split <;> simp
@[simp] theorem State.offerJawRelease_admissionCounter (s : State) : (s.offerJawRelease).admissionCounter = s.admissionCounter := by
  unfold State.offerJawRelease; split
  · rfl
  · simp only []; split <;> simp
@[simp] theorem State.offerJawRelease_jobs (s : State) : (s.offerJawRelease).jobs = s.jobs := by
  unfold State.offerJawRelease; split
  · rfl
  · simp only []; split <;> simp
@[simp] theorem State.offerJawRelease_copyTables (s : State) : (s.offerJawRelease).copyTables = s.copyTables := by
  unfold State.offerJawRelease; split
  · rfl
  · simp only []; split <;> simp
@[simp] theorem State.offerJawRelease_classTable (s : State) : (s.offerJawRelease).classTable = s.classTable := by
  unfold State.offerJawRelease; split
  · rfl
  · simp only []; split <;> simp
@[simp] theorem State.offerJawRelease_filter (s : State) : (s.offerJawRelease).filter = s.filter := by
  unfold State.offerJawRelease; split
  · rfl
  · simp only []; split <;> simp
@[simp] theorem State.offerJawRelease_press (s : State) : (s.offerJawRelease).press = s.press := by
  unfold State.offerJawRelease; split
  · rfl
  · simp only []; split <;> simp
@[simp] theorem State.offerJawRelease_z1 (s : State) : (s.offerJawRelease).z1 = s.z1 := by
  unfold State.offerJawRelease; split
  · rfl
  · simp only []; split <;> simp
@[simp] theorem State.offerJawRelease_z2 (s : State) : (s.offerJawRelease).z2 = s.z2 := by
  unfold State.offerJawRelease; split
  · rfl
  · simp only []; split <;> simp
@[simp] theorem State.offerJawRelease_z4 (s : State) : (s.offerJawRelease).z4 = s.z4 := by
  unfold State.offerJawRelease; split
  · rfl
  · simp only []; split <;> simp
@[simp] theorem State.offerJawRelease_z5 (s : State) : (s.offerJawRelease).z5 = s.z5 := by
  unfold State.offerJawRelease; split
  · rfl
  · simp only []; split <;> simp
@[simp] theorem State.offerJawRelease_z3Mode (s : State) : (s.offerJawRelease).z3Mode = s.z3Mode := by
  unfold State.offerJawRelease; split
  · rfl
  · simp only []; split <;> simp
@[simp] theorem State.offerJawRelease_casing (s : State) : (s.offerJawRelease).casing = s.casing := by
  unfold State.offerJawRelease; split
  · rfl
  · simp only []; split <;> simp
@[simp] theorem State.offerJawRelease_pressEntry (s : State) : (s.offerJawRelease).pressEntry = s.pressEntry := by
  unfold State.offerJawRelease; split
  · rfl
  · simp only []; split <;> simp
@[simp] theorem State.offerJawRelease_jacketing (s : State) : (s.offerJawRelease).jacketing = s.jacketing := by
  unfold State.offerJawRelease; split
  · rfl
  · simp only []; split <;> simp
@[simp] theorem State.offerJawRelease_lost (s : State) : (s.offerJawRelease).lost = s.lost := by
  unfold State.offerJawRelease; split
  · rfl
  · simp only []; split <;> simp
@[simp] theorem State.offerJawRelease_casingMismatch (s : State) : (s.offerJawRelease).casingMismatch = s.casingMismatch := by
  unfold State.offerJawRelease; split
  · rfl
  · simp only []; split <;> simp
@[simp] theorem State.offerJawRelease_jacketingMismatch (s : State) : (s.offerJawRelease).jacketingMismatch = s.jacketingMismatch := by
  unfold State.offerJawRelease; split
  · rfl
  · simp only []; split <;> simp
@[simp] theorem State.offerJawRelease_gateQueue (s : State) : (s.offerJawRelease).gateQueue = s.gateQueue := by
  unfold State.offerJawRelease; split
  · rfl
  · simp only []; split <;> simp
@[simp] theorem State.offerJawRelease_gateInFlight (s : State) : (s.offerJawRelease).gateInFlight = s.gateInFlight := by
  unfold State.offerJawRelease; split
  · rfl
  · simp only []; split <;> simp
@[simp] theorem State.offerJawRelease_link (s : State) : (s.offerJawRelease).link = s.link := by
  unfold State.offerJawRelease; split
  · rfl
  · simp only []; split <;> simp
@[simp] theorem State.offerJawRelease_check (s : State) : (s.offerJawRelease).check = s.check := by
  unfold State.offerJawRelease; split
  · rfl
  · simp only []; split <;> simp
@[simp] theorem State.offerJawRelease_flags (s : State) : (s.offerJawRelease).flags = s.flags := by
  unfold State.offerJawRelease; split
  · rfl
  · simp only []; split <;> simp
@[simp] theorem State.offerJawRelease_enables (s : State) : (s.offerJawRelease).enables = s.enables := by
  unfold State.offerJawRelease; split
  · rfl
  · simp only []; split <;> simp
@[simp] theorem State.offerJawRelease_lamps (s : State) : (s.offerJawRelease).lamps = s.lamps := by
  unfold State.offerJawRelease; split
  · rfl
  · simp only []; split <;> simp
@[simp] theorem State.offerJawRelease_response (s : State) : (s.offerJawRelease).response = s.response := by
  unfold State.offerJawRelease; split
  · rfl
  · simp only []; split <;> simp
@[simp] theorem State.offerJawRelease_clockedOut (s : State) : (s.offerJawRelease).clockedOut = s.clockedOut := by
  unfold State.offerJawRelease; split
  · rfl
  · simp only []; split <;> simp
@[simp] theorem State.offerJawRelease_pending (s : State) : (s.offerJawRelease).pending = s.pending := by
  unfold State.offerJawRelease; split
  · rfl
  · simp only []; split <;> simp

/-! ### takeOverdwell -/

@[simp] theorem State.takeOverdwell_timeBase (s : State) : (s.takeOverdwell).timeBase = s.timeBase := by
  unfold State.takeOverdwell; simp
@[simp] theorem State.takeOverdwell_admissionCounter (s : State) : (s.takeOverdwell).admissionCounter = s.admissionCounter := by
  unfold State.takeOverdwell; simp
@[simp] theorem State.takeOverdwell_jobs (s : State) : (s.takeOverdwell).jobs = s.jobs := by
  unfold State.takeOverdwell; simp
@[simp] theorem State.takeOverdwell_copyTables (s : State) : (s.takeOverdwell).copyTables = s.copyTables := by
  unfold State.takeOverdwell; simp
@[simp] theorem State.takeOverdwell_classTable (s : State) : (s.takeOverdwell).classTable = s.classTable := by
  unfold State.takeOverdwell; simp
@[simp] theorem State.takeOverdwell_filter (s : State) : (s.takeOverdwell).filter = s.filter := by
  unfold State.takeOverdwell; simp
@[simp] theorem State.takeOverdwell_z1 (s : State) : (s.takeOverdwell).z1 = s.z1 := by
  unfold State.takeOverdwell; simp
@[simp] theorem State.takeOverdwell_z2 (s : State) : (s.takeOverdwell).z2 = s.z2 := by
  unfold State.takeOverdwell; simp
@[simp] theorem State.takeOverdwell_z4 (s : State) : (s.takeOverdwell).z4 = s.z4 := by
  unfold State.takeOverdwell; simp
@[simp] theorem State.takeOverdwell_z5 (s : State) : (s.takeOverdwell).z5 = s.z5 := by
  unfold State.takeOverdwell; simp
@[simp] theorem State.takeOverdwell_z3Mode (s : State) : (s.takeOverdwell).z3Mode = s.z3Mode := by
  unfold State.takeOverdwell; simp
@[simp] theorem State.takeOverdwell_casing (s : State) : (s.takeOverdwell).casing = s.casing := by
  unfold State.takeOverdwell; simp
@[simp] theorem State.takeOverdwell_pressEntry (s : State) : (s.takeOverdwell).pressEntry = s.pressEntry := by
  unfold State.takeOverdwell; simp
@[simp] theorem State.takeOverdwell_jacketing (s : State) : (s.takeOverdwell).jacketing = s.jacketing := by
  unfold State.takeOverdwell; simp
@[simp] theorem State.takeOverdwell_lost (s : State) : (s.takeOverdwell).lost = s.lost := by
  unfold State.takeOverdwell; simp
@[simp] theorem State.takeOverdwell_casingMismatch (s : State) : (s.takeOverdwell).casingMismatch = s.casingMismatch := by
  unfold State.takeOverdwell; simp
@[simp] theorem State.takeOverdwell_jacketingMismatch (s : State) : (s.takeOverdwell).jacketingMismatch = s.jacketingMismatch := by
  unfold State.takeOverdwell; simp
@[simp] theorem State.takeOverdwell_gateQueue (s : State) : (s.takeOverdwell).gateQueue = s.gateQueue := by
  unfold State.takeOverdwell; simp
@[simp] theorem State.takeOverdwell_gateInFlight (s : State) : (s.takeOverdwell).gateInFlight = s.gateInFlight := by
  unfold State.takeOverdwell; simp
@[simp] theorem State.takeOverdwell_link (s : State) : (s.takeOverdwell).link = s.link := by
  unfold State.takeOverdwell; simp
@[simp] theorem State.takeOverdwell_check (s : State) : (s.takeOverdwell).check = s.check := by
  unfold State.takeOverdwell; simp
@[simp] theorem State.takeOverdwell_enables (s : State) : (s.takeOverdwell).enables = s.enables := by
  unfold State.takeOverdwell; simp
@[simp] theorem State.takeOverdwell_lamps (s : State) : (s.takeOverdwell).lamps = s.lamps := by
  unfold State.takeOverdwell; simp
@[simp] theorem State.takeOverdwell_response (s : State) : (s.takeOverdwell).response = s.response := by
  unfold State.takeOverdwell; simp
@[simp] theorem State.takeOverdwell_clockedOut (s : State) : (s.takeOverdwell).clockedOut = s.clockedOut := by
  unfold State.takeOverdwell; simp
@[simp] theorem State.takeOverdwell_pending (s : State) : (s.takeOverdwell).pending = s.pending := by
  unfold State.takeOverdwell; simp

/-! ### qualifyClose -/

@[simp] theorem State.qualifyClose_timeBase (s : State) (c : Word32) : (s.qualifyClose c).timeBase = s.timeBase := by
  unfold State.qualifyClose; simp only []; split <;> simp
@[simp] theorem State.qualifyClose_admissionCounter (s : State) (c : Word32) : (s.qualifyClose c).admissionCounter = s.admissionCounter := by
  unfold State.qualifyClose; simp only []; split <;> simp
@[simp] theorem State.qualifyClose_jobs (s : State) (c : Word32) : (s.qualifyClose c).jobs = s.jobs := by
  unfold State.qualifyClose; simp only []; split <;> simp
@[simp] theorem State.qualifyClose_copyTables (s : State) (c : Word32) : (s.qualifyClose c).copyTables = s.copyTables := by
  unfold State.qualifyClose; simp only []; split <;> simp
@[simp] theorem State.qualifyClose_classTable (s : State) (c : Word32) : (s.qualifyClose c).classTable = s.classTable := by
  unfold State.qualifyClose; simp only []; split <;> simp
@[simp] theorem State.qualifyClose_filter (s : State) (c : Word32) : (s.qualifyClose c).filter = s.filter := by
  unfold State.qualifyClose; simp only []; split <;> simp
@[simp] theorem State.qualifyClose_z1 (s : State) (c : Word32) : (s.qualifyClose c).z1 = s.z1 := by
  unfold State.qualifyClose; simp only []; split <;> simp
@[simp] theorem State.qualifyClose_z2 (s : State) (c : Word32) : (s.qualifyClose c).z2 = s.z2 := by
  unfold State.qualifyClose; simp only []; split <;> simp
@[simp] theorem State.qualifyClose_z4 (s : State) (c : Word32) : (s.qualifyClose c).z4 = s.z4 := by
  unfold State.qualifyClose; simp only []; split <;> simp
@[simp] theorem State.qualifyClose_z5 (s : State) (c : Word32) : (s.qualifyClose c).z5 = s.z5 := by
  unfold State.qualifyClose; simp only []; split <;> simp
@[simp] theorem State.qualifyClose_z3Mode (s : State) (c : Word32) : (s.qualifyClose c).z3Mode = s.z3Mode := by
  unfold State.qualifyClose; simp only []; split <;> simp
@[simp] theorem State.qualifyClose_casing (s : State) (c : Word32) : (s.qualifyClose c).casing = s.casing := by
  unfold State.qualifyClose; simp only []; split <;> simp
@[simp] theorem State.qualifyClose_pressEntry (s : State) (c : Word32) : (s.qualifyClose c).pressEntry = s.pressEntry := by
  unfold State.qualifyClose; simp only []; split <;> simp
@[simp] theorem State.qualifyClose_jacketing (s : State) (c : Word32) : (s.qualifyClose c).jacketing = s.jacketing := by
  unfold State.qualifyClose; simp only []; split <;> simp
@[simp] theorem State.qualifyClose_lost (s : State) (c : Word32) : (s.qualifyClose c).lost = s.lost := by
  unfold State.qualifyClose; simp only []; split <;> simp
@[simp] theorem State.qualifyClose_casingMismatch (s : State) (c : Word32) : (s.qualifyClose c).casingMismatch = s.casingMismatch := by
  unfold State.qualifyClose; simp only []; split <;> simp
@[simp] theorem State.qualifyClose_jacketingMismatch (s : State) (c : Word32) : (s.qualifyClose c).jacketingMismatch = s.jacketingMismatch := by
  unfold State.qualifyClose; simp only []; split <;> simp
@[simp] theorem State.qualifyClose_gateQueue (s : State) (c : Word32) : (s.qualifyClose c).gateQueue = s.gateQueue := by
  unfold State.qualifyClose; simp only []; split <;> simp
@[simp] theorem State.qualifyClose_gateInFlight (s : State) (c : Word32) : (s.qualifyClose c).gateInFlight = s.gateInFlight := by
  unfold State.qualifyClose; simp only []; split <;> simp
@[simp] theorem State.qualifyClose_link (s : State) (c : Word32) : (s.qualifyClose c).link = s.link := by
  unfold State.qualifyClose; simp only []; split <;> simp
@[simp] theorem State.qualifyClose_check (s : State) (c : Word32) : (s.qualifyClose c).check = s.check := by
  unfold State.qualifyClose; simp only []; split <;> simp
@[simp] theorem State.qualifyClose_enables (s : State) (c : Word32) : (s.qualifyClose c).enables = s.enables := by
  unfold State.qualifyClose; simp only []; split <;> simp
@[simp] theorem State.qualifyClose_lamps (s : State) (c : Word32) : (s.qualifyClose c).lamps = s.lamps := by
  unfold State.qualifyClose; simp only []; split <;> simp
@[simp] theorem State.qualifyClose_response (s : State) (c : Word32) : (s.qualifyClose c).response = s.response := by
  unfold State.qualifyClose; simp only []; split <;> simp
@[simp] theorem State.qualifyClose_clockedOut (s : State) (c : Word32) : (s.qualifyClose c).clockedOut = s.clockedOut := by
  unfold State.qualifyClose; simp only []; split <;> simp
@[simp] theorem State.qualifyClose_pending (s : State) (c : Word32) : (s.qualifyClose c).pending = s.pending := by
  unfold State.qualifyClose; simp only []; split <;> simp

/-! ### computeDwell -/

@[simp] theorem State.computeDwell_timeBase (s : State) (t : Tag) : (s.computeDwell t).timeBase = s.timeBase := by
  unfold State.computeDwell; split
  · rfl
  · split
    · rfl
    · simp only []; split <;> simp
@[simp] theorem State.computeDwell_admissionCounter (s : State) (t : Tag) : (s.computeDwell t).admissionCounter = s.admissionCounter := by
  unfold State.computeDwell; split
  · rfl
  · split
    · rfl
    · simp only []; split <;> simp
@[simp] theorem State.computeDwell_jobs (s : State) (t : Tag) : (s.computeDwell t).jobs = s.jobs := by
  unfold State.computeDwell; split
  · rfl
  · split
    · rfl
    · simp only []; split <;> simp
@[simp] theorem State.computeDwell_copyTables (s : State) (t : Tag) : (s.computeDwell t).copyTables = s.copyTables := by
  unfold State.computeDwell; split
  · rfl
  · split
    · rfl
    · simp only []; split <;> simp
@[simp] theorem State.computeDwell_classTable (s : State) (t : Tag) : (s.computeDwell t).classTable = s.classTable := by
  unfold State.computeDwell; split
  · rfl
  · split
    · rfl
    · simp only []; split <;> simp
@[simp] theorem State.computeDwell_filter (s : State) (t : Tag) : (s.computeDwell t).filter = s.filter := by
  unfold State.computeDwell; split
  · rfl
  · split
    · rfl
    · simp only []; split <;> simp
@[simp] theorem State.computeDwell_press (s : State) (t : Tag) : (s.computeDwell t).press = s.press := by
  unfold State.computeDwell; split
  · rfl
  · split
    · rfl
    · simp only []; split <;> simp
@[simp] theorem State.computeDwell_z1 (s : State) (t : Tag) : (s.computeDwell t).z1 = s.z1 := by
  unfold State.computeDwell; split
  · rfl
  · split
    · rfl
    · simp only []; split <;> simp
@[simp] theorem State.computeDwell_z2 (s : State) (t : Tag) : (s.computeDwell t).z2 = s.z2 := by
  unfold State.computeDwell; split
  · rfl
  · split
    · rfl
    · simp only []; split <;> simp
@[simp] theorem State.computeDwell_z4 (s : State) (t : Tag) : (s.computeDwell t).z4 = s.z4 := by
  unfold State.computeDwell; split
  · rfl
  · split
    · rfl
    · simp only []; split <;> simp
@[simp] theorem State.computeDwell_z5 (s : State) (t : Tag) : (s.computeDwell t).z5 = s.z5 := by
  unfold State.computeDwell; split
  · rfl
  · split
    · rfl
    · simp only []; split <;> simp
@[simp] theorem State.computeDwell_z3Mode (s : State) (t : Tag) : (s.computeDwell t).z3Mode = s.z3Mode := by
  unfold State.computeDwell; split
  · rfl
  · split
    · rfl
    · simp only []; split <;> simp
@[simp] theorem State.computeDwell_casing (s : State) (t : Tag) : (s.computeDwell t).casing = s.casing := by
  unfold State.computeDwell; split
  · rfl
  · split
    · rfl
    · simp only []; split <;> simp
@[simp] theorem State.computeDwell_pressEntry (s : State) (t : Tag) : (s.computeDwell t).pressEntry = s.pressEntry := by
  unfold State.computeDwell; split
  · rfl
  · split
    · rfl
    · simp only []; split <;> simp
@[simp] theorem State.computeDwell_jacketing (s : State) (t : Tag) : (s.computeDwell t).jacketing = s.jacketing := by
  unfold State.computeDwell; split
  · rfl
  · split
    · rfl
    · simp only []; split <;> simp
@[simp] theorem State.computeDwell_lost (s : State) (t : Tag) : (s.computeDwell t).lost = s.lost := by
  unfold State.computeDwell; split
  · rfl
  · split
    · rfl
    · simp only []; split <;> simp
@[simp] theorem State.computeDwell_casingMismatch (s : State) (t : Tag) : (s.computeDwell t).casingMismatch = s.casingMismatch := by
  unfold State.computeDwell; split
  · rfl
  · split
    · rfl
    · simp only []; split <;> simp
@[simp] theorem State.computeDwell_jacketingMismatch (s : State) (t : Tag) : (s.computeDwell t).jacketingMismatch = s.jacketingMismatch := by
  unfold State.computeDwell; split
  · rfl
  · split
    · rfl
    · simp only []; split <;> simp
@[simp] theorem State.computeDwell_gateQueue (s : State) (t : Tag) : (s.computeDwell t).gateQueue = s.gateQueue := by
  unfold State.computeDwell; split
  · rfl
  · split
    · rfl
    · simp only []; split <;> simp
@[simp] theorem State.computeDwell_gateInFlight (s : State) (t : Tag) : (s.computeDwell t).gateInFlight = s.gateInFlight := by
  unfold State.computeDwell; split
  · rfl
  · split
    · rfl
    · simp only []; split <;> simp
@[simp] theorem State.computeDwell_stations (s : State) (t : Tag) : (s.computeDwell t).stations = s.stations := by
  unfold State.computeDwell; split
  · rfl
  · split
    · rfl
    · simp only []; split <;> simp
@[simp] theorem State.computeDwell_link (s : State) (t : Tag) : (s.computeDwell t).link = s.link := by
  unfold State.computeDwell; split
  · rfl
  · split
    · rfl
    · simp only []; split <;> simp
@[simp] theorem State.computeDwell_check (s : State) (t : Tag) : (s.computeDwell t).check = s.check := by
  unfold State.computeDwell; split
  · rfl
  · split
    · rfl
    · simp only []; split <;> simp
@[simp] theorem State.computeDwell_enables (s : State) (t : Tag) : (s.computeDwell t).enables = s.enables := by
  unfold State.computeDwell; split
  · rfl
  · split
    · rfl
    · simp only []; split <;> simp
@[simp] theorem State.computeDwell_lamps (s : State) (t : Tag) : (s.computeDwell t).lamps = s.lamps := by
  unfold State.computeDwell; split
  · rfl
  · split
    · rfl
    · simp only []; split <;> simp
@[simp] theorem State.computeDwell_response (s : State) (t : Tag) : (s.computeDwell t).response = s.response := by
  unfold State.computeDwell; split
  · rfl
  · split
    · rfl
    · simp only []; split <;> simp
@[simp] theorem State.computeDwell_clockedOut (s : State) (t : Tag) : (s.computeDwell t).clockedOut = s.clockedOut := by
  unfold State.computeDwell; split
  · rfl
  · split
    · rfl
    · simp only []; split <;> simp
@[simp] theorem State.computeDwell_pending (s : State) (t : Tag) : (s.computeDwell t).pending = s.pending := by
  unfold State.computeDwell; split
  · rfl
  · split
    · rfl
    · simp only []; split <;> simp

/-! ### judgeDischarge -/

@[simp] theorem State.judgeDischarge_timeBase (s : State) (t : Tag) : (s.judgeDischarge t).timeBase = s.timeBase := by
  unfold State.judgeDischarge; split <;> simp
@[simp] theorem State.judgeDischarge_admissionCounter (s : State) (t : Tag) : (s.judgeDischarge t).admissionCounter = s.admissionCounter := by
  unfold State.judgeDischarge; split <;> simp
@[simp] theorem State.judgeDischarge_jobs (s : State) (t : Tag) : (s.judgeDischarge t).jobs = s.jobs := by
  unfold State.judgeDischarge; split <;> simp
@[simp] theorem State.judgeDischarge_copyTables (s : State) (t : Tag) : (s.judgeDischarge t).copyTables = s.copyTables := by
  unfold State.judgeDischarge; split <;> simp
@[simp] theorem State.judgeDischarge_classTable (s : State) (t : Tag) : (s.judgeDischarge t).classTable = s.classTable := by
  unfold State.judgeDischarge; split <;> simp
@[simp] theorem State.judgeDischarge_filter (s : State) (t : Tag) : (s.judgeDischarge t).filter = s.filter := by
  unfold State.judgeDischarge; split <;> simp
@[simp] theorem State.judgeDischarge_press (s : State) (t : Tag) : (s.judgeDischarge t).press = s.press := by
  unfold State.judgeDischarge; split <;> simp
@[simp] theorem State.judgeDischarge_z1 (s : State) (t : Tag) : (s.judgeDischarge t).z1 = s.z1 := by
  unfold State.judgeDischarge; split <;> simp
@[simp] theorem State.judgeDischarge_z2 (s : State) (t : Tag) : (s.judgeDischarge t).z2 = s.z2 := by
  unfold State.judgeDischarge; split <;> simp
@[simp] theorem State.judgeDischarge_z4 (s : State) (t : Tag) : (s.judgeDischarge t).z4 = s.z4 := by
  unfold State.judgeDischarge; split <;> simp
@[simp] theorem State.judgeDischarge_z5 (s : State) (t : Tag) : (s.judgeDischarge t).z5 = s.z5 := by
  unfold State.judgeDischarge; split <;> simp
@[simp] theorem State.judgeDischarge_z3Mode (s : State) (t : Tag) : (s.judgeDischarge t).z3Mode = s.z3Mode := by
  unfold State.judgeDischarge; split <;> simp
@[simp] theorem State.judgeDischarge_casing (s : State) (t : Tag) : (s.judgeDischarge t).casing = s.casing := by
  unfold State.judgeDischarge; split <;> simp
@[simp] theorem State.judgeDischarge_pressEntry (s : State) (t : Tag) : (s.judgeDischarge t).pressEntry = s.pressEntry := by
  unfold State.judgeDischarge; split <;> simp
@[simp] theorem State.judgeDischarge_jacketing (s : State) (t : Tag) : (s.judgeDischarge t).jacketing = s.jacketing := by
  unfold State.judgeDischarge; split <;> simp
@[simp] theorem State.judgeDischarge_lost (s : State) (t : Tag) : (s.judgeDischarge t).lost = s.lost := by
  unfold State.judgeDischarge; split <;> simp
@[simp] theorem State.judgeDischarge_casingMismatch (s : State) (t : Tag) : (s.judgeDischarge t).casingMismatch = s.casingMismatch := by
  unfold State.judgeDischarge; split <;> simp
@[simp] theorem State.judgeDischarge_jacketingMismatch (s : State) (t : Tag) : (s.judgeDischarge t).jacketingMismatch = s.jacketingMismatch := by
  unfold State.judgeDischarge; split <;> simp
@[simp] theorem State.judgeDischarge_gateQueue (s : State) (t : Tag) : (s.judgeDischarge t).gateQueue = s.gateQueue := by
  unfold State.judgeDischarge; split <;> simp
@[simp] theorem State.judgeDischarge_gateInFlight (s : State) (t : Tag) : (s.judgeDischarge t).gateInFlight = s.gateInFlight := by
  unfold State.judgeDischarge; split <;> simp
@[simp] theorem State.judgeDischarge_stations (s : State) (t : Tag) : (s.judgeDischarge t).stations = s.stations := by
  unfold State.judgeDischarge; split <;> simp
@[simp] theorem State.judgeDischarge_link (s : State) (t : Tag) : (s.judgeDischarge t).link = s.link := by
  unfold State.judgeDischarge; split <;> simp
@[simp] theorem State.judgeDischarge_check (s : State) (t : Tag) : (s.judgeDischarge t).check = s.check := by
  unfold State.judgeDischarge; split <;> simp
@[simp] theorem State.judgeDischarge_enables (s : State) (t : Tag) : (s.judgeDischarge t).enables = s.enables := by
  unfold State.judgeDischarge; split <;> simp
@[simp] theorem State.judgeDischarge_lamps (s : State) (t : Tag) : (s.judgeDischarge t).lamps = s.lamps := by
  unfold State.judgeDischarge; split <;> simp
@[simp] theorem State.judgeDischarge_response (s : State) (t : Tag) : (s.judgeDischarge t).response = s.response := by
  unfold State.judgeDischarge; split <;> simp
@[simp] theorem State.judgeDischarge_clockedOut (s : State) (t : Tag) : (s.judgeDischarge t).clockedOut = s.clockedOut := by
  unfold State.judgeDischarge; split <;> simp
@[simp] theorem State.judgeDischarge_pending (s : State) (t : Tag) : (s.judgeDischarge t).pending = s.pending := by
  unfold State.judgeDischarge; split <;> simp

/-! ### indexJaws -/

@[simp] theorem State.indexJaws_timeBase (s : State) : (s.indexJaws).timeBase = s.timeBase := by
  unfold State.indexJaws; split <;> simp
@[simp] theorem State.indexJaws_admissionCounter (s : State) : (s.indexJaws).admissionCounter = s.admissionCounter := by
  unfold State.indexJaws; split <;> simp
@[simp] theorem State.indexJaws_jobs (s : State) : (s.indexJaws).jobs = s.jobs := by
  unfold State.indexJaws; split <;> simp
@[simp] theorem State.indexJaws_copyTables (s : State) : (s.indexJaws).copyTables = s.copyTables := by
  unfold State.indexJaws; split <;> simp
@[simp] theorem State.indexJaws_classTable (s : State) : (s.indexJaws).classTable = s.classTable := by
  unfold State.indexJaws; split <;> simp
@[simp] theorem State.indexJaws_filter (s : State) : (s.indexJaws).filter = s.filter := by
  unfold State.indexJaws; split <;> simp
@[simp] theorem State.indexJaws_z1 (s : State) : (s.indexJaws).z1 = s.z1 := by
  unfold State.indexJaws; split <;> simp
@[simp] theorem State.indexJaws_z2 (s : State) : (s.indexJaws).z2 = s.z2 := by
  unfold State.indexJaws; split <;> simp
@[simp] theorem State.indexJaws_z4 (s : State) : (s.indexJaws).z4 = s.z4 := by
  unfold State.indexJaws; split <;> simp
@[simp] theorem State.indexJaws_z5 (s : State) : (s.indexJaws).z5 = s.z5 := by
  unfold State.indexJaws; split <;> simp
@[simp] theorem State.indexJaws_z3Mode (s : State) : (s.indexJaws).z3Mode = s.z3Mode := by
  unfold State.indexJaws; split <;> simp
@[simp] theorem State.indexJaws_casing (s : State) : (s.indexJaws).casing = s.casing := by
  unfold State.indexJaws; split <;> simp
@[simp] theorem State.indexJaws_pressEntry (s : State) : (s.indexJaws).pressEntry = s.pressEntry := by
  unfold State.indexJaws; split <;> simp
@[simp] theorem State.indexJaws_jacketing (s : State) : (s.indexJaws).jacketing = s.jacketing := by
  unfold State.indexJaws; split <;> simp
@[simp] theorem State.indexJaws_lost (s : State) : (s.indexJaws).lost = s.lost := by
  unfold State.indexJaws; split <;> simp
@[simp] theorem State.indexJaws_casingMismatch (s : State) : (s.indexJaws).casingMismatch = s.casingMismatch := by
  unfold State.indexJaws; split <;> simp
@[simp] theorem State.indexJaws_jacketingMismatch (s : State) : (s.indexJaws).jacketingMismatch = s.jacketingMismatch := by
  unfold State.indexJaws; split <;> simp
@[simp] theorem State.indexJaws_gateQueue (s : State) : (s.indexJaws).gateQueue = s.gateQueue := by
  unfold State.indexJaws; split <;> simp
@[simp] theorem State.indexJaws_gateInFlight (s : State) : (s.indexJaws).gateInFlight = s.gateInFlight := by
  unfold State.indexJaws; split <;> simp
@[simp] theorem State.indexJaws_stations (s : State) : (s.indexJaws).stations = s.stations := by
  unfold State.indexJaws; split <;> simp
@[simp] theorem State.indexJaws_link (s : State) : (s.indexJaws).link = s.link := by
  unfold State.indexJaws; split <;> simp
@[simp] theorem State.indexJaws_check (s : State) : (s.indexJaws).check = s.check := by
  unfold State.indexJaws; split <;> simp
@[simp] theorem State.indexJaws_enables (s : State) : (s.indexJaws).enables = s.enables := by
  unfold State.indexJaws; split <;> simp
@[simp] theorem State.indexJaws_lamps (s : State) : (s.indexJaws).lamps = s.lamps := by
  unfold State.indexJaws; split <;> simp
@[simp] theorem State.indexJaws_response (s : State) : (s.indexJaws).response = s.response := by
  unfold State.indexJaws; split <;> simp
@[simp] theorem State.indexJaws_clockedOut (s : State) : (s.indexJaws).clockedOut = s.clockedOut := by
  unfold State.indexJaws; split <;> simp
@[simp] theorem State.indexJaws_pending (s : State) : (s.indexJaws).pending = s.pending := by
  unfold State.indexJaws; split <;> simp

/-! ### discharge -/

@[simp] theorem State.discharge_timeBase (s : State) : (s.discharge).timeBase = s.timeBase := by
  unfold State.discharge; split <;> simp
@[simp] theorem State.discharge_admissionCounter (s : State) : (s.discharge).admissionCounter = s.admissionCounter := by
  unfold State.discharge; split <;> simp
@[simp] theorem State.discharge_classTable (s : State) : (s.discharge).classTable = s.classTable := by
  unfold State.discharge; split <;> simp
@[simp] theorem State.discharge_filter (s : State) : (s.discharge).filter = s.filter := by
  unfold State.discharge; split <;> simp
@[simp] theorem State.discharge_z3Mode (s : State) : (s.discharge).z3Mode = s.z3Mode := by
  unfold State.discharge; split <;> simp
@[simp] theorem State.discharge_casingMismatch (s : State) : (s.discharge).casingMismatch = s.casingMismatch := by
  unfold State.discharge; split <;> simp
@[simp] theorem State.discharge_jacketingMismatch (s : State) : (s.discharge).jacketingMismatch = s.jacketingMismatch := by
  unfold State.discharge; split <;> simp
@[simp] theorem State.discharge_gateInFlight (s : State) : (s.discharge).gateInFlight = s.gateInFlight := by
  unfold State.discharge; split <;> simp
@[simp] theorem State.discharge_link (s : State) : (s.discharge).link = s.link := by
  unfold State.discharge; split <;> simp
@[simp] theorem State.discharge_check (s : State) : (s.discharge).check = s.check := by
  unfold State.discharge; split <;> simp
@[simp] theorem State.discharge_enables (s : State) : (s.discharge).enables = s.enables := by
  unfold State.discharge; split <;> simp
@[simp] theorem State.discharge_response (s : State) : (s.discharge).response = s.response := by
  unfold State.discharge; split <;> simp
@[simp] theorem State.discharge_clockedOut (s : State) : (s.discharge).clockedOut = s.clockedOut := by
  unfold State.discharge; split <;> simp
@[simp] theorem State.discharge_pending (s : State) : (s.discharge).pending = s.pending := by
  unfold State.discharge; split <;> simp

/-! ### enterPress -/

@[simp] theorem State.enterPress_timeBase (s : State) : (s.enterPress).timeBase = s.timeBase := by
  unfold State.enterPress; split
  · rfl
  · simp only []; split <;> simp
@[simp] theorem State.enterPress_admissionCounter (s : State) : (s.enterPress).admissionCounter = s.admissionCounter := by
  unfold State.enterPress; split
  · rfl
  · simp only []; split <;> simp
@[simp] theorem State.enterPress_classTable (s : State) : (s.enterPress).classTable = s.classTable := by
  unfold State.enterPress; split
  · rfl
  · simp only []; split <;> simp
@[simp] theorem State.enterPress_filter (s : State) : (s.enterPress).filter = s.filter := by
  unfold State.enterPress; split
  · rfl
  · simp only []; split <;> simp
@[simp] theorem State.enterPress_z3Mode (s : State) : (s.enterPress).z3Mode = s.z3Mode := by
  unfold State.enterPress; split
  · rfl
  · simp only []; split <;> simp
@[simp] theorem State.enterPress_casingMismatch (s : State) : (s.enterPress).casingMismatch = s.casingMismatch := by
  unfold State.enterPress; split
  · rfl
  · simp only []; split <;> simp
@[simp] theorem State.enterPress_jacketingMismatch (s : State) : (s.enterPress).jacketingMismatch = s.jacketingMismatch := by
  unfold State.enterPress; split
  · rfl
  · simp only []; split <;> simp
@[simp] theorem State.enterPress_gateInFlight (s : State) : (s.enterPress).gateInFlight = s.gateInFlight := by
  unfold State.enterPress; split
  · rfl
  · simp only []; split <;> simp
@[simp] theorem State.enterPress_link (s : State) : (s.enterPress).link = s.link := by
  unfold State.enterPress; split
  · rfl
  · simp only []; split <;> simp
@[simp] theorem State.enterPress_check (s : State) : (s.enterPress).check = s.check := by
  unfold State.enterPress; split
  · rfl
  · simp only []; split <;> simp
@[simp] theorem State.enterPress_enables (s : State) : (s.enterPress).enables = s.enables := by
  unfold State.enterPress; split
  · rfl
  · simp only []; split <;> simp
@[simp] theorem State.enterPress_response (s : State) : (s.enterPress).response = s.response := by
  unfold State.enterPress; split
  · rfl
  · simp only []; split <;> simp
@[simp] theorem State.enterPress_clockedOut (s : State) : (s.enterPress).clockedOut = s.clockedOut := by
  unfold State.enterPress; split
  · rfl
  · simp only []; split <;> simp
@[simp] theorem State.enterPress_pending (s : State) : (s.enterPress).pending = s.pending := by
  unfold State.enterPress; split
  · rfl
  · simp only []; split <;> simp

/-! ### settleJaws -/

@[simp] theorem State.settleJaws_timeBase (s : State) (f : JawState) : (s.settleJaws f).timeBase = s.timeBase := by
  unfold State.settleJaws; split <;> simp
@[simp] theorem State.settleJaws_admissionCounter (s : State) (f : JawState) : (s.settleJaws f).admissionCounter = s.admissionCounter := by
  unfold State.settleJaws; split <;> simp
@[simp] theorem State.settleJaws_jobs (s : State) (f : JawState) : (s.settleJaws f).jobs = s.jobs := by
  unfold State.settleJaws; split <;> simp
@[simp] theorem State.settleJaws_copyTables (s : State) (f : JawState) : (s.settleJaws f).copyTables = s.copyTables := by
  unfold State.settleJaws; split <;> simp
@[simp] theorem State.settleJaws_classTable (s : State) (f : JawState) : (s.settleJaws f).classTable = s.classTable := by
  unfold State.settleJaws; split <;> simp
@[simp] theorem State.settleJaws_filter (s : State) (f : JawState) : (s.settleJaws f).filter = s.filter := by
  unfold State.settleJaws; split <;> simp
@[simp] theorem State.settleJaws_z1 (s : State) (f : JawState) : (s.settleJaws f).z1 = s.z1 := by
  unfold State.settleJaws; split <;> simp
@[simp] theorem State.settleJaws_z2 (s : State) (f : JawState) : (s.settleJaws f).z2 = s.z2 := by
  unfold State.settleJaws; split <;> simp
@[simp] theorem State.settleJaws_z4 (s : State) (f : JawState) : (s.settleJaws f).z4 = s.z4 := by
  unfold State.settleJaws; split <;> simp
@[simp] theorem State.settleJaws_z5 (s : State) (f : JawState) : (s.settleJaws f).z5 = s.z5 := by
  unfold State.settleJaws; split <;> simp
@[simp] theorem State.settleJaws_z3Mode (s : State) (f : JawState) : (s.settleJaws f).z3Mode = s.z3Mode := by
  unfold State.settleJaws; split <;> simp
@[simp] theorem State.settleJaws_casing (s : State) (f : JawState) : (s.settleJaws f).casing = s.casing := by
  unfold State.settleJaws; split <;> simp
@[simp] theorem State.settleJaws_pressEntry (s : State) (f : JawState) : (s.settleJaws f).pressEntry = s.pressEntry := by
  unfold State.settleJaws; split <;> simp
@[simp] theorem State.settleJaws_jacketing (s : State) (f : JawState) : (s.settleJaws f).jacketing = s.jacketing := by
  unfold State.settleJaws; split <;> simp
@[simp] theorem State.settleJaws_lost (s : State) (f : JawState) : (s.settleJaws f).lost = s.lost := by
  unfold State.settleJaws; split <;> simp
@[simp] theorem State.settleJaws_casingMismatch (s : State) (f : JawState) : (s.settleJaws f).casingMismatch = s.casingMismatch := by
  unfold State.settleJaws; split <;> simp
@[simp] theorem State.settleJaws_jacketingMismatch (s : State) (f : JawState) : (s.settleJaws f).jacketingMismatch = s.jacketingMismatch := by
  unfold State.settleJaws; split <;> simp
@[simp] theorem State.settleJaws_gateQueue (s : State) (f : JawState) : (s.settleJaws f).gateQueue = s.gateQueue := by
  unfold State.settleJaws; split <;> simp
@[simp] theorem State.settleJaws_gateInFlight (s : State) (f : JawState) : (s.settleJaws f).gateInFlight = s.gateInFlight := by
  unfold State.settleJaws; split <;> simp
@[simp] theorem State.settleJaws_link (s : State) (f : JawState) : (s.settleJaws f).link = s.link := by
  unfold State.settleJaws; split <;> simp
@[simp] theorem State.settleJaws_check (s : State) (f : JawState) : (s.settleJaws f).check = s.check := by
  unfold State.settleJaws; split <;> simp
@[simp] theorem State.settleJaws_enables (s : State) (f : JawState) : (s.settleJaws f).enables = s.enables := by
  unfold State.settleJaws; split <;> simp
@[simp] theorem State.settleJaws_lamps (s : State) (f : JawState) : (s.settleJaws f).lamps = s.lamps := by
  unfold State.settleJaws; split <;> simp
@[simp] theorem State.settleJaws_response (s : State) (f : JawState) : (s.settleJaws f).response = s.response := by
  unfold State.settleJaws; split <;> simp
@[simp] theorem State.settleJaws_clockedOut (s : State) (f : JawState) : (s.settleJaws f).clockedOut = s.clockedOut := by
  unfold State.settleJaws; split <;> simp
@[simp] theorem State.settleJaws_pending (s : State) (f : JawState) : (s.settleJaws f).pending = s.pending := by
  unfold State.settleJaws; split <;> simp

/-! ### index -/

@[simp] theorem State.index_timeBase (s : State) : (s.index).timeBase = s.timeBase := by
  unfold State.index; simp
@[simp] theorem State.index_admissionCounter (s : State) : (s.index).admissionCounter = s.admissionCounter := by
  unfold State.index; simp
@[simp] theorem State.index_classTable (s : State) : (s.index).classTable = s.classTable := by
  unfold State.index; simp
@[simp] theorem State.index_filter (s : State) : (s.index).filter = s.filter := by
  unfold State.index; simp
@[simp] theorem State.index_z3Mode (s : State) : (s.index).z3Mode = s.z3Mode := by
  unfold State.index; simp
@[simp] theorem State.index_casingMismatch (s : State) : (s.index).casingMismatch = s.casingMismatch := by
  unfold State.index; simp
@[simp] theorem State.index_jacketingMismatch (s : State) : (s.index).jacketingMismatch = s.jacketingMismatch := by
  unfold State.index; simp
@[simp] theorem State.index_gateInFlight (s : State) : (s.index).gateInFlight = s.gateInFlight := by
  unfold State.index; simp
@[simp] theorem State.index_link (s : State) : (s.index).link = s.link := by
  unfold State.index; simp
@[simp] theorem State.index_check (s : State) : (s.index).check = s.check := by
  unfold State.index; simp
@[simp] theorem State.index_enables (s : State) : (s.index).enables = s.enables := by
  unfold State.index; simp
@[simp] theorem State.index_response (s : State) : (s.index).response = s.response := by
  unfold State.index; simp
@[simp] theorem State.index_clockedOut (s : State) : (s.index).clockedOut = s.clockedOut := by
  unfold State.index; simp
@[simp] theorem State.index_pending (s : State) : (s.index).pending = s.pending := by
  unfold State.index; simp

/-! ### gateArrival -/

@[simp] theorem State.gateArrival_timeBase (s : State) (t : Tag) : (s.gateArrival t).timeBase = s.timeBase := by
  unfold State.gateArrival; split
  · rfl
  · split
    · simp
    · split <;> simp
@[simp] theorem State.gateArrival_admissionCounter (s : State) (t : Tag) : (s.gateArrival t).admissionCounter = s.admissionCounter := by
  unfold State.gateArrival; split
  · rfl
  · split
    · simp
    · split <;> simp
@[simp] theorem State.gateArrival_classTable (s : State) (t : Tag) : (s.gateArrival t).classTable = s.classTable := by
  unfold State.gateArrival; split
  · rfl
  · split
    · simp
    · split <;> simp
@[simp] theorem State.gateArrival_filter (s : State) (t : Tag) : (s.gateArrival t).filter = s.filter := by
  unfold State.gateArrival; split
  · rfl
  · split
    · simp
    · split <;> simp
@[simp] theorem State.gateArrival_z3Mode (s : State) (t : Tag) : (s.gateArrival t).z3Mode = s.z3Mode := by
  unfold State.gateArrival; split
  · rfl
  · split
    · simp
    · split <;> simp
@[simp] theorem State.gateArrival_casingMismatch (s : State) (t : Tag) : (s.gateArrival t).casingMismatch = s.casingMismatch := by
  unfold State.gateArrival; split
  · rfl
  · split
    · simp
    · split <;> simp
@[simp] theorem State.gateArrival_jacketingMismatch (s : State) (t : Tag) : (s.gateArrival t).jacketingMismatch = s.jacketingMismatch := by
  unfold State.gateArrival; split
  · rfl
  · split
    · simp
    · split <;> simp
@[simp] theorem State.gateArrival_gateInFlight (s : State) (t : Tag) : (s.gateArrival t).gateInFlight = s.gateInFlight := by
  unfold State.gateArrival; split
  · rfl
  · split
    · simp
    · split <;> simp
@[simp] theorem State.gateArrival_link (s : State) (t : Tag) : (s.gateArrival t).link = s.link := by
  unfold State.gateArrival; split
  · rfl
  · split
    · simp
    · split <;> simp
@[simp] theorem State.gateArrival_check (s : State) (t : Tag) : (s.gateArrival t).check = s.check := by
  unfold State.gateArrival; split
  · rfl
  · split
    · simp
    · split <;> simp
@[simp] theorem State.gateArrival_enables (s : State) (t : Tag) : (s.gateArrival t).enables = s.enables := by
  unfold State.gateArrival; split
  · rfl
  · split
    · simp
    · split <;> simp
@[simp] theorem State.gateArrival_response (s : State) (t : Tag) : (s.gateArrival t).response = s.response := by
  unfold State.gateArrival; split
  · rfl
  · split
    · simp
    · split <;> simp
@[simp] theorem State.gateArrival_clockedOut (s : State) (t : Tag) : (s.gateArrival t).clockedOut = s.clockedOut := by
  unfold State.gateArrival; split
  · rfl
  · split
    · simp
    · split <;> simp
@[simp] theorem State.gateArrival_pending (s : State) (t : Tag) : (s.gateArrival t).pending = s.pending := by
  unfold State.gateArrival; split
  · rfl
  · split
    · simp
    · split <;> simp

/-! ### confirmFlight -/

@[simp] theorem State.confirmFlight_timeBase (s : State) : (s.confirmFlight).timeBase = s.timeBase := by
  unfold State.confirmFlight; split
  · rfl
  · simp only []; split <;> simp
@[simp] theorem State.confirmFlight_admissionCounter (s : State) : (s.confirmFlight).admissionCounter = s.admissionCounter := by
  unfold State.confirmFlight; split
  · rfl
  · simp only []; split <;> simp
@[simp] theorem State.confirmFlight_classTable (s : State) : (s.confirmFlight).classTable = s.classTable := by
  unfold State.confirmFlight; split
  · rfl
  · simp only []; split <;> simp
@[simp] theorem State.confirmFlight_filter (s : State) : (s.confirmFlight).filter = s.filter := by
  unfold State.confirmFlight; split
  · rfl
  · simp only []; split <;> simp
@[simp] theorem State.confirmFlight_z3Mode (s : State) : (s.confirmFlight).z3Mode = s.z3Mode := by
  unfold State.confirmFlight; split
  · rfl
  · simp only []; split <;> simp
@[simp] theorem State.confirmFlight_casingMismatch (s : State) : (s.confirmFlight).casingMismatch = s.casingMismatch := by
  unfold State.confirmFlight; split
  · rfl
  · simp only []; split <;> simp
@[simp] theorem State.confirmFlight_jacketingMismatch (s : State) : (s.confirmFlight).jacketingMismatch = s.jacketingMismatch := by
  unfold State.confirmFlight; split
  · rfl
  · simp only []; split <;> simp
@[simp] theorem State.confirmFlight_link (s : State) : (s.confirmFlight).link = s.link := by
  unfold State.confirmFlight; split
  · rfl
  · simp only []; split <;> simp
@[simp] theorem State.confirmFlight_check (s : State) : (s.confirmFlight).check = s.check := by
  unfold State.confirmFlight; split
  · rfl
  · simp only []; split <;> simp
@[simp] theorem State.confirmFlight_enables (s : State) : (s.confirmFlight).enables = s.enables := by
  unfold State.confirmFlight; split
  · rfl
  · simp only []; split <;> simp
@[simp] theorem State.confirmFlight_response (s : State) : (s.confirmFlight).response = s.response := by
  unfold State.confirmFlight; split
  · rfl
  · simp only []; split <;> simp
@[simp] theorem State.confirmFlight_clockedOut (s : State) : (s.confirmFlight).clockedOut = s.clockedOut := by
  unfold State.confirmFlight; split
  · rfl
  · simp only []; split <;> simp
@[simp] theorem State.confirmFlight_pending (s : State) : (s.confirmFlight).pending = s.pending := by
  unfold State.confirmFlight; split
  · rfl
  · simp only []; split <;> simp

/-! ### failFlight -/

@[simp] theorem State.failFlight_timeBase (s : State) : (s.failFlight).timeBase = s.timeBase := by
  unfold State.failFlight; split
  · rfl
  · simp only []; split <;> simp
@[simp] theorem State.failFlight_admissionCounter (s : State) : (s.failFlight).admissionCounter = s.admissionCounter := by
  unfold State.failFlight; split
  · rfl
  · simp only []; split <;> simp
@[simp] theorem State.failFlight_classTable (s : State) : (s.failFlight).classTable = s.classTable := by
  unfold State.failFlight; split
  · rfl
  · simp only []; split <;> simp
@[simp] theorem State.failFlight_filter (s : State) : (s.failFlight).filter = s.filter := by
  unfold State.failFlight; split
  · rfl
  · simp only []; split <;> simp
@[simp] theorem State.failFlight_z3Mode (s : State) : (s.failFlight).z3Mode = s.z3Mode := by
  unfold State.failFlight; split
  · rfl
  · simp only []; split <;> simp
@[simp] theorem State.failFlight_casingMismatch (s : State) : (s.failFlight).casingMismatch = s.casingMismatch := by
  unfold State.failFlight; split
  · rfl
  · simp only []; split <;> simp
@[simp] theorem State.failFlight_jacketingMismatch (s : State) : (s.failFlight).jacketingMismatch = s.jacketingMismatch := by
  unfold State.failFlight; split
  · rfl
  · simp only []; split <;> simp
@[simp] theorem State.failFlight_link (s : State) : (s.failFlight).link = s.link := by
  unfold State.failFlight; split
  · rfl
  · simp only []; split <;> simp
@[simp] theorem State.failFlight_check (s : State) : (s.failFlight).check = s.check := by
  unfold State.failFlight; split
  · rfl
  · simp only []; split <;> simp
@[simp] theorem State.failFlight_enables (s : State) : (s.failFlight).enables = s.enables := by
  unfold State.failFlight; split
  · rfl
  · simp only []; split <;> simp
@[simp] theorem State.failFlight_response (s : State) : (s.failFlight).response = s.response := by
  unfold State.failFlight; split
  · rfl
  · simp only []; split <;> simp
@[simp] theorem State.failFlight_clockedOut (s : State) : (s.failFlight).clockedOut = s.clockedOut := by
  unfold State.failFlight; split
  · rfl
  · simp only []; split <;> simp
@[simp] theorem State.failFlight_pending (s : State) : (s.failFlight).pending = s.pending := by
  unfold State.failFlight; split
  · rfl
  · simp only []; split <;> simp

/-! ### arriveCasing -/

@[simp] theorem State.arriveCasing_timeBase (s : State) (t : Tag) : (s.arriveCasing t).timeBase = s.timeBase := by
  unfold State.arriveCasing; split <;> simp
@[simp] theorem State.arriveCasing_admissionCounter (s : State) (t : Tag) : (s.arriveCasing t).admissionCounter = s.admissionCounter := by
  unfold State.arriveCasing; split <;> simp
@[simp] theorem State.arriveCasing_classTable (s : State) (t : Tag) : (s.arriveCasing t).classTable = s.classTable := by
  unfold State.arriveCasing; split <;> simp
@[simp] theorem State.arriveCasing_filter (s : State) (t : Tag) : (s.arriveCasing t).filter = s.filter := by
  unfold State.arriveCasing; split <;> simp
@[simp] theorem State.arriveCasing_z3Mode (s : State) (t : Tag) : (s.arriveCasing t).z3Mode = s.z3Mode := by
  unfold State.arriveCasing; split <;> simp
@[simp] theorem State.arriveCasing_jacketingMismatch (s : State) (t : Tag) : (s.arriveCasing t).jacketingMismatch = s.jacketingMismatch := by
  unfold State.arriveCasing; split <;> simp
@[simp] theorem State.arriveCasing_gateInFlight (s : State) (t : Tag) : (s.arriveCasing t).gateInFlight = s.gateInFlight := by
  unfold State.arriveCasing; split <;> simp
@[simp] theorem State.arriveCasing_link (s : State) (t : Tag) : (s.arriveCasing t).link = s.link := by
  unfold State.arriveCasing; split <;> simp
@[simp] theorem State.arriveCasing_check (s : State) (t : Tag) : (s.arriveCasing t).check = s.check := by
  unfold State.arriveCasing; split <;> simp
@[simp] theorem State.arriveCasing_enables (s : State) (t : Tag) : (s.arriveCasing t).enables = s.enables := by
  unfold State.arriveCasing; split <;> simp
@[simp] theorem State.arriveCasing_response (s : State) (t : Tag) : (s.arriveCasing t).response = s.response := by
  unfold State.arriveCasing; split <;> simp
@[simp] theorem State.arriveCasing_clockedOut (s : State) (t : Tag) : (s.arriveCasing t).clockedOut = s.clockedOut := by
  unfold State.arriveCasing; split <;> simp
@[simp] theorem State.arriveCasing_pending (s : State) (t : Tag) : (s.arriveCasing t).pending = s.pending := by
  unfold State.arriveCasing; split <;> simp

/-! ### arriveJacketing -/

@[simp] theorem State.arriveJacketing_timeBase (s : State) (t : Tag) : (s.arriveJacketing t).timeBase = s.timeBase := by
  unfold State.arriveJacketing; split <;> simp
@[simp] theorem State.arriveJacketing_admissionCounter (s : State) (t : Tag) : (s.arriveJacketing t).admissionCounter = s.admissionCounter := by
  unfold State.arriveJacketing; split <;> simp
@[simp] theorem State.arriveJacketing_classTable (s : State) (t : Tag) : (s.arriveJacketing t).classTable = s.classTable := by
  unfold State.arriveJacketing; split <;> simp
@[simp] theorem State.arriveJacketing_filter (s : State) (t : Tag) : (s.arriveJacketing t).filter = s.filter := by
  unfold State.arriveJacketing; split <;> simp
@[simp] theorem State.arriveJacketing_z3Mode (s : State) (t : Tag) : (s.arriveJacketing t).z3Mode = s.z3Mode := by
  unfold State.arriveJacketing; split <;> simp
@[simp] theorem State.arriveJacketing_casingMismatch (s : State) (t : Tag) : (s.arriveJacketing t).casingMismatch = s.casingMismatch := by
  unfold State.arriveJacketing; split <;> simp
@[simp] theorem State.arriveJacketing_gateInFlight (s : State) (t : Tag) : (s.arriveJacketing t).gateInFlight = s.gateInFlight := by
  unfold State.arriveJacketing; split <;> simp
@[simp] theorem State.arriveJacketing_link (s : State) (t : Tag) : (s.arriveJacketing t).link = s.link := by
  unfold State.arriveJacketing; split <;> simp
@[simp] theorem State.arriveJacketing_check (s : State) (t : Tag) : (s.arriveJacketing t).check = s.check := by
  unfold State.arriveJacketing; split <;> simp
@[simp] theorem State.arriveJacketing_enables (s : State) (t : Tag) : (s.arriveJacketing t).enables = s.enables := by
  unfold State.arriveJacketing; split <;> simp
@[simp] theorem State.arriveJacketing_response (s : State) (t : Tag) : (s.arriveJacketing t).response = s.response := by
  unfold State.arriveJacketing; split <;> simp
@[simp] theorem State.arriveJacketing_clockedOut (s : State) (t : Tag) : (s.arriveJacketing t).clockedOut = s.clockedOut := by
  unfold State.arriveJacketing; split <;> simp
@[simp] theorem State.arriveJacketing_pending (s : State) (t : Tag) : (s.arriveJacketing t).pending = s.pending := by
  unfold State.arriveJacketing; split <;> simp

/-! ### arriveHold -/

@[simp] theorem State.arriveHold_timeBase (s : State) (t : Tag) : (s.arriveHold t).timeBase = s.timeBase := by
  unfold State.arriveHold; split <;> simp
@[simp] theorem State.arriveHold_admissionCounter (s : State) (t : Tag) : (s.arriveHold t).admissionCounter = s.admissionCounter := by
  unfold State.arriveHold; split <;> simp
@[simp] theorem State.arriveHold_classTable (s : State) (t : Tag) : (s.arriveHold t).classTable = s.classTable := by
  unfold State.arriveHold; split <;> simp
@[simp] theorem State.arriveHold_filter (s : State) (t : Tag) : (s.arriveHold t).filter = s.filter := by
  unfold State.arriveHold; split <;> simp
@[simp] theorem State.arriveHold_casingMismatch (s : State) (t : Tag) : (s.arriveHold t).casingMismatch = s.casingMismatch := by
  unfold State.arriveHold; split <;> simp
@[simp] theorem State.arriveHold_jacketingMismatch (s : State) (t : Tag) : (s.arriveHold t).jacketingMismatch = s.jacketingMismatch := by
  unfold State.arriveHold; split <;> simp
@[simp] theorem State.arriveHold_gateInFlight (s : State) (t : Tag) : (s.arriveHold t).gateInFlight = s.gateInFlight := by
  unfold State.arriveHold; split <;> simp
@[simp] theorem State.arriveHold_link (s : State) (t : Tag) : (s.arriveHold t).link = s.link := by
  unfold State.arriveHold; split <;> simp
@[simp] theorem State.arriveHold_check (s : State) (t : Tag) : (s.arriveHold t).check = s.check := by
  unfold State.arriveHold; split <;> simp
@[simp] theorem State.arriveHold_enables (s : State) (t : Tag) : (s.arriveHold t).enables = s.enables := by
  unfold State.arriveHold; split <;> simp
@[simp] theorem State.arriveHold_response (s : State) (t : Tag) : (s.arriveHold t).response = s.response := by
  unfold State.arriveHold; split <;> simp
@[simp] theorem State.arriveHold_clockedOut (s : State) (t : Tag) : (s.arriveHold t).clockedOut = s.clockedOut := by
  unfold State.arriveHold; split <;> simp
@[simp] theorem State.arriveHold_pending (s : State) (t : Tag) : (s.arriveHold t).pending = s.pending := by
  unfold State.arriveHold; split <;> simp

/-! ### arrive -/

@[simp] theorem State.arrive_timeBase (s : State) (z : ConveyorZone) (t : Tag) : (s.arrive z t).timeBase = s.timeBase := by
  unfold State.arrive; cases z <;> simp
@[simp] theorem State.arrive_admissionCounter (s : State) (z : ConveyorZone) (t : Tag) : (s.arrive z t).admissionCounter = s.admissionCounter := by
  unfold State.arrive; cases z <;> simp
@[simp] theorem State.arrive_classTable (s : State) (z : ConveyorZone) (t : Tag) : (s.arrive z t).classTable = s.classTable := by
  unfold State.arrive; cases z <;> simp
@[simp] theorem State.arrive_filter (s : State) (z : ConveyorZone) (t : Tag) : (s.arrive z t).filter = s.filter := by
  unfold State.arrive; cases z <;> simp
@[simp] theorem State.arrive_gateInFlight (s : State) (z : ConveyorZone) (t : Tag) : (s.arrive z t).gateInFlight = s.gateInFlight := by
  unfold State.arrive; cases z <;> simp
@[simp] theorem State.arrive_link (s : State) (z : ConveyorZone) (t : Tag) : (s.arrive z t).link = s.link := by
  unfold State.arrive; cases z <;> simp
@[simp] theorem State.arrive_check (s : State) (z : ConveyorZone) (t : Tag) : (s.arrive z t).check = s.check := by
  unfold State.arrive; cases z <;> simp
@[simp] theorem State.arrive_enables (s : State) (z : ConveyorZone) (t : Tag) : (s.arrive z t).enables = s.enables := by
  unfold State.arrive; cases z <;> simp
@[simp] theorem State.arrive_response (s : State) (z : ConveyorZone) (t : Tag) : (s.arrive z t).response = s.response := by
  unfold State.arrive; cases z <;> simp
@[simp] theorem State.arrive_clockedOut (s : State) (z : ConveyorZone) (t : Tag) : (s.arrive z t).clockedOut = s.clockedOut := by
  unfold State.arrive; cases z <;> simp
@[simp] theorem State.arrive_pending (s : State) (z : ConveyorZone) (t : Tag) : (s.arrive z t).pending = s.pending := by
  unfold State.arrive; cases z <;> simp

/-! ### exitEye -/

@[simp] theorem State.exitEye_timeBase (s : State) (z : ConveyorZone) : (s.exitEye z).timeBase = s.timeBase := by
  unfold State.exitEye; split
  · rfl
  · split
    · simp [State.unforeseen]
    · split <;> simp [State.unforeseen]
@[simp] theorem State.exitEye_admissionCounter (s : State) (z : ConveyorZone) : (s.exitEye z).admissionCounter = s.admissionCounter := by
  unfold State.exitEye; split
  · rfl
  · split
    · simp [State.unforeseen]
    · split <;> simp [State.unforeseen]
@[simp] theorem State.exitEye_classTable (s : State) (z : ConveyorZone) : (s.exitEye z).classTable = s.classTable := by
  unfold State.exitEye; split
  · rfl
  · split
    · simp [State.unforeseen]
    · split <;> simp [State.unforeseen]
@[simp] theorem State.exitEye_filter (s : State) (z : ConveyorZone) : (s.exitEye z).filter = s.filter := by
  unfold State.exitEye; split
  · rfl
  · split
    · simp [State.unforeseen]
    · split <;> simp [State.unforeseen]
@[simp] theorem State.exitEye_gateInFlight (s : State) (z : ConveyorZone) : (s.exitEye z).gateInFlight = s.gateInFlight := by
  unfold State.exitEye; split
  · rfl
  · split
    · simp [State.unforeseen]
    · split <;> simp [State.unforeseen]
@[simp] theorem State.exitEye_link (s : State) (z : ConveyorZone) : (s.exitEye z).link = s.link := by
  unfold State.exitEye; split
  · rfl
  · split
    · simp [State.unforeseen]
    · split <;> simp [State.unforeseen]
@[simp] theorem State.exitEye_check (s : State) (z : ConveyorZone) : (s.exitEye z).check = s.check := by
  unfold State.exitEye; split
  · rfl
  · split
    · simp [State.unforeseen]
    · split <;> simp [State.unforeseen]
@[simp] theorem State.exitEye_enables (s : State) (z : ConveyorZone) : (s.exitEye z).enables = s.enables := by
  unfold State.exitEye; split
  · rfl
  · split
    · simp [State.unforeseen]
    · split <;> simp [State.unforeseen]
@[simp] theorem State.exitEye_response (s : State) (z : ConveyorZone) : (s.exitEye z).response = s.response := by
  unfold State.exitEye; split
  · rfl
  · split
    · simp [State.unforeseen]
    · split <;> simp [State.unforeseen]
@[simp] theorem State.exitEye_clockedOut (s : State) (z : ConveyorZone) : (s.exitEye z).clockedOut = s.clockedOut := by
  unfold State.exitEye; split
  · rfl
  · split
    · simp [State.unforeseen]
    · split <;> simp [State.unforeseen]
@[simp] theorem State.exitEye_pending (s : State) (z : ConveyorZone) : (s.exitEye z).pending = s.pending := by
  unfold State.exitEye; split
  · rfl
  · split
    · simp [State.unforeseen]
    · split <;> simp [State.unforeseen]

/-! ### dropOverdue -/

@[simp] theorem State.dropOverdue_timeBase (s : State) (z : ConveyorZone) (ts : List Tag) : (s.dropOverdue z ts).timeBase = s.timeBase := by
  induction ts generalizing s with
  | nil => rfl
  | cons t ts ih => unfold State.dropOverdue; split
                    · rw [ih]; simp
                    · rfl
@[simp] theorem State.dropOverdue_admissionCounter (s : State) (z : ConveyorZone) (ts : List Tag) : (s.dropOverdue z ts).admissionCounter = s.admissionCounter := by
  induction ts generalizing s with
  | nil => rfl
  | cons t ts ih => unfold State.dropOverdue; split
                    · rw [ih]; simp
                    · rfl
@[simp] theorem State.dropOverdue_jobs (s : State) (z : ConveyorZone) (ts : List Tag) : (s.dropOverdue z ts).jobs = s.jobs := by
  induction ts generalizing s with
  | nil => rfl
  | cons t ts ih => unfold State.dropOverdue; split
                    · rw [ih]; simp
                    · rfl
@[simp] theorem State.dropOverdue_copyTables (s : State) (z : ConveyorZone) (ts : List Tag) : (s.dropOverdue z ts).copyTables = s.copyTables := by
  induction ts generalizing s with
  | nil => rfl
  | cons t ts ih => unfold State.dropOverdue; split
                    · rw [ih]; simp
                    · rfl
@[simp] theorem State.dropOverdue_classTable (s : State) (z : ConveyorZone) (ts : List Tag) : (s.dropOverdue z ts).classTable = s.classTable := by
  induction ts generalizing s with
  | nil => rfl
  | cons t ts ih => unfold State.dropOverdue; split
                    · rw [ih]; simp
                    · rfl
@[simp] theorem State.dropOverdue_filter (s : State) (z : ConveyorZone) (ts : List Tag) : (s.dropOverdue z ts).filter = s.filter := by
  induction ts generalizing s with
  | nil => rfl
  | cons t ts ih => unfold State.dropOverdue; split
                    · rw [ih]; simp
                    · rfl
@[simp] theorem State.dropOverdue_press (s : State) (z : ConveyorZone) (ts : List Tag) : (s.dropOverdue z ts).press = s.press := by
  induction ts generalizing s with
  | nil => rfl
  | cons t ts ih => unfold State.dropOverdue; split
                    · rw [ih]; simp
                    · rfl
@[simp] theorem State.dropOverdue_z3Mode (s : State) (z : ConveyorZone) (ts : List Tag) : (s.dropOverdue z ts).z3Mode = s.z3Mode := by
  induction ts generalizing s with
  | nil => rfl
  | cons t ts ih => unfold State.dropOverdue; split
                    · rw [ih]; simp
                    · rfl
@[simp] theorem State.dropOverdue_casing (s : State) (z : ConveyorZone) (ts : List Tag) : (s.dropOverdue z ts).casing = s.casing := by
  induction ts generalizing s with
  | nil => rfl
  | cons t ts ih => unfold State.dropOverdue; split
                    · rw [ih]; simp
                    · rfl
@[simp] theorem State.dropOverdue_pressEntry (s : State) (z : ConveyorZone) (ts : List Tag) : (s.dropOverdue z ts).pressEntry = s.pressEntry := by
  induction ts generalizing s with
  | nil => rfl
  | cons t ts ih => unfold State.dropOverdue; split
                    · rw [ih]; simp
                    · rfl
@[simp] theorem State.dropOverdue_jacketing (s : State) (z : ConveyorZone) (ts : List Tag) : (s.dropOverdue z ts).jacketing = s.jacketing := by
  induction ts generalizing s with
  | nil => rfl
  | cons t ts ih => unfold State.dropOverdue; split
                    · rw [ih]; simp
                    · rfl
@[simp] theorem State.dropOverdue_casingMismatch (s : State) (z : ConveyorZone) (ts : List Tag) : (s.dropOverdue z ts).casingMismatch = s.casingMismatch := by
  induction ts generalizing s with
  | nil => rfl
  | cons t ts ih => unfold State.dropOverdue; split
                    · rw [ih]; simp
                    · rfl
@[simp] theorem State.dropOverdue_jacketingMismatch (s : State) (z : ConveyorZone) (ts : List Tag) : (s.dropOverdue z ts).jacketingMismatch = s.jacketingMismatch := by
  induction ts generalizing s with
  | nil => rfl
  | cons t ts ih => unfold State.dropOverdue; split
                    · rw [ih]; simp
                    · rfl
@[simp] theorem State.dropOverdue_gateQueue (s : State) (z : ConveyorZone) (ts : List Tag) : (s.dropOverdue z ts).gateQueue = s.gateQueue := by
  induction ts generalizing s with
  | nil => rfl
  | cons t ts ih => unfold State.dropOverdue; split
                    · rw [ih]; simp
                    · rfl
@[simp] theorem State.dropOverdue_gateInFlight (s : State) (z : ConveyorZone) (ts : List Tag) : (s.dropOverdue z ts).gateInFlight = s.gateInFlight := by
  induction ts generalizing s with
  | nil => rfl
  | cons t ts ih => unfold State.dropOverdue; split
                    · rw [ih]; simp
                    · rfl
@[simp] theorem State.dropOverdue_stations (s : State) (z : ConveyorZone) (ts : List Tag) : (s.dropOverdue z ts).stations = s.stations := by
  induction ts generalizing s with
  | nil => rfl
  | cons t ts ih => unfold State.dropOverdue; split
                    · rw [ih]; simp
                    · rfl
@[simp] theorem State.dropOverdue_link (s : State) (z : ConveyorZone) (ts : List Tag) : (s.dropOverdue z ts).link = s.link := by
  induction ts generalizing s with
  | nil => rfl
  | cons t ts ih => unfold State.dropOverdue; split
                    · rw [ih]; simp
                    · rfl
@[simp] theorem State.dropOverdue_check (s : State) (z : ConveyorZone) (ts : List Tag) : (s.dropOverdue z ts).check = s.check := by
  induction ts generalizing s with
  | nil => rfl
  | cons t ts ih => unfold State.dropOverdue; split
                    · rw [ih]; simp
                    · rfl
@[simp] theorem State.dropOverdue_enables (s : State) (z : ConveyorZone) (ts : List Tag) : (s.dropOverdue z ts).enables = s.enables := by
  induction ts generalizing s with
  | nil => rfl
  | cons t ts ih => unfold State.dropOverdue; split
                    · rw [ih]; simp
                    · rfl
@[simp] theorem State.dropOverdue_lamps (s : State) (z : ConveyorZone) (ts : List Tag) : (s.dropOverdue z ts).lamps = s.lamps := by
  induction ts generalizing s with
  | nil => rfl
  | cons t ts ih => unfold State.dropOverdue; split
                    · rw [ih]; simp
                    · rfl
@[simp] theorem State.dropOverdue_response (s : State) (z : ConveyorZone) (ts : List Tag) : (s.dropOverdue z ts).response = s.response := by
  induction ts generalizing s with
  | nil => rfl
  | cons t ts ih => unfold State.dropOverdue; split
                    · rw [ih]; simp
                    · rfl
@[simp] theorem State.dropOverdue_clockedOut (s : State) (z : ConveyorZone) (ts : List Tag) : (s.dropOverdue z ts).clockedOut = s.clockedOut := by
  induction ts generalizing s with
  | nil => rfl
  | cons t ts ih => unfold State.dropOverdue; split
                    · rw [ih]; simp
                    · rfl
@[simp] theorem State.dropOverdue_pending (s : State) (z : ConveyorZone) (ts : List Tag) : (s.dropOverdue z ts).pending = s.pending := by
  induction ts generalizing s with
  | nil => rfl
  | cons t ts ih => unfold State.dropOverdue; split
                    · rw [ih]; simp
                    · rfl

/-! ### advance -/

@[simp] theorem State.advance_timeBase (s : State) (z : ConveyorZone) : (s.advance z).timeBase = s.timeBase := by
  unfold State.advance; simp [State.turnEncoder]
@[simp] theorem State.advance_admissionCounter (s : State) (z : ConveyorZone) : (s.advance z).admissionCounter = s.admissionCounter := by
  unfold State.advance; simp [State.turnEncoder]
@[simp] theorem State.advance_jobs (s : State) (z : ConveyorZone) : (s.advance z).jobs = s.jobs := by
  unfold State.advance; simp [State.turnEncoder]
@[simp] theorem State.advance_copyTables (s : State) (z : ConveyorZone) : (s.advance z).copyTables = s.copyTables := by
  unfold State.advance; simp [State.turnEncoder]
@[simp] theorem State.advance_classTable (s : State) (z : ConveyorZone) : (s.advance z).classTable = s.classTable := by
  unfold State.advance; simp [State.turnEncoder]
@[simp] theorem State.advance_filter (s : State) (z : ConveyorZone) : (s.advance z).filter = s.filter := by
  unfold State.advance; simp [State.turnEncoder]
@[simp] theorem State.advance_press (s : State) (z : ConveyorZone) : (s.advance z).press = s.press := by
  unfold State.advance; simp [State.turnEncoder]
@[simp] theorem State.advance_z3Mode (s : State) (z : ConveyorZone) : (s.advance z).z3Mode = s.z3Mode := by
  unfold State.advance; simp [State.turnEncoder]
@[simp] theorem State.advance_casing (s : State) (z : ConveyorZone) : (s.advance z).casing = s.casing := by
  unfold State.advance; simp [State.turnEncoder]
@[simp] theorem State.advance_pressEntry (s : State) (z : ConveyorZone) : (s.advance z).pressEntry = s.pressEntry := by
  unfold State.advance; simp [State.turnEncoder]
@[simp] theorem State.advance_jacketing (s : State) (z : ConveyorZone) : (s.advance z).jacketing = s.jacketing := by
  unfold State.advance; simp [State.turnEncoder]
@[simp] theorem State.advance_casingMismatch (s : State) (z : ConveyorZone) : (s.advance z).casingMismatch = s.casingMismatch := by
  unfold State.advance; simp [State.turnEncoder]
@[simp] theorem State.advance_jacketingMismatch (s : State) (z : ConveyorZone) : (s.advance z).jacketingMismatch = s.jacketingMismatch := by
  unfold State.advance; simp [State.turnEncoder]
@[simp] theorem State.advance_gateQueue (s : State) (z : ConveyorZone) : (s.advance z).gateQueue = s.gateQueue := by
  unfold State.advance; simp [State.turnEncoder]
@[simp] theorem State.advance_gateInFlight (s : State) (z : ConveyorZone) : (s.advance z).gateInFlight = s.gateInFlight := by
  unfold State.advance; simp [State.turnEncoder]
@[simp] theorem State.advance_stations (s : State) (z : ConveyorZone) : (s.advance z).stations = s.stations := by
  unfold State.advance; simp [State.turnEncoder]
@[simp] theorem State.advance_link (s : State) (z : ConveyorZone) : (s.advance z).link = s.link := by
  unfold State.advance; simp [State.turnEncoder]
@[simp] theorem State.advance_check (s : State) (z : ConveyorZone) : (s.advance z).check = s.check := by
  unfold State.advance; simp [State.turnEncoder]
@[simp] theorem State.advance_enables (s : State) (z : ConveyorZone) : (s.advance z).enables = s.enables := by
  unfold State.advance; simp [State.turnEncoder]
@[simp] theorem State.advance_lamps (s : State) (z : ConveyorZone) : (s.advance z).lamps = s.lamps := by
  unfold State.advance; simp [State.turnEncoder]
@[simp] theorem State.advance_response (s : State) (z : ConveyorZone) : (s.advance z).response = s.response := by
  unfold State.advance; simp [State.turnEncoder]
@[simp] theorem State.advance_clockedOut (s : State) (z : ConveyorZone) : (s.advance z).clockedOut = s.clockedOut := by
  unfold State.advance; simp [State.turnEncoder]
@[simp] theorem State.advance_pending (s : State) (z : ConveyorZone) : (s.advance z).pending = s.pending := by
  unfold State.advance; simp [State.turnEncoder]

/-! ### lineClear -/

@[simp] theorem State.lineClear_timeBase (s : State) : (s.lineClear).timeBase = s.timeBase := by
  unfold State.lineClear; simp [allZones]
@[simp] theorem State.lineClear_admissionCounter (s : State) : (s.lineClear).admissionCounter = s.admissionCounter := by
  unfold State.lineClear; simp [allZones]
@[simp] theorem State.lineClear_classTable (s : State) : (s.lineClear).classTable = s.classTable := by
  unfold State.lineClear; simp [allZones]
@[simp] theorem State.lineClear_filter (s : State) : (s.lineClear).filter = s.filter := by
  unfold State.lineClear; simp [allZones]
@[simp] theorem State.lineClear_gateInFlight (s : State) : (s.lineClear).gateInFlight = s.gateInFlight := by
  unfold State.lineClear; simp [allZones]
@[simp] theorem State.lineClear_link (s : State) : (s.lineClear).link = s.link := by
  unfold State.lineClear; simp [allZones]
@[simp] theorem State.lineClear_check (s : State) : (s.lineClear).check = s.check := by
  unfold State.lineClear; simp [allZones]
@[simp] theorem State.lineClear_enables (s : State) : (s.lineClear).enables = s.enables := by
  unfold State.lineClear; simp [allZones]
@[simp] theorem State.lineClear_response (s : State) : (s.lineClear).response = s.response := by
  unfold State.lineClear; simp [allZones]
@[simp] theorem State.lineClear_clockedOut (s : State) : (s.lineClear).clockedOut = s.clockedOut := by
  unfold State.lineClear; simp [allZones]
@[simp] theorem State.lineClear_pending (s : State) : (s.lineClear).pending = s.pending := by
  unfold State.lineClear; simp [allZones]

end Sys2Proof.Machine
end

