-- ==== Sys2Proof/Laws/Ops.lean ====
section
/-! SUPPORT. One lemma for each shared operation that says once what it does, and that every command
answers a next state. -/

namespace Sys2Proof.Machine

/-! ### Reading after writing -/

theorem State.piece_setPiece (s : State) (t u : Tag) (p : Option Piece) :
    (s.setPiece t p).piece u = if u = t then p else s.piece u := by
  simp only [State.piece, State.setPiece]
  by_cases h : u = t
  · subst h; simp
  · have : (t : Nat) ≠ u := fun e => h (Fin.ext e.symm)
    simp [h, this]

theorem State.piece_updatePiece (s : State) (t u : Tag) (f : Piece → Piece) :
    (s.updatePiece t f).piece u = if u = t then (s.piece t).map f else s.piece u :=
  s.piece_setPiece t u _

theorem State.piece_updatePieces (s : State) (ts : List Tag) (u : Tag) (f : Piece → Piece) :
    (s.updatePieces ts f).piece u = if u ∈ ts then (s.piece u).map f else s.piece u := by
  simp [State.piece, State.updatePieces]

theorem State.job_setJob (s : State) (j k : JobSlot) (b : Option Job) :
    (s.setJob j b).job k = if k = j then b else s.job k := by
  simp only [State.job, State.setJob]
  by_cases h : k = j
  · subst h; simp
  · have : (j : Nat) ≠ k := fun e => h (Fin.ext e.symm)
    simp [h, this]

theorem State.station_setStation (s : State) (a b : Address) (st : Station) :
    (s.setStation a st).station b = if b = a then st else s.station b := by
  simp only [State.station, State.setStation]
  by_cases h : b = a
  · subst h; simp
  · have : (a : Nat) ≠ b := fun e => h (Fin.ext e.symm)
    simp [h, this]

theorem State.conveyor_setConveyor (s : State) (z y : ConveyorZone) (c : Conveyor) :
    (s.setConveyor z c).conveyor y = if y = z then c else s.conveyor y := by
  cases z <;> cases y <;> rfl

theorem State.mode_setMode (s : State) (z y : Zone) (m : ZoneMode) :
    (s.setMode z m).mode y = if y = z then m else s.mode y := by
  cases z <;> cases y <;> rfl

theorem State.mode_conveyor (s : State) (z : ConveyorZone) : s.mode z.zone = (s.conveyor z).mode := by
  cases z <;> rfl

/-! ### Two states that agree on a field agree on what is read from it -/

theorem State.piece_congr {s t : State} (h : s.pool = t.pool) : s.piece = t.piece := by
  funext u; simp [State.piece, h]

theorem State.job_congr {s t : State} (h : s.jobs = t.jobs) : s.job = t.job := by
  funext u; simp [State.job, h]

theorem State.station_congr {s t : State} (h : s.stations = t.stations) : s.station = t.station := by
  funext u; simp [State.station, h]

/-! ### Lookups -/

/-- R25: a found key is held by its slot. -/
theorem State.findJob_some {s : State} {key : Word32} {j : JobSlot} {b : Job} (h : s.findJob key = some (j, b)) :
    s.job j = some b ∧ b.key = key := by
  obtain ⟨k, -, hk⟩ := List.exists_of_findSome?_eq_some h
  revert hk
  split
  · rename_i c hc
    split
    · rintro ⟨⟩; exact ⟨hc, ‹_›⟩
    · simp
  · simp

/-- R25: a key that is not found is held by no slot. -/
theorem State.findJob_none {s : State} {key : Word32} (h : s.findJob key = none) (j : JobSlot) (b : Job)
    (hb : s.job j = some b) : b.key ≠ key := by
  have := List.findSome?_eq_none_iff.mp h j (List.mem_finRange j)
  simpa [hb] using this

/-- R2: the lowest free tag is free. -/
theorem State.lowestFree_some {s : State} {t : Tag} (h : s.lowestFree = some t) : s.piece t = none := by
  simpa using List.find?_some h

/-- R27: the lowest EMPTY slot is EMPTY. -/
theorem State.lowestEmpty_some {s : State} {j : JobSlot} (h : s.lowestEmpty = some j) : s.job j = none := by
  simpa using List.find?_some h

/-- R24: a free copy table is bound to no job. -/
theorem State.freeTable_some {s : State} {t : CopyTableId} (h : s.freeTable = some t) : s.tableInUse t = false := by
  simpa using List.find?_some h

/-- R170: the holder of a role claims it with standing ASSIGNED. -/
theorem State.holder_some {s : State} {r : Role} {a : Address} (h : s.holder r = some a) :
    (s.station a).role = some r ∧ (s.station a).standing = some .assigned := by
  simpa using List.find?_some h

/-! ### Port -/

/-- R179, R183: a command after a passed check. -/
theorem State.command_pass {s : State} (h : s.check = .pass) (n : Nat) (body : State → Reply × State) :
    s.command n body = (body s).2.respond (n + 3) (body s).1 := by
  simp [State.command, h]

/-- R183, R184: a command before or without a passed check. -/
theorem State.command_notReady {s : State} (h : s.check ≠ .pass) (n : Nat) (body : State → Reply × State) :
    s.command n body = s.respond (n + 3) (.notReady s.check) := by
  simp [State.command, h]

/-! ### The link's line -/

/-- R159: while the direction output is asserted the bytes are driven. -/
theorem State.drive_asserted {s : State} (h : s.link.direction = true) (bytes : List Byte) :
    s.drive bytes = { s with link := { s.link with sent := bytes } } := by simp [State.drive, h]

/-- R159: while the direction output is released nothing is driven. -/
theorem State.drive_released {s : State} (h : s.link.direction = false) (bytes : List Byte) : s.drive bytes = s := by
  simp [State.drive, h]

/-- R159: a byte is taken when the check has passed and the line is not driven. -/
theorem State.linkByte_listening {s : State} (h : s.check = .pass) (hd : s.link.direction = false) (b : Byte) :
    s.linkByte b = s.receiveByte b := by simp [State.linkByte, h, hd]

/-- R159: while the CJ40 drives the line it takes no byte. -/
theorem State.linkByte_driving {s : State} (hd : s.link.direction = true) (b : Byte) : s.linkByte b = s := by
  simp [State.linkByte, hd]

/-- R159: while the link is silent the CJ40 takes no byte. -/
theorem State.linkByte_silent {s : State} (h : s.check ≠ .pass) (b : Byte) : s.linkByte b = s := by
  simp [State.linkByte, h]

/-! ### Qualified close -/

/-- R119: an overdwell expiry stops the timer and leaves the rest of the press as it was. -/
@[simp] theorem State.takeOverdwell_press (s : State) :
    s.takeOverdwell.press = { s.press with overdwellTimer := none, overdwellDeferred := false } := by
  simp [State.takeOverdwell]

/-- R117: a qualified close arms the closure; where its timer has run out by then the expiry is taken too. -/
theorem State.qualifyClose_cases (s : State) (c : Word32) :
    ((s.armClosure c).overdwellRunOut = false ∧ s.qualifyClose c = s.armClosure c) ∨
      ((s.armClosure c).overdwellRunOut = true ∧ s.qualifyClose c = (s.armClosure c).takeOverdwell) := by
  cases h : (s.armClosure c).overdwellRunOut <;> simp [State.qualifyClose, h]

/-- R112, R117: what a qualified close writes to the press, but for the overdwell timer. -/
theorem State.qualifyClose_press (s : State) (c : Word32) :
    (s.qualifyClose c).press =
      { s.press with
        jaw := .closed
        closeTime := c
        hitTimer := none
        overdwellTimer := (s.qualifyClose c).press.overdwellTimer
        overdwellDeferred := false } := by
  rcases s.qualifyClose_cases c with ⟨-, h⟩ | ⟨-, h⟩ <;> rw [h] <;> simp

/-! ### Retirement -/

/-- R18: after a retirement the tag is free and every other record is as it was. -/
theorem State.piece_retire (s : State) (k : Retirement) (t u : Tag) :
    (s.retire k t).piece u = if u = t then none else s.piece u := by
  unfold State.retire
  split
  · rename_i h
    have : (s.takeOut t).piece = s.piece := State.piece_congr (by simp)
    by_cases e : u = t
    · simp [this, e, h]
    · simp [this, e]
  · rename_i p h
    have : (((s.takeOut t).settleJob k p).retirePulse k).piece = s.piece := State.piece_congr (by simp)
    rw [State.piece_setPiece, this]

/-- R19: after the retirement of several pieces each of their tags is free and every other record is as it
was. -/
theorem State.piece_retireAll (s : State) (k : Retirement) (ts : List Tag) (u : Tag) :
    (s.retireAll k ts).piece u = if u ∈ ts then none else s.piece u := by
  induction ts generalizing s with
  | nil => simp [State.retireAll]
  | cons t ts ih =>
    simp only [State.retireAll, List.foldl_cons] at ih ⊢
    rw [ih, State.piece_retire]
    by_cases h : u ∈ ts <;> by_cases e : u = t <;> simp [h, e]

/-! ### Every command answers a next state -/

theorem runHostCommand_next (i : Instr) (s : State) : ∃ t, runHostCommand i s = .next t := by
  cases i <;> exact ⟨_, rfl⟩

theorem State.transact_next (s : State) (w : List Byte) : ∃ t, s.transact w = .next t := by
  unfold State.transact
  split
  · exact ⟨_, rfl⟩
  · split
    · exact ⟨_, rfl⟩
    · split
      · exact ⟨_, rfl⟩
      · exact ⟨_, rfl⟩
      · exact runHostCommand_next _ s

/-- No command of the table faults or is refused by the model. -/
theorem exec_next (c : Instr) (s : State) : ∃ t, exec c s = .next t := by
  cases c
  case unknownCommand w => exact s.transact_next w
  case frameAbandoned cause time => cases cause <;> exact ⟨_, rfl⟩
  all_goals exact ⟨_, rfl⟩

end Sys2Proof.Machine
end

