-- ==== Sys2Proof/Laws/Safety.lean ====
section
/-! SUPPORT. The small lemmas of the terms in which statements are made. -/

namespace Sys2Proof.Safety

open Sys2Proof.Machine

@[simp] theorem spoiledBy_none (n : Nat) : spoiledBy n none = none := rfl

@[simp] theorem spoiledBy_zero (slot : Option Job) : spoiledBy 0 slot = slot := by cases slot <;> rfl

/-- Several spoiled retirements are one and then the rest. -/
theorem spoiledBy_succ (n : Nat) (slot : Option Job) : spoiledBy (n + 1) slot = spoiledBy n (spoiledBy 1 slot) := by
  cases slot with
  | none => rfl
  | some b =>
    by_cases hn : n = 0
    · subst hn; simp
    · by_cases hc : b.state = .closing
      · by_cases h1 : b.live ≤ 1
        · have : b.live ≤ n + 1 := by omega
          simp [spoiledBy, hc, h1, this]
        · have : b.live ≤ n + 1 ↔ b.live - 1 ≤ n := by omega
          simp only [spoiledBy, hc, h1, this, hn, Option.bind_some, true_and, if_false, Nat.succ_ne_zero, one_ne_zero]
          split
          · rfl
          · simp; omega
      · simp [spoiledBy, hc, hn]
        omega

end Sys2Proof.Safety
end

