-- ==== Sys2Proof/WellFormed.lean ====
section
/-! DEFINITION. Which terms of `Instr` are commands that can come. Operands of host commands have no
check here: every value the host can write is a command, and a bad one is refused by the command itself. -/

namespace Sys2Proof.WellFormed

open Sys2Proof.Machine

/-- R178: the bytes of a write transaction: at least one, and the first is not the read marker. -/
def isWrite (written : List Byte) : Bool :=
  match written with
  | [] => false
  | first :: _ => first != 0x80

/-- R179: a written frame that spells no command, at any reading of the time base. -/
def spellsNoCommand (written : List Byte) : Bool :=
  match judgeFrame 0 written with
  | .command _ => false
  | .badFrame => true
  | .unknownCommand => true

/-- R161: a START begins a new frame; any other byte, or a missing stop bit, may abandon one. -/
def mayAbandon : AbandonCause → Bool
  | .byte b => b != startMark
  | .noStopBit => true

/-- The check of a command. -/
def check : Instr → Bool
  | .unknownCommand written => isWrite written && spellsNoCommand written
  | .frameAbandoned cause _ => mayAbandon cause
  | .powerOn _ _ => true
  | .memoryCheckPass => true
  | .memoryCheckFail => true
  | .identify => true
  | .readStatus => true
  | .ackAttention _ => true
  | .setAttentionEnable _ => true
  | .setLamp _ _ _ _ => true
  | .loadJob _ => true
  | .releaseJob _ => true
  | .holdJob _ => true
  | .amendJob _ _ _ => true
  | .closeJob _ => true
  | .readJob _ => true
  | .findJob _ => true
  | .readCopies _ _ _ => true
  | .writeClass _ _ => true
  | .writeBin _ _ => true
  | .writeRange _ _ _ _ _ => true
  | .setClassTable _ _ _ => true
  | .setFilter _ _ _ => true
  | .setJawTimes _ _ => true
  | .readPress _ => true
  | .setZone _ _ _ => true
  | .setZoneMode _ _ => true
  | .readZone _ => true
  | .lineClear => true
  | .readPiece _ _ => true
  | .listLost _ => true
  | .resolveLost _ _ => true
  | .reinstate _ _ _ => true
  | .readStation _ => true
  | .responseRead _ => true
  | .forwardAdvance _ => true
  | .reverseAdvance _ => true
  | .exitEyeLeadingEdge _ _ => true
  | .pressIndex _ => true
  | .jawContactAsserted _ => true
  | .jawContactReleased _ => true
  | .hitTimerExpiry _ => true
  | .bridgeTimerExpiry _ => true
  | .overdwellTimerExpiry _ => true
  | .lampStretchExpiry _ _ => true
  | .poll => true
  | .replyFrame _ => true
  | .replyTimeout _ => true
  | .interByteGapExpiry _ => true
  | .linkByteReceived _ => true

end Sys2Proof.WellFormed
end

