-- ==== Sys2Proof/Tests/Slice0.lean ====
section
/-! SUPPORT. Tests: the checks of WellFormed refuse ill-formed terms; single steps against the worked
sequences and tables of the spec; and, for every statement with hypotheses, a state and operands that meet
them, clause by clause. -/

namespace Sys2Proof.Tests

set_option Elab.async false

open Sys2Proof.Machine Sys2Proof.Safety

/-! ### Fixtures -/

/-- The state a command answers. -/
def after (c : Instr) (s : State) : State :=
  match exec c s with
  | .next t => t
  | .fault _ => s
  | .refused _ => s

/-- Right after a passed check. -/
def ready : State := { State.reset with check := .pass }

/-- After a failed check. -/
def failed : State := { State.reset with check := .fail }

/-- A job of one live piece, not numbered. -/
def someJob : Job :=
  { state := .running, key := 7, nominal := 300, tolerance := 20, caseCode := 5, jacketCode := some 6, numbered := none,
    classOverride := none, ordered := 10, allowance := 2, casePolicy := .holdStation, jacketPolicy := .holdStation,
    mismatchLimit := 2, overdwellPolicy := .passMarked, good := 0, diverted := 0, spoiled := 0, live := 1 }

/-- A numbered job of copies 1 to 3 on copy table 0. -/
def numberedJob : Job := { someJob with numbered := some { first := 1, last := 3, table := 0 } }

/-- A piece of the job in slot 0, in Z1. -/
def somePiece : Piece :=
  { admission := 9, job := some 0, copy := none, thickness := 300, cls := 7, limits := none, accumulated := 0,
    place := .conveyor .z1, entryCount := some 0, caseStatus := .pending, jacketStatus := .pending,
    copyVerified := false, faults := 0 }

/-- A state with one job and its one piece, tag 0, standing where `put` puts it. -/
def withPiece (b : Job) (p : Piece) (put : State → State) : State :=
  put { ready with pool := ready.pool.set 0 (some p), jobs := ready.jobs.set 0 (some b) }

/-- Z1 in RUN with the piece in its queue. -/
def inZ1 : State := withPiece someJob somePiece fun s => { s with z1 := { s.z1 with mode := .run, queue := [0] } }

/-- The piece in the lost set. -/
def inLost : State :=
  withPiece someJob { somePiece with place := .lost, entryCount := none, faults := 0x2000 } fun s => { s with lost := [0] }

/-- The piece in the casing slot. -/
def inCasing : State :=
  withPiece someJob { somePiece with place := .casingSlot, entryCount := none } fun s =>
    { s with z1 := { s.z1 with mode := .run }, z2 := { s.z2 with mode := .run }, casing := some 0 }

/-- The piece in the jacketing slot. -/
def inJacketing : State :=
  withPiece someJob { somePiece with place := .jacketingSlot, entryCount := none, caseStatus := .married } fun s =>
    { s with z4 := { s.z4 with mode := .run }, z5 := { s.z5 with mode := .run }, jacketing := some 0 }

/-- The piece in press position 3 with its limits, Z3 in RUN. -/
def inPress (jaw : JawState) : State :=
  withPiece someJob
    { somePiece with
      place := .press 3, entryCount := none, caseStatus := .married, limits := some { dmin := 2000, dmax := 4000 } }
    fun s => { s with z3Mode := .run, press := { s.press with positions := s.press.positions.set 3 (some 0), jaw := jaw } }

/-- A present station that holds a role. -/
def holding (r : Role) (abilities : Byte) : Station :=
  { Station.powerOn with present := true, role := some r, standing := some .assigned, abilities := abilities }

/-- The gate station at address 5 with MARK, the piece in the gate order queue and its order waiting. -/
def atGate : State :=
  withPiece someJob
    { somePiece with place := .gateQueue, entryCount := none, caseStatus := .married, jacketStatus := .married }
    fun s => { s with
      z5 := { s.z5 with mode := .run }
      gateQueue := [0]
      stations := s.stations.set 4 { holding .gate 0x40 with orders := [.gate .deliver 0] } }

/-- The same with the order in flight. -/
def inFlight : State := after .poll { atGate with link := { atGate.link with next := 4 } }

/-- An exchange with address 1 in progress, as a candidate with an empty reply received but for its END. -/
def candidate : State :=
  { ready with link :=
      { ready.link with
        exchange := some { address := 0, carried := none, awaiting := .candidate }
        rx := .inFrame
        buffer := frameContent 0 1 0x5A [] } }

/-- An exchange with address 1 whose window is open. -/
def waiting : State :=
  { ready with link := { ready.link with exchange := some { address := 0, carried := none, awaiting := .window } } }

/-! ### WellFormed refuses ill-formed terms -/

theorem test_unknownCommand_refuses_empty : WellFormed.check (.unknownCommand []) = false := by decide
theorem test_unknownCommand_refuses_read : WellFormed.check (.unknownCommand [0x80, 0xFF]) = false := by decide
theorem test_unknownCommand_refuses_identify : WellFormed.check (.unknownCommand [0x01, 0x00, 0xFF]) = false := by decide
theorem test_unknownCommand_accepts_bad_check : WellFormed.check (.unknownCommand [0x01, 0x00, 0xFE]) = true := by decide
theorem test_frameAbandoned_refuses_start : WellFormed.check (.frameAbandoned (.byte 0xF2) 0) = false := by decide

/-! ### Words of the spec -/

/-- R179's frame of READ_STATION for address 5: 0x40 0x01 0x05 0xBA. -/
theorem test_frame_of_readStation : judgeFrame 0 [0x40, 0x01, 0x05, 0xBA] = .command (.readStation 5) := by decide

/-- R182: IDENTIFY is code 0x01 with no parameters; the check byte makes the sum 0. -/
theorem test_frame_of_identify : judgeFrame 0 [0x01, 0x00, 0xFF] = .command .identify := by decide

/-- R182, R46: SET_ZONE, code 0x30, zone 4, length 400, window 40, most significant byte first. -/
theorem test_frame_of_setZone :
    judgeFrame 0 [0x30, 0x05, 0x04, 0x01, 0x90, 0x00, 0x28, 0x0E] = .command (.setZone 4 400 40) := by decide

/-- R160: the catalogued check value of this CRC (generator 0x8005, preset to ones) over "123456789". -/
theorem test_crc_check_value : crc16 [0x31, 0x32, 0x33, 0x34, 0x35, 0x36, 0x37, 0x38, 0x39] = 0xAEE7 := by decide +kernel

/-- R160: the content bytes 0xF2, 0xF3 and 0xF4 are sent as 0xF4 and 0xE2, 0xE3 or 0xE4. -/
theorem test_escapes : onLine [0xF2, 0x10, 0xF3, 0xF4] = [0xF2, 0xF4, 0xE2, 0x10, 0xF4, 0xE3, 0xF4, 0xE4, 0xF3] := by
  decide

/-- R164: an ANNOUNCE of GATE with MARK. -/
theorem test_report_of_announce : parseReport [0x05, 0x05, 0x40] = some (.announce 5 0x40) := by decide

/-- No row of the table has bits: no word spells a command. -/
theorem test_no_table_words : decodeTableWord 8 1 = none := by decide

/-! ### Worked numbers of the spec -/

/-- 5, worked sequence: overlapping ranges take the larger base, or the higher class number. -/
def workedClasses : ClassTable :=
  { ClassTable.powerOn with
    master := true
    fixed := true
    defaultClass := 6
    bins := #v[some 0, some 0, some 0, some 0, some 0, some 0, some 1, some 1, some 1, some 1, some 2, some 3, none, none,
      none, none]
    ranges := #v[⟨true, 600, 840, 4⟩, ⟨true, 820, 1200, 5⟩, ⟨true, 1300, 1600, 6⟩, ⟨false, 0, 1600, 2⟩,
      ⟨true, 500, 700, 1⟩, ⟨false, 0, 0, 0⟩, ⟨false, 0, 0, 0⟩, ⟨false, 0, 0, 0⟩]
    records := Vector.ofFn fun i =>
      { ClassRecord.powerOn with base := #v[3000, 3500, 4000, 4000, 9000, 9000, 12000, 15000][i] } }

theorem test_classes_resolve :
    [560, 620, 800, 830, 1000, 1250, 1600].map (workedClasses.resolve none) = [3, 4, 4, 5, 5, 6, 6] := by decide

/-- 6.1, worked sequence: warming the filter with n = 2, k = 3 and warm-up count 4. -/
theorem test_filter_warms :
    (([1108, 1120, 1300, 1160, 1090, 1188, 3400, 1173, 1141, 1090].map clampSample).foldl Filter.receive
      { interval := 2, shift := 3, warmup := 4, reportCounter := 0, sampleCount := 0, tf := 0 })
      = { interval := 2, shift := 3, warmup := 4, reportCounter := 0, sampleCount := 4, tf := 1132 } := by decide

/-- R97's table of smoothing steps with k = 3. -/
theorem test_smoothing_steps :
    [(1150, 1254), (1163, 1166), (1163, 1167), (1163, 1159), (1163, 1158), (1163, 1083)].map
      (fun x : Int × Int => smoothed 3 x.1 x.2) = [1163, 1163, 1164, 1163, 1162, 1153] := by decide

/-- 6.4: a piece of class 3 at Tf = 1163. -/
theorem test_dwell_at_temperature :
    dwellLimits { interval := 1, shift := 3, warmup := 16, reportCounter := 0, sampleCount := 16, tf := 1163 }
      { base := 4000, rate := 150, nominalTemp := 1200, coldLimit := 150, gain := 12, factor := 180 } 560
      = { dmin := 11756, dmax := 21160 } := by decide

/-- 6.4: a thin piece, where the band floor acts. -/
theorem test_dwell_band_floor :
    dwellLimits { interval := 1, shift := 3, warmup := 16, reportCounter := 0, sampleCount := 16, tf := 1163 }
      { base := 1200, rate := 20, nominalTemp := 1150, coldLimit := 80, gain := 4, factor := 110 } 200
      = { dmin := 1400, dmax := 1600 } := by decide

/-- 6.4: cold jaws give the cold limit, and an unsettled filter the same dwell. -/
theorem test_dwell_cold :
    dwellLimits { interval := 1, shift := 3, warmup := 16, reportCounter := 0, sampleCount := 16, tf := 1020 }
      { base := 4000, rate := 150, nominalTemp := 1200, coldLimit := 150, gain := 12, factor := 180 } 560
      = { dmin := 22615, dmax := 40707 } := by decide

/-! ### Single steps -/

/-- 11.7: IDENTIFY while the check runs is answered NOT_READY with RUNNING. -/
theorem test_identify_not_ready : (after .identify State.reset).response = some [0x0B, 0x01, 0x00, 0xF4] := by decide +kernel
/-- R190: READ_STATUS after power-up: no flags, all zones in RESET, 96 free tags, none lost. -/
theorem test_readStatus : (after .readStatus ready).response
    = some [0, 13, 0, 0, 0, 0, 0, 0, 2, 2, 2, 2, 2, 96, 0, 0x89] := by decide +kernel
/-- R183: an asserted jaw input at power-on is an assertion. -/
theorem test_powerOn_asserted : (after (.powerOn 5 true) ready).press.hitTimer = some 25 := by decide +kernel
/-- R184. -/
theorem test_memoryCheckFail : (after .memoryCheckFail State.reset).attentionLine = true := by decide +kernel
/-- 11.7: a TRACKING flag with its enable asserts the line; acknowledging it releases the line. -/
theorem test_attention :
    (after (.setAttentionEnable 0x0006) { ready with flags := 0x082 }).attentionLine = true ∧
      (after (.ackAttention 0x0082) { ready with flags := 0x082, enables := 6 }).flags = 0 := by decide +kernel
/-- R192: lamp 0, ATTENTION, ACTIVE_LOW is high while the line is released. -/
theorem test_setLamp : (after (.setLamp 0 4 1 1) ready).lampOutput 0 = true := by decide +kernel
/-- R180: a read of two of a response's three bytes leaves it held; a third consumes it. -/
theorem test_responseRead :
    (after (.responseRead 2) { ready with response := some [0, 0, 0] }).ready = true ∧
      (after (.responseRead 3) { ready with response := some [0, 0, 0] }).ready = false := by decide +kernel
/-- R28, R29, R31. -/
theorem test_job_states :
    ((after (.holdJob 7) inZ1).job 0).map Job.state = some .held ∧
      ((after (.closeJob 7) inZ1).job 0).map Job.state = some .closing := by decide +kernel
/-- R30: AMEND_JOB below good + live is refused. -/
theorem test_amendJob_refused :
    (after (.amendJob 7 1 0) { inZ1 with jobs := inZ1.jobs.set 0 (some { someJob with good := 1 }) }).response
      = some [0x03, 0x00, 0xFD] := by decide +kernel
/-- R87, R88, R90. -/
theorem test_writeBin : (after (.writeBin 15 0xFF) ready).response = some [0, 0, 0] := by decide +kernel
theorem test_writeRange_refused : (after (.writeRange 3 1 1300 1200 2) ready).response = some [3, 0, 0xFD] := by
  decide +kernel
/-- R46: SET_ZONE is taken in RESET only. -/
theorem test_setZone :
    (after (.setZone 1 30000 2000) ready).z1.length = 30000 ∧
      (after (.setZone 1 30000 2000) inZ1).response = some [0x08, 0, 0xF8] := by decide +kernel
/-- R47, R50: the head is overdue one count past L + W = 440, and not at it. -/
theorem test_forwardAdvance :
    (after (.forwardAdvance .z1) { inZ1 with z1 := { inZ1.z1 with encoder := 440 } }).lost = [0] ∧
      (after (.forwardAdvance .z1) { inZ1 with z1 := { inZ1.z1 with encoder := 439 } }).lost = [] := by decide +kernel
theorem test_reverseAdvance : (after (.reverseAdvance .z2) ready).z2.encoder = 0xFFFF := by decide +kernel
/-- R51, R52: the head arrives at travel L − W = 360, and is early below it. -/
theorem test_exitEye :
    (after (.exitEyeLeadingEdge .z1 1) { inZ1 with z1 := { inZ1.z1 with encoder := 360 } }).casing = some 0 ∧
      (after (.exitEyeLeadingEdge .z1 1) { inZ1 with z1 := { inZ1.z1 with encoder := 359 } }).z1.mode = .halt := by
  decide +kernel
/-- R42, R43: a reset of Z1 spoils its piece. -/
theorem test_setZoneMode_reset : ((after (.setZoneMode 1 2) inZ1).job 0).map Job.spoiled = some 1 := by decide +kernel
theorem test_lineClear : (after .lineClear inLost).freeCount = 96 := by decide +kernel
/-- R3, R60, R61. -/
theorem test_resolveLost : (after (.resolveLost 0 9) inLost).lost = [] := by decide +kernel
theorem test_reinstate :
    (after (.reinstate 0 9 1) { inLost with z1 := { inLost.z1 with mode := .run } }).z1.queue = [0] := by decide +kernel
/-- R59: one lost piece, tag 0 with admission number 9. -/
theorem test_listLost : (after (.listLost 1) inLost).response = some [0, 4, 1, 0, 0, 9, 0xF2] := by decide +kernel
/-- R112: a release in CLOSING rejects the hit; a re-assertion in OPENING bridges the dropout. -/
theorem test_jaw_edges :
    (after (.jawContactReleased 9) (inPress .closing)).press.jaw = .opened ∧
      (after (.jawContactAsserted 9) (inPress .opening)).press.jaw = .closed := by decide +kernel
/-- R117: a qualified close at 100 arms the timer for the headroom of 4000. -/
theorem test_hitTimerExpiry :
    (after (.hitTimerExpiry 120) { inPress .closing with
      press := { (inPress .closing).press with assertionTime := 100, hitTimer := some 120 } }).press.overdwellTimer
      = some 4100 := by decide +kernel
/-- R117, R119: a close qualified after its timer's reading takes the expiry in its own step. -/
theorem test_hitTimerExpiry_overdwell :
    let t := after (.hitTimerExpiry 4100) { inPress .closing with
      press := { (inPress .closing).press with assertionTime := 100, hitTimer := some 120 } }
    (t.press.jaw, t.press.overdwellTimer, (t.piece 0).map Piece.faults) = (.closed, none, some 0x0200) := by
  decide +kernel
/-- R115: the contact runs from the close time to the release time. -/
theorem test_bridgeTimerExpiry :
    ((after (.bridgeTimerExpiry 2150) { inPress .opening with
      press := { (inPress .opening).press with
        closeTime := 100, releaseTime := 2100, bridgeTimer := some 2150 } }).piece 0).map Piece.accumulated
      = some 2000 := by decide +kernel
/-- R119: OVERDWELL is added when the timer runs out. -/
theorem test_overdwellTimerExpiry :
    ((after (.overdwellTimerExpiry 4100) { inPress .closed with
      press := { (inPress .closed).press with closeTime := 100, overdwellTimer := some 4100 } }).piece 0).map Piece.faults
      = some 0x0200 := by decide +kernel
/-- R122, R125: an index while CLOSED adds PRESS_SEQUENCE and moves the piece up. -/
theorem test_pressIndex :
    ((after (.pressIndex 500) (inPress .closed)).piece 0).map (fun p => (p.faults, p.place))
      = some (0x0400, .press 4) := by decide +kernel
/-- R166: the poll after address 8 calls address 1. -/
theorem test_poll_wraps : (after .poll { ready with link := { ready.link with next := 7 } }).link.next = 0 := by decide +kernel
/-- R159: the direction output is asserted before the frame is driven and released after it. -/
theorem test_direction :
    (ready.drive [0xF2]).link.sent = [] ∧ ((ready.setDirection true).drive [0xF2]).link.sent = [0xF2] ∧
      inFlight.link.direction = false := by decide +kernel
/-- R163: the POLL to the gate station carries DELIVER for tag 0. -/
theorem test_poll_carries : inFlight.link.sent = onLine (frameContent 5 0 0x50 [0, 1, 0]) := by decide +kernel
/-- R151: a valid empty reply confirms the order; the job's good count rises and the tag is freed. -/
theorem test_reply_confirms :
    let s := (onLine (frameContent 0 5 0x5A [])).foldl State.linkByte inFlight
    ((s.job 0).map Job.good, s.freeCount, s.gateQueue) = (some 1, 96, []) := by decide +kernel
/-- R152: silence retires the piece as diverted. -/
theorem test_replyTimeout : ((after (.replyTimeout 3) inFlight).job 0).map Job.diverted = some 1 := by decide +kernel
/-- R161: a gap abandons the candidate, which is silence. -/
theorem test_gap : (after (.interByteGapExpiry 3) candidate).link.exchange = none := by decide +kernel
theorem test_noStopBit : ((after (.frameAbandoned .noStopBit 3) candidate).station 0).silent = 3 := by decide +kernel
/-- R176: the latch is read and cleared. -/
theorem test_readStation :
    let s := { ready with stations := ready.stations.set 4 { Station.powerOn with latch := true, silent := 3 } }
    (after (.readStation 5) s).response = some [0, 9, 0, 1, 3, 0, 0, 0, 0, 0, 0, 0xF3] ∧
      ((after (.readStation 5) s).station 4).latch = false := by decide +kernel
/-- R65, R74, R165: a clean block of the running job is admitted as tag 1. -/
theorem test_blockScan :
    (inZ1.blockScan true 7 0 320).1 = .admitted 1 0 0 ∧ (inZ1.blockScan true 7 0 321).1 = .admitReject 1 0 0x0010 := by
  decide +kernel
/-- R132, R135: with mismatch limit 2 the first mismatch is held and the second passed. -/
theorem test_caseScan :
    (inCasing.caseScan 4 true).1 = .rejectHold ∧ ({ inCasing with casingMismatch := 1 }.caseScan 4 true).1 = .rejectPass := by
  decide +kernel
/-- R139: a matching jacket is accepted. -/
theorem test_jacketScan : (inJacketing.jacketScan 6 0 true true).1 = .accept := by decide +kernel

/-! ### Invariants of fixtures, by checks -/

/-- A check of `PlacesAgree`. -/
def placesOk (s : State) : Bool :=
  (List.finRange 96).all fun t =>
    match s.piece t with
    | none => timesPlaced s t == 0
    | some p =>
      timesPlaced s t == 1
        && (match p.place with
          | .conveyor z => decide (t ∈ (s.conveyor z).queue) && p.entryCount.isSome
          | .casingSlot => s.casing == some t && p.entryCount.isNone
          | .pressEntry => s.pressEntry == some t && p.entryCount.isNone
          | .press i => s.press.positions[i] == some t && p.entryCount.isNone && p.limits.isSome
          | .jacketingSlot => s.jacketing == some t && p.entryCount.isNone
          | .gateQueue => decide (t ∈ s.gateQueue) && p.entryCount.isNone
          | .lost => decide (t ∈ s.lost) && p.entryCount.isNone)

theorem placesAgree_of_check (s : State) (h : placesOk s = true) : PlacesAgree s := by
  intro t
  have ht := List.all_eq_true.1 h t (List.mem_finRange t)
  revert ht
  cases hp : s.piece t with
  | none => simp
  | some p => cases hq : p.place <;> (simp [StandsIn, hq]; try tauto)

/-- A check of `StationsSound`. -/
def stationsOk (s : State) : Bool :=
  ((List.finRange 8).all fun a =>
    let st := s.station a
    st.role.isSome == st.standing.isSome && (st.role.isSome || st.abilities == 0)
      && (match st.role with
        | some r => st.abilities &&& ~~~r.mayAnnounce == 0
        | none => true)
      && (st.present || (st.role.isNone && st.orders.isEmpty)) && decide (st.silent ≤ 3)
      && (st.standing == some .assigned || st.orders.isEmpty)
      && (st.role == some .gate || st.orders.all fun o => o == .jawRelease)
      && ((st.role == some .press && st.orders == [.jawRelease]) || !st.orders.contains .jawRelease))
    && (List.finRange 8).all fun a => (List.finRange 8).all fun b =>
      a == b || (s.station a).standing != some .assigned || (s.station b).standing != some .assigned
        || (s.station a).role.isNone || (s.station a).role != (s.station b).role

theorem stationsSound_of_check (s : State) (h : stationsOk s = true) : StationsSound s := by
  unfold stationsOk at h
  rw [Bool.and_eq_true, List.all_eq_true, List.all_eq_true] at h
  constructor
  · intro a
    have ha := h.1 a (List.mem_finRange a)
    rw [Bool.and_eq_true, Bool.and_eq_true] at ha
    obtain ⟨⟨entry, gate⟩, jaw⟩ := ha
    have waiting : (∀ o t, Order.gate o t ∈ (s.station a).orders → (s.station a).role = some .gate) ∧
        (Order.jawRelease ∈ (s.station a).orders →
          (s.station a).role = some .press ∧ (s.station a).orders = [.jawRelease]) := by
      refine ⟨fun o t m => ?_, fun m => ?_⟩
      · rw [Bool.or_eq_true, List.all_eq_true] at gate
        exact gate.elim eq_of_beq fun all => by simpa using all _ m
      · rw [Bool.or_eq_true, Bool.and_eq_true] at jaw
        exact jaw.elim (fun p => ⟨eq_of_beq p.1, eq_of_beq p.2⟩) fun none => by simp [m] at none
    revert entry
    revert waiting
    cases hr : (s.station a).role <;> cases hs : (s.station a).standing <;> simp [hr, hs] <;> tauto
  · intro a b r ha hb
    have hab := h.2 a (List.mem_finRange a)
    rw [List.all_eq_true] at hab
    have := hab b (List.mem_finRange b)
    rw [Holds] at ha hb
    simpa [ha.1, hb.1, ha.2, hb.2] using this

theorem ready_job (j : JobSlot) : ready.job j = none := by revert j; decide +kernel
theorem inZ1_job (j : JobSlot) : inZ1.job j = if j = 0 then some someJob else none := by revert j; decide +kernel
theorem inZ1_piece (t : Tag) : inZ1.piece t = if t = 0 then some somePiece else none := by revert t; decide +kernel

theorem inZ1_places : PlacesAgree inZ1 := placesAgree_of_check _ (by decide +kernel)
theorem inZ1_stations : StationsSound inZ1 := stationsSound_of_check _ (by decide +kernel)

/-- A numbered job whose copy 2 stands in Z1 as tag 0. -/
def numberedInZ1 : State :=
  { withPiece numberedJob { somePiece with copy := some 2 } fun s =>
      { s with z1 := { s.z1 with mode := .run, queue := [0] } } with
    copyTables := ready.copyTables.set 0 [.unseen, .inLine, .spoiled] }

theorem numbered_job (j : JobSlot) : numberedInZ1.job j = if j = 0 then some numberedJob else none := by
  revert j; decide +kernel

theorem numbered_table_sound : JobTableSound numberedInZ1 := by
  have one : ∀ j b, numberedInZ1.job j = some b → j = 0 ∧ b = numberedJob := by
    intro j b h
    rw [numbered_job] at h
    split at h
    · exact ⟨‹_›, (Option.some.inj h).symm⟩
    · cases h
  refine ⟨fun j k b c hb hc _ => ?_, fun j b n hb hn => ?_, fun j k b c n m hb hc _ _ _ => ?_⟩
  · rw [(one j b hb).1, (one k c hc).1]
  · obtain ⟨rfl, rfl⟩ := one j b hb
    cases hn
    decide +kernel
  · rw [(one j b hb).1, (one k c hc).1]

theorem numbered_live_exact : LiveCountsExact numberedInZ1 := by
  intro j
  by_cases h : j = 0
  · subst h
    rw [numbered_job, if_pos rfl]
    decide +kernel
  · rw [numbered_job, if_neg h]
    revert j
    decide +kernel

theorem numbered_copies_agree : CopiesAgree numberedInZ1 := by
  intro j b n hb hn copy h1 h2
  rw [numbered_job] at hb
  split at hb
  · subst j
    cases hb
    cases hn
    have h1 : 1 ≤ copy := h1
    have h2 : copy ≤ 3 := h2
    interval_cases copy <;> decide +kernel
  · cases hb

theorem inZ1_reset_zones : ResetZonesEmpty inZ1 := by
  refine ⟨fun z => ?_, fun h => ?_⟩
  · cases z <;> decide +kernel
  · intro a o t
    have : ∀ a, (inZ1.station a).orders = [] := by decide +kernel
    simp [this a]

theorem inZ1_capacity : WithinCapacity inZ1 := by
  refine ⟨fun z => ?_, by decide +kernel, by decide +kernel⟩
  cases z <;> decide +kernel

theorem inPress_limits : DwellLimitsLegal (inPress .closed) := by
  have one : ∀ t, (inPress .closed).piece t = if t = 0 then (inPress .closed).piece 0 else none := by decide +kernel
  intro t p l hp hl
  rw [one] at hp
  split at hp
  · have : (inPress .closed).piece 0 = some { somePiece with
        place := .press 3, entryCount := none, caseStatus := .married, limits := some { dmin := 2000, dmax := 4000 } } := by
      decide +kernel
    rw [this] at hp
    cases hp
    cases hl
    decide
  · cases hp

/-! ### Witnesses: for each statement with hypotheses, what meets them -/

theorem witness_IdleStepPassesMillisecond : ready.pending = [] := rfl
theorem witness_PowerUp : State.reset.check = .running ∧ ready.check ≠ .running ∧ failed.check ≠ .pass := by decide +kernel
theorem witness_NotReadyUntilCheckPasses :
    (commandCode .identify = some 0x01 ∧ State.reset.check = .running) ∧
      (commandCode .lineClear = some 0x33 ∧ failed.check = .fail ∧ (0x33 : Byte) ≠ 0x01 ∧ (0x33 : Byte) ≠ 0x02) := by
  decide +kernel
theorem witness_HostCommandLeavesResponse : commandCode (.readStation 5) = some 0x40 := rfl
theorem witness_OkResponsesHaveTableLength :
    commandCode .readStatus = some 0x02 ∧ okDataLength 0x02 = some 13 ∧
      ∃ rest, exec .readStatus ready = .next (after .readStatus ready) ∧
        (after .readStatus ready).response = some (0x00 :: rest) :=
  ⟨rfl, rfl, [13, 0, 0, 0, 0, 0, 0, 2, 2, 2, 2, 2, 96, 0, 0x89], rfl, test_readStatus⟩
theorem witness_IdentifyAndReadStatusAnswer :
    ready.check ≠ .running ∧ failed.check ≠ .running ∧
      ZoneMode.code .run = 0 ∧ ZoneMode.code .halt = 1 ∧ ZoneMode.code .reset = 2 := by decide +kernel
theorem witness_AttentionCommandsAndLine :
    ready.check = .pass ∧ (0x0200 : Word16) &&& 0xFE00 ≠ 0 ∧ (0x01FF : Word16) &&& 0xFE00 = 0 ∧
      (after (.setLamp 0 4 0 0) ready).lamps[0].source = .attention := by decide +kernel
theorem witness_LampsShowTheirSource :
    ready.check = .pass ∧
      [LampSource.off, .on, .allRun, .anyHalt, .attention, .lostPresent, .cold, .deliverPulse, .divertPulse][(8 : Byte).toNat]?
        = some .divertPulse ∧
      (1 : Byte).toNat ≤ 1 ∧ (3 : Byte).toNat ≤ 3 ∧
      3 < (4 : Byte).toNat ∧ 8 < (9 : Byte).toNat ∧ 1 < (2 : Byte).toNat ∧
      (let s := { ready with lamps := ready.lamps.set 3 { Lamp.powerOn with stretch := 500, stretchEnd := some 600 } };
        s.lamps[3].stretchEnd = some (100 + BitVec.ofNat 32 s.lamps[3].stretch) ∧ s.lamps[3].stretch ≤ 500) := by
  decide +kernel
theorem witness_HostFrameRoundTrip :
    commandFrame (.readStation 5) = some [0x40, 0x01, 0x05, 0xBA] ∧ (∀ u, Instr.readStation 5 = .readPress u → u = 0) ∧
      commandFrame (.readPress 8) = some [0x2A, 0x00, 0xD6] ∧ ∀ u, Instr.readPress 8 = .readPress u → u = 8 :=
  ⟨by decide, nofun, by decide, fun _ h => (Instr.readPress.inj h).symm⟩
theorem witness_WrittenFramesAreJudged :
    (0x01 : Byte) ≠ 0x80 ∧ 60 < (61 : Byte).toNat ∧ byteSum [0x01, 0x00, 0xFE] ≠ 0 ∧
      (byteSum [0x41, 0x00, 0xBF] = 0 ∧ parameterCount 0x41 = none) ∧
      (byteSum [0x01, 0x01, 0x00, 0xFE] = 0 ∧ parameterCount 0x01 = some 0 ∧ (0x01 : Byte).toNat ≠ 0) ∧
      commandFrame (.readPress 0) = some [0x2A, 0x00, 0xD6] ∧ ready.timeBase = 0 := by decide +kernel
theorem witness_ResponseReadConsumesWholeResponse :
    ready.response = none ∧
      (let r : List Byte := [0, 0, 0];
        ({ ready with response := some r } : State).response = some r ∧ r.length ≤ 3 ∧ 2 < r.length) := by decide +kernel

/-- Parameters of LOAD_JOB with every field at the bottom of its range, not numbered. -/
def lowParams : JobParams :=
  { key := 1, nominal := 40, tolerance := 0, caseCode := 1, jacketCode := 0, firstCopy := 0, lastCopy := 0,
    classOverride := 0, ordered := 1, allowance := 0, casePolicy := 0, jacketPolicy := 0, mismatchLimit := 1,
    overdwellPolicy := 0 }
/-- Parameters of LOAD_JOB with every field at the top of its range, numbered. -/
def highParams : JobParams :=
  { key := 0xFFFFFFFF, nominal := 1600, tolerance := 200, caseCode := 0xFFFFFF, jacketCode := 0xFFFFFF,
    firstCopy := 63488, lastCopy := 65535, classOverride := 0xFF, ordered := 60000, allowance := 255, casePolicy := 1,
    jacketPolicy := 1, mismatchLimit := 15, overdwellPolicy := 1 }

theorem ready_tables_free (t : CopyTableId) : TableFree ready t := by
  intro j b n h
  rw [ready_job] at h
  cases h

theorem witness_LoadJobTakesLowestEmptySlot :
    ready.check = .pass ∧ LegalJob lowParams ∧ LegalJob highParams ∧ lowParams.firstCopy = 0 ∧ highParams.firstCopy ≠ 0 ∧
      (∀ k b, ready.job k = some b → b.key ≠ lowParams.key ∧ b.key ≠ highParams.key) ∧ ready.job 0 = none ∧
      (∀ k < (0 : JobSlot), ready.job k ≠ none) ∧ TableFree ready 0 ∧ ∀ u < (0 : CopyTableId), ¬TableFree ready u := by
  refine ⟨rfl, by unfold LegalJob; decide, by unfold LegalJob; decide, rfl, by decide, ?_, rfl, nofun,
    ready_tables_free 0, nofun⟩
  intro k b h
  rw [ready_job] at h
  cases h

/-- The job of a slot in a full table. -/
def fullJob (j : JobSlot) : Job :=
  { someJob with
    key := BitVec.ofNat 32 (j.val + 100)
    numbered := if h : j.val < 4 then some { first := 1, last := 1, table := ⟨j.val, h⟩ } else none }

/-- Every job slot taken; the four copy tables too. -/
def fullTable : State := { ready with jobs := Vector.ofFn fun j => some (fullJob j) }

theorem fullTable_key (j : JobSlot) : (fullTable.job j).map Job.key = some (BitVec.ofNat 32 (j.val + 100)) := by
  revert j; decide +kernel

theorem witness_LoadJobRefusedInOrder :
    ready.check = .pass ∧ ¬LegalJob { lowParams with nominal := 39 } ∧
      (LegalJob { lowParams with key := 7 } ∧ ∃ j b, inZ1.job j = some b ∧ b.key = 7) ∧
      (LegalJob lowParams ∧ (∀ j b, fullTable.job j = some b → b.key ≠ lowParams.key) ∧ ∀ j, fullTable.job j ≠ none) ∧
      (let s := { fullTable with jobs := fullTable.jobs.set 31 none };
        (∃ j, s.job j = none) ∧ highParams.firstCopy ≠ 0 ∧ ∀ t, ¬TableFree s t) := by
  refine ⟨rfl, by unfold LegalJob; decide, ⟨by unfold LegalJob; decide, 0, someJob, by rw [inZ1_job]; rfl, rfl⟩,
    ⟨by unfold LegalJob; decide, ?_, by decide +kernel⟩, ⟨31, by decide +kernel⟩, by decide, ?_⟩
  · intro j b h
    have hk := fullTable_key j
    rw [h] at hk
    rw [Option.map_some, Option.some.injEq] at hk
    rw [hk]
    clear h hk
    revert j
    decide +kernel
  · intro t hf
    have : ∀ t : CopyTableId, ∃ b n, ({ fullTable with jobs := fullTable.jobs.set 31 none } : State).job (t.castLE (by decide))
        = some b ∧ b.numbered = some n ∧ n.table = t := by
      intro t
      refine ⟨{ someJob with key := BitVec.ofNat 32 (t.val + 100), numbered := some { first := 1, last := 1, table := t } },
        { first := 1, last := 1, table := t }, ?_, rfl, rfl⟩
      revert t
      decide +kernel
    obtain ⟨b, n, hb, hn, ht⟩ := this t
    exact hf _ b n hb hn ht

/-- The job of slot 0 in another state, with other figures. -/
def jobAs (b : Job) : State := { ready with jobs := ready.jobs.set 0 (some b) }

theorem witness_JobStateCommandsMoveJob :
    (7 : Word32) ≠ 0 ∧ someJob.state ≠ .closing ∧ inZ1.check = .pass ∧ inZ1.findJob 7 = some (0, someJob) ∧
      (let b := { someJob with state := .loaded, live := 0, good := 9 };
        (jobAs b).findJob 7 = some (0, b) ∧ b.good < b.ordered ∧ b.live = 0 ∧ b.state ≠ .running) ∧
      (let b := { someJob with state := .held, good := 10 };
        (jobAs b).findJob 7 = some (0, b) ∧ b.ordered ≤ b.good) ∧
      someJob.state = .running ∧ someJob.live ≠ 0 := by decide +kernel
theorem witness_AmendJobReplacesFigures :
    (7 : Word32) ≠ 0 ∧ inZ1.findJob 7 = some (0, someJob) ∧ someJob.state ≠ .closing ∧
      (0 : Word16).toNat < 1 ∧ 60000 < (60001 : Word16).toNat ∧
      (let b := { someJob with good := 2 };
        (jobAs b).findJob 7 = some (0, b) ∧ (2 : Word16).toNat + (0 : Byte).toNat < b.good + b.live ∧
          1 ≤ (2 : Word16).toNat ∧ (2 : Word16).toNat ≤ 60000 ∧ b.good + b.live ≤ (2 : Word16).toNat + (1 : Byte).toNat) := by
  decide +kernel
theorem witness_JobKeyLookupRefusals :
    inZ1.findJob 7 = some (0, someJob) ∧ inZ1.job 0 = some someJob ∧ ready.check = .pass ∧
      Instr.findJob 8 ∈ [.releaseJob 8, .holdJob 8, .amendJob 8 1 0, .closeJob 8, .findJob 8] ∧
      (∀ j b, ready.job j = some b → b.key ≠ 8) ∧
      (let b := { someJob with state := .closing };
        (jobAs b).findJob 7 = some (0, b)) := by
  refine ⟨by decide +kernel, by decide +kernel, rfl, by decide, fun j b h => ?_, by decide +kernel⟩
  rw [ready_job] at h
  cases h
theorem witness_ReadJobAndFindJobAnswer :
    inZ1.check = .pass ∧ 31 < (32 : Byte).toNat ∧ inZ1.job 31 = none ∧ inZ1.job 0 = some someJob ∧
      inZ1.findJob 7 = some (0, someJob) ∧ someJob.state ≠ .closing := by decide +kernel
theorem witness_ReadCopiesAnswersEntries :
    numberedInZ1.check = .pass ∧ 31 < (32 : Byte).toNat ∧ 64 < (65 : Byte).toNat ∧
      (numberedInZ1.job 31).bind Job.numbered = none ∧
      (∃ b n, numberedInZ1.job 0 = some b ∧ b.numbered = some n ∧ (0 : Word16).toNat < n.first ∧
        n.last < (2 : Word16).toNat + (3 : Byte).toNat - 1 ∧ n.first ≤ (1 : Word16).toNat ∧
        (1 : Word16).toNat + (3 : Byte).toNat - 1 ≤ n.last) ∧ JobTableSound numberedInZ1 :=
  ⟨rfl, by decide, by decide, by decide +kernel, ⟨numberedJob, ⟨1, 3, 0⟩, by decide +kernel⟩, numbered_table_sound⟩
theorem witness_ClassTableWritesReplaceEntries :
    ready.check = .pass ∧ (1600 : Word16).toNat ≤ 1600 ∧
      LegalFigures ⟨500, 0, 500, 0, 0, 110⟩ ∧ LegalFigures ⟨20000, 2000, 2500, 500, 255, 400⟩ ∧
      ¬LegalFigures ⟨499, 0, 500, 0, 0, 110⟩ ∧ 15 < (16 : Byte).toNat ∧ (7 < (8 : Byte).toNat ∧ (8 : Byte) ≠ 0xFF) ∧
      1600 < (1601 : Word16).toNat ∧ 2 < (3 : Byte).toNat := by
  unfold LegalFigures; decide
theorem witness_SetClassTableAnswersTable :
    ready.check = .pass ∧ (2 : Byte).toNat ≤ 2 ∧ (1 : Byte).toNat ≤ 2 ∧ (7 : Byte).toNat ≤ 7 ∧
      (let c := { ready.classTable with fixed := true, defaultClass := 7 };
        c.bins = ready.classTable.bins ∧ c.ranges = ready.classTable.ranges ∧ c.records = ready.classTable.records ∧
          c.master = ready.classTable.master ∧ c.fixed = decide ((1 : Byte) = 1) ∧
          c.defaultClass.val = (7 : Byte).toNat) := by decide +kernel
theorem witness_ClassResolvesByFirstStep :
    ClassTable.powerOn.master = false ∧ workedClasses.master = true ∧ workedClasses.fixed = true ∧
      workedClasses.bins[0] = some 0 ∧ workedClasses.bins[799 / 50] = none ∧
      (∀ i : Fin 8, ¬(workedClasses.ranges[i].enabled = true ∧ workedClasses.ranges[i].low ≤ 1250 ∧
        1250 ≤ workedClasses.ranges[i].high)) ∧
      ∃ i : Fin 8, workedClasses.ranges[i].enabled = true ∧ workedClasses.ranges[i].low ≤ 830 ∧
        830 ≤ workedClasses.ranges[i].high := by decide +kernel
theorem witness_SetFilterRestartsWarmUp :
    ready.check = .pass ∧ (0 : Byte).toNat < 1 ∧ 6 < (7 : Byte).toNat ∧ 1 ≤ (6 : Byte).toNat ∧ (6 : Byte).toNat ≤ 6 ∧
      (1 : Byte) ≠ 0 := by decide +kernel
theorem witness_FilterTakesEveryNthSample :
    Filter.powerOn.interval = 0 ∧
      (let f := { Filter.powerOn with interval := 2 };
        f.interval ≠ 0 ∧ f.reportCounter + 1 < f.interval ∧ f.sampleCount = 0) ∧
      (let f := { Filter.powerOn with interval := 2, reportCounter := 1, sampleCount := 1 };
        f.interval ≠ 0 ∧ f.interval ≤ f.reportCounter + 1 ∧ f.sampleCount ≠ 0) := by decide +kernel
theorem witness_FilterStaysBetweenSamples :
    1 ≤ Filter.powerOn.shift ∧ ∀ x ∈ (1120 : Int) :: [1160, 1188, 1173, 1090], 1090 ≤ x ∧ x ≤ 1188 := by decide +kernel
theorem witness_DwellIsComputedExactly :
    500 ≤ ClassRecord.powerOn.base ∧ ClassRecord.powerOn.base ≤ 20000 ∧ ClassRecord.powerOn.rate ≤ 2000 ∧
      500 ≤ 180000 ∧ 180000 ≤ 180000 ∧ 255 ≤ 255 ∧ 500 ≤ 500 := by decide
theorem witness_PressEntryFixesDwell :
    Filter.powerOn.interval = 0 ∧
      (let f := { Filter.powerOn with interval := 1, sampleCount := 15 };
        f.interval ≠ 0 ∧ f.sampleCount < f.warmup) ∧
      (let f := { Filter.powerOn with interval := 1, sampleCount := 16 };
        f.interval ≠ 0 ∧ f.sampleCount ≠ 0 ∧ f.warmup ≤ f.sampleCount) ∧
      (∃ p, inZ1.piece 0 = some p ∧ p.limits = none) ∧ ∃ p, (inPress .closed).piece 0 = some p ∧ p.limits ≠ none :=
  ⟨by decide +kernel, by decide +kernel, by decide +kernel, ⟨somePiece, by decide +kernel⟩,
    ⟨{ somePiece with
        place := .press 3, entryCount := none, caseStatus := .married, limits := some { dmin := 2000, dmax := 4000 } },
      by decide +kernel⟩⟩

theorem witness_JawTimesAndReadPress :
    ready.check = .pass ∧ 200 < (201 : Word16).toNat ∧ (200 : Word16).toNat ≤ 200 ∧ ready.press.overdwellTimer = none ∧
      (let s := { inPress .opening with
          press := { (inPress .opening).press with overdwellTimer := some 4100, overdwellDeferred := true } };
        s.check = .pass ∧ s.press.overdwellTimer ≠ none ∧ s.press.overdwellDeferred = true) ∧
      (let s := { inPress .closed with
          press := { (inPress .closed).press with closeTime := 100, overdwellTimer := some 4100 } };
        s.press.overdwellDeferred = false ∧
          3000 = ((4100 : Word32) - s.press.closeTime).toNat - ((1100 : Word32) - s.press.closeTime).toNat) := by
  decide +kernel

theorem witness_JawTimesAndReadPress_filter :
    ready.filter.interval = 0 ∧
      (let f := { ready.filter with interval := 1 }; f.interval ≠ 0 ∧ f.sampleCount = 0) ∧
      (let f := { ready.filter with interval := 1, sampleCount := 1 };
        f.interval ≠ 0 ∧ 1 ≤ f.sampleCount ∧ f.sampleCount < f.warmup) ∧
      (let f := { ready.filter with interval := 1, sampleCount := 16 };
        f.interval ≠ 0 ∧ 1 ≤ f.warmup ∧ f.sampleCount = f.warmup) := by decide +kernel

/-- A press with other jaw times. -/
def withTimes (jaw : JawState) (hit bridge : Nat) : State :=
  { inPress jaw with press := { (inPress jaw).press with hitTime := hit, bridgeTime := bridge } }

theorem witness_JawEdgesMoveJawState :
    ((inPress .opened).press.jaw = .opened ∧ (inPress .opened).press.hitTime ≠ 0) ∧
      ((withTimes .opened 0 0).press.jaw = .opened ∧ (withTimes .opened 0 0).press.hitTime = 0) ∧
      ((inPress .opening).press.jaw = .opening ∧ (inPress .opening).press.overdwellDeferred = false) ∧
      ({ (inPress .opening).press with overdwellDeferred := true }.jaw = .opening) ∧
      (inPress .closing).press.jaw = .closing ∧
      ((inPress .closed).press.jaw = .closed ∧ (inPress .closed).press.bridgeTime ≠ 0) ∧
      (withTimes .closed 0 0).press.bridgeTime = 0 := by decide +kernel
theorem witness_PressTimersRunOut :
    (let p := { (inPress .closing).press with assertionTime := 100, hitTimer := some 120 };
      p.jaw = .closing ∧ p.hitTimer = some 120 ∧
        ((120 : Word32) - p.assertionTime).toNat ≤ ((120 : Word32) - p.assertionTime).toNat) ∧
      (let p := { (inPress .opening).press with releaseTime := 100, bridgeTimer := some 150, overdwellTimer := some 150 };
        p.jaw = .opening ∧ p.bridgeTimer = some 150 ∧ p.overdwellTimer = some 150 ∧ p.overdwellDeferred = false ∧
          ((150 : Word32) - p.releaseTime).toNat ≤ ((150 : Word32) - p.releaseTime).toNat) ∧
      (let p := { (inPress .closed).press with closeTime := 100, overdwellTimer := some 4100 };
        p.jaw = .closed ∧ p.overdwellTimer = some 4100 ∧ p.overdwellDeferred = false ∧
          ((4100 : Word32) - p.closeTime).toNat ≤ ((4100 : Word32) - p.closeTime).toNat) ∧
      (ready.press.hitTimer = none ∧ ready.press.bridgeTimer = none ∧ ready.press.overdwellTimer = none) ∧
      (ready.press.jaw ≠ .closing ∧ ready.press.jaw ≠ .opening ∧ ready.press.jaw = .opened) ∧
      (let p := { (inPress .closing).press with assertionTime := 100, hitTimer := some 120 };
        p.hitTimer = some 120 ∧
          ((119 : Word32) - p.assertionTime).toNat < ((120 : Word32) - p.assertionTime).toNat) ∧
      (let p := { (inPress .opening).press with
          releaseTime := 100, closeTime := 100, bridgeTimer := some 150, overdwellTimer := some 150
          overdwellDeferred := true };
        p.bridgeTimer = some 150 ∧ p.overdwellTimer = some 150 ∧ p.overdwellDeferred = true ∧
          ((149 : Word32) - p.releaseTime).toNat < ((150 : Word32) - p.releaseTime).toNat ∧
          ((149 : Word32) - p.closeTime).toNat < ((150 : Word32) - p.closeTime).toNat) := by
  decide +kernel
theorem witness_QualifiedCloseArmsOverdwellTimer :
    ∃ (i : Fin 12) (p : Piece) (l : DwellLimits), 1 ≤ i.val ∧ i.val ≤ 8 ∧ (inPress .closing).press.positions[i] = some 0 ∧
      (inPress .closing).piece 0 = some p ∧ p.limits = some l ∧
      (({ inPress .closing with timeBase := 4099 } : State).qualifyClose 100).press.overdwellTimer = some 4100 ∧
      (({ inPress .closing with timeBase := 4100 } : State).qualifyClose 100).flagSet .overdwell = true ∧
      (({ inPress .opened with press := ready.press } : State).qualifyClose 100).press.overdwellTimer = none :=
  ⟨3, { somePiece with
      place := .press 3, entryCount := none, caseStatus := .married, limits := some { dmin := 2000, dmax := 4000 } },
    { dmin := 2000, dmax := 4000 }, by decide +kernel⟩
theorem witness_QualifiedOpenAccumulatesContact :
    (∃ i : Fin 12, 1 ≤ i.val ∧ i.val ≤ 8 ∧ (inPress .closed).press.positions[i] = some 0) ∧
      ∀ i : Fin 12, 1 ≤ i.val → i.val ≤ 8 → (inPress .closed).press.positions[i] ≠ some 1 := by decide +kernel
theorem witness_OverdwellExpiryMarksAndReleases :
    (inPress .closed).holder .press = none ∧
      ({ inPress .closed with stations := (inPress .closed).stations.set 2 (holding .press 0x0C) } : State).holder .press
        = some 2 ∧
      (∃ p l, (inPress .closed).piece 0 = some p ∧ p.limits = some l) ∧
      ∀ p, (inPress .closed).piece 1 = some p → p.limits = none :=
  ⟨by decide +kernel, by decide +kernel,
    ⟨{ somePiece with
        place := .press 3, entryCount := none, caseStatus := .married, limits := some { dmin := 2000, dmax := 4000 } },
      { dmin := 2000, dmax := 4000 }, by decide +kernel⟩,
    fun p h => by
      have : (inPress .closed).piece 1 = none := by decide +kernel
      rw [this] at h
      cases h⟩

/-- The piece in the press entry hold, with Z3 in a mode. -/
def inHold (m : ZoneMode) : State :=
  withPiece someJob { somePiece with place := .pressEntry, entryCount := none, caseStatus := .married } fun s =>
    { s with z2 := { s.z2 with mode := .run }, z3Mode := m, pressEntry := some 0 }

/-- The piece past its maximum under the jaws. -/
def overPressed : State :=
  (inPress .closed).updatePiece 0 fun p => { p with accumulated := 5000 }

theorem witness_PressIndexMovesPress_overPressed :
    PlacesAgree overPressed ∧ overPressed.press.jaw = .closed ∧
      (let t := after (.pressIndex 500) overPressed;
        t.press.jaw = .closed ∧ t.press.overdwellTimer = none ∧ t.flagSet .overdwell = true ∧
          (t.piece 0).map Piece.faults = some 0x0600) :=
  ⟨placesAgree_of_check _ (by decide +kernel), by decide +kernel, by decide +kernel⟩
theorem witness_PressIndexMovesPress :
    PlacesAgree (inPress .opened) ∧ PlacesAgree (inPress .closing) ∧ PlacesAgree (inPress .closed) ∧
      PlacesAgree (inPress .opening) ∧
      (∃ (i : Fin 11) (p : Piece), (inPress .opened).press.positions[i.val] = some 0 ∧
        (inPress .opened).piece 0 = some p ∧ p.place = .press i.castSucc) ∧
      (∀ i : Fin 12, (inPress .opened).press.positions[i] ≠ some 1) ∧
      ready.pressEntry = none ∧ ((inHold .reset).pressEntry = some 0 ∧ (inHold .reset).z3Mode = .reset) ∧
      ((inHold .halt).pressEntry = some 0 ∧ (inHold .halt).z3Mode ≠ .reset ∧ ∃ p, (inHold .halt).piece 0 = some p) ∧
      (∃ reading, (after (.pressIndex 500) (inPress .closed)).press.overdwellTimer = some reading) ∧
      (after (.pressIndex 500) { ready with press := { ready.press with jaw := .closed } }).press.overdwellTimer = none :=
  ⟨placesAgree_of_check _ (by decide +kernel), placesAgree_of_check _ (by decide +kernel),
    placesAgree_of_check _ (by decide +kernel), placesAgree_of_check _ (by decide +kernel),
    ⟨3, { somePiece with
        place := .press 3, entryCount := none, caseStatus := .married, limits := some { dmin := 2000, dmax := 4000 } },
      by decide +kernel⟩, by decide +kernel, by decide +kernel, by decide +kernel,
    ⟨by decide +kernel, by decide +kernel,
      { somePiece with place := .pressEntry, entryCount := none, caseStatus := .married }, by decide +kernel⟩,
    ⟨4000, by decide +kernel⟩, by decide +kernel⟩

/-- The piece in position 11, with its dwell below the minimum. -/
def atDischarge : State :=
  { inPress .opened with press := { (inPress .opened).press with positions := ready.press.positions.set 11 (some 0) } }

theorem witness_IndexForcesOpenAndDischarges :
    (inPress .opened).press.positions[11] = none ∧ atDischarge.press.positions[11] = some 0 ∧
      (∃ p l, atDischarge.piece 0 = some p ∧ p.limits = some l) ∧ (ready.conveyor .z4).mode = .reset ∧
      ((inZ1.conveyor .z1).mode ≠ .reset ∧ (inZ1.conveyor .z1).queue.length < ConveyorZone.z1.capacity) ∧
      (let s := inZ1.setConveyor .z1 { inZ1.z1 with queue := List.replicate 24 0 };
        (s.conveyor .z1).mode ≠ .reset ∧ ConveyorZone.z1.capacity ≤ (s.conveyor .z1).queue.length) :=
  ⟨by decide +kernel, by decide +kernel,
    ⟨{ somePiece with
        place := .press 3, entryCount := none, caseStatus := .married, limits := some { dmin := 2000, dmax := 4000 } },
      { dmin := 2000, dmax := 4000 }, by decide +kernel⟩, by decide +kernel, by decide +kernel, by decide +kernel⟩
theorem witness_SetZoneAndModes :
    ready.check = .pass ∧ (∀ z ∈ [1, 2, 4, 5], (3 : Byte).toNat ≠ z) ∧ (399 : Word16).toNat < 400 ∧
      2000 < (2001 : Word16).toNat ∧
      ((4 : Byte).toNat, ConveyorZone.z4) ∈ [(1, .z1), (2, .z2), (4, .z4), (5, .z5)] ∧ 400 ≤ (30000 : Word16).toNat ∧
      (30000 : Word16).toNat + (2000 : Word16).toNat ≤ 32000 ∧ 5 < (6 : Byte).toNat ∧ 2 < (3 : Byte).toNat ∧
      ((3 : Byte).toNat, Zone.z3) ∈ [(1, Zone.z1), (2, .z2), (3, .z3), (4, .z4), (5, .z5)] ∧
      ((2 : Byte).toNat, ZoneMode.reset) ∈ [(0, ZoneMode.run), (1, .halt), (2, .reset)] ∧ ready.mode .z3 = .reset ∧
      ready.mode .z3 ≠ .run ∧ inZ1.mode .z1 ≠ .reset := by decide +kernel
theorem witness_ZoneResetSpoilsItsPieces : PlacesAgree inZ1 ∧ inZ1.mode .z1 ≠ .reset :=
  ⟨inZ1_places, by decide +kernel⟩
theorem witness_LineClearEmptiesLine : inZ1.check = .pass ∧ PlacesAgree inZ1 ∧ ResetZonesEmpty inZ1 :=
  ⟨rfl, inZ1_places, inZ1_reset_zones⟩
theorem witness_EncoderAdvancesCountAndDropOverdue :
    PlacesAgree { inZ1 with z1 := { inZ1.z1 with encoder := 440 } } := placesAgree_of_check _ (by decide +kernel)

/-- A piece at the head of a zone with travel 360, and an occupant, tag 1, in the slot beyond it. -/
def arriving (z : ConveyorZone) : State :=
  ({ ready with
      pool := (ready.pool.set 0 (some { somePiece with place := .conveyor z })).set 1 (some somePiece)
      casing := some 1
      pressEntry := some 1
      jacketing := some 1 } : State).setConveyor z
    { Conveyor.powerOn with mode := .run, encoder := 360, queue := [0] }

theorem witness_ExitEyeJudgesHead :
    (ready.conveyor .z1).mode = .reset ∧
      (let s := { ready with z1 := { ready.z1 with mode := .halt } };
        (s.conveyor .z1).mode ≠ .reset ∧ (s.conveyor .z1).queue = []) ∧
      ∀ z ∈ [ConveyorZone.z1, .z2, .z4, .z5], ((arriving z).conveyor z).mode ≠ .reset ∧
        ((arriving z).conveyor z).queue = 0 :: [] ∧
        (arriving z).piece 0 = some { somePiece with place := .conveyor z } ∧ somePiece.entryCount = some 0 ∧
        ((((arriving z).conveyor z).length : ℤ) - (((arriving z).conveyor z).window : ℤ))
          ≤ max (((arriving z).conveyor z).encoder - 0).toInt 0 ∧
        (arriving z).casing = some 1 ∧ (arriving z).pressEntry = some 1 ∧ (arriving z).jacketing = some 1 ∧
        (arriving z).piece 1 = some somePiece := by decide +kernel
theorem inZ1_95 : inZ1.piece 95 = none := by decide +kernel

theorem witness_ReadsOfZonesAndPiecesAnswer :
    inZ1.check = .pass ∧ 5 < (6 : Byte).toNat ∧ 96 < (97 : Byte).toNat ∧ (96 : Byte).toNat ≤ 96 ∧ 95 < (96 : Byte).toNat ∧
      (∀ p, inZ1.piece 95 = some p → p.admission ≠ 9) ∧ inZ1.piece 0 = some somePiece ∧
      ((0, byteOf (inZ1.z1.queue.idxOf 0)) : Byte × Byte) = (0, 0) :=
  ⟨rfl, by decide, by decide, by decide, by decide, fun p h => absurd (h.symm.trans inZ1_95) nofun, by decide +kernel,
    by decide +kernel⟩
theorem witness_ReadsOfZonesAndPiecesAnswer_lost :
    (∃ p, inLost.piece 0 = some p ∧ p.place = .lost) ∧ inLost.lost = [] ++ 0 :: [] ∧ (0 : Tag) ∈ inLost.lost ∧
      (1 : Byte) = byteOf (([] : List Tag).length + 1) ∧
      (after (.readPiece 0 9) inLost).response.map (fun r => r[27]?) = some (some 1) :=
  ⟨⟨{ somePiece with place := .lost, entryCount := none, faults := FaultKind.tracking.bit }, by decide +kernel⟩,
    by decide +kernel, by decide +kernel, by decide, by decide +kernel⟩
theorem witness_LostPiecesAreResolvedOrReinstated :
    inLost.check = .pass ∧ 95 < (96 : Byte).toNat ∧
      ((5 : Byte).toNat, ConveyorZone.z5) ∈ [(1, .z1), (2, .z2), (4, .z4), (5, .z5)] ∧
      (∀ p, inZ1.piece 95 = some p → p.admission ≠ 9) ∧ (0 : Tag) ∈ inLost.lost ∧ (0 : Tag) ∉ inZ1.lost ∧
      inZ1.piece 0 = some somePiece ∧ (inLost.piece 0).map Piece.admission = some 9 ∧
      (inLost.conveyor .z5).mode = .reset ∧
      (let s := inLost.setConveyor .z5 { inLost.z5 with mode := .halt, queue := List.replicate 11 1 };
        (s.conveyor .z5).mode ≠ .reset ∧ (s.conveyor .z5).queue.length < ConveyorZone.z5.capacity) ∧
      (let s := inLost.setConveyor .z5 { inLost.z5 with mode := .halt, queue := List.replicate 12 1 };
        (s.conveyor .z5).mode ≠ .reset ∧ ConveyorZone.z5.capacity ≤ (s.conveyor .z5).queue.length) :=
  ⟨rfl, by decide, by decide, fun p h => absurd (h.symm.trans inZ1_95) nofun, by decide +kernel, by decide +kernel,
    by decide +kernel, by decide +kernel, by decide +kernel, by decide +kernel, by decide +kernel⟩
theorem witness_RetirementSettlesPiece :
    inZ1.piece 0 = some somePiece ∧ somePiece.job = some 0 ∧ inZ1.job 0 = some someJob ∧
      (let b := { someJob with good := 9 }; b.state = .running ∧ b.ordered ≤ b.good + 1) ∧
      (let b := { numberedJob with state := .closing }; b.state = .closing ∧ b.live ≤ 1) ∧
      (numberedInZ1.piece 0).bind Piece.copy = some 2 ∧ numberedJob.numbered = some { first := 1, last := 3, table := 0 } ∧
      { somePiece with job := none }.job.bind inZ1.job = none := by decide +kernel
theorem witness_GateUnitSettlesOrders :
    inZ1.piece 0 = some somePiece ∧ inZ1.holder .gate = none ∧ atGate.holder .gate = some 4 ∧
      atGate.gateQueue.length < 4 ∧ atGate.gateInFlight = none ∧
      inFlight.gateInFlight = some { order := .deliver, tag := 0, admission := 9 } ∧ (0 : Tag) ∈ inFlight.gateQueue ∧
      (inFlight.piece 0).map Piece.admission = some 9 ∧ (0 : Tag) ∉ { inFlight with gateQueue := [] }.gateQueue := by
  decide +kernel
theorem witness_GateUnitSettlesOrders_unconfirmed : ∃ unconfirmed : State → Tag → State,
    ∀ (w : State) (t : Tag), unconfirmed w t
      = { w with
          pool := w.pool.set t ((w.piece t).map fun p : Piece => { p with faults := p.faults ||| 0x4000 }) }.retire
          .diverted t := ⟨_, fun _ _ => rfl⟩
theorem witness_GateUnitSettlesOrders_holder :
    StationsSound atGate ∧ atGate.holder .gate = some 4 ∧ Holds atGate 4 .gate ∧ atGate.holder .press = none :=
  ⟨stationsSound_of_check _ (by decide +kernel), by decide +kernel, by unfold Holds; decide +kernel, by decide +kernel⟩
theorem witness_PollCarriesOldestOrder :
    ready.check = .pass ∧ ready.link.exchange = none ∧ ready.link.next = 0 ∧ waiting.link.exchange ≠ none ∧
      8 < (9 : Byte).toNat ∧ orderBytes none = [0, 0] ∧ orderBytes (some .jawRelease) = [4, 0] := by decide +kernel
theorem witness_LinkBytesMoveReceiver :
    ready.check = .pass ∧ (ready.link.rx = .outside ∧ (0xF3 : Byte) ≠ 0xF2) ∧ ready.link.exchange = none ∧
      waiting.link.exchange ≠ none ∧ candidate.link.rx = .inFrame ∧ (0x10 : Byte) ∉ [0xF2, 0xF3, 0xF4] ∧
      candidate.link.buffer.length < 38 ∧ (0xE4 : Byte) ∈ [0xE2, 0xE3, 0xE4] ∧
      38 ≤ (List.replicate 38 (0 : Byte)).length ∧ (List.replicate 37 (0 : Byte)).length < 38 ∧
      (0xF3 : Byte) ∉ [0xF2, 0xE2, 0xE3, 0xE4] := by decide +kernel
theorem witness_LinkBytesMoveReceiver_abandoned :
    (candidate.link.rx ≠ .outside ∧ ready.link.rx = .outside ∧
        { candidate with link := { candidate.link with rx := .escaped } }.link.rx = .escaped) ∧
      ∃ abandoned : State → State,
        (∀ u : State, u.link.exchange = none →
          abandoned u = { u with link := { u.link with rx := .outside, buffer := [] } }) ∧
        (∀ (u : State) (ex : Exchange), u.link.exchange = some ex → ex.awaiting = .window →
          abandoned u = { u with link := { u.link with rx := .outside, buffer := [] } }) ∧
        ∀ (u : State) (ex : Exchange), u.link.exchange = some ex → ex.awaiting = .candidate →
          abandoned u = { u with link := { u.link with rx := .outside, buffer := [] } }.silence ex :=
  ⟨by decide +kernel, State.abandonFrame, fun _ h => by simp [State.abandonFrame, State.setReceiver, h],
    fun _ _ h hw => by simp [State.abandonFrame, State.setReceiver, h, hw],
    fun _ _ h hc => by simp [State.abandonFrame, State.setReceiver, h, hc]⟩
theorem witness_LinkBytesMoveReceiver_driving :
    candidate.link.direction = false ∧ ({ candidate with link := { candidate.link with direction := true } } : State).link.direction
      = true := by decide +kernel

/-- Addresses 1 and 2 in conflict over CASING, address 1 two silences long. -/
def conflicted : State :=
  { ready with
    stations := (ready.stations.set 0 { holding .casing 0x02 with standing := some .conflict, silent := 2 }).set 1
      { holding .casing 0x02 with standing := some .conflict } }

/-- R171, R174: the one claimant left becomes ASSIGNED. -/
theorem test_conflict_resolves :
    let ex : Exchange := { address := 0, carried := none, awaiting := .window };
    (((conflicted.silence ex).station 1).standing, ((conflicted.silence ex).station 0).role)
      = (some .assigned, none) := by decide +kernel

theorem witness_ReplyOrSilenceEndsExchange_conflict :
    ((conflicted.station 0).present = true ∧ 2 ≤ (conflicted.station 0).silent ∧
        (conflicted.station 0).standing = some .conflict ∧ (conflicted.station 0).role.isSome ∧
        (conflicted.station 1).present = true ∧ (conflicted.station 1).role = (conflicted.station 0).role ∧
        ∀ c : Address, c ≠ 0 → c ≠ 1 →
          ¬((conflicted.station c).present = true ∧ (conflicted.station c).role = (conflicted.station 0).role)) ∧
      ¬Holds conflicted 0 .gate ∧ ¬Holds conflicted 0 .press := by
  unfold Holds
  decide +kernel
theorem witness_ReplyOrSilenceEndsExchange_gate :
    (let s : State := { atGate with stations := atGate.stations.set 4 { atGate.station 4 with silent := 2 } };
      (s.station 4).present = true ∧ 2 ≤ (s.station 4).silent ∧ (s.station 4).role = some .gate ∧
        (s.station 4).standing = some .assigned) ∧
      (let s : State := { ready with stations := ready.stations.set 2 { holding .press 0x0C with silent := 2 } };
        (s.station 2).present = true ∧ 2 ≤ (s.station 2).silent ∧ (s.station 2).role = some .press ∧
          (s.station 2).standing = some .assigned) := by decide +kernel
theorem witness_ReplyOrSilenceEndsExchange :
    candidate.check = .pass ∧ candidate.link.rx = .inFrame ∧
      candidate.link.exchange = some { address := 0, carried := none, awaiting := .candidate } ∧
      judgeReply candidate.link.buffer = some (1, []) ∧ judgeReply [] = none ∧
      waiting.link.exchange = some { address := 0, carried := none, awaiting := .window } ∧
      (holding .press 0).present = true ∧ (holding .press 0).silent < 2 ∧
      2 ≤ { holding .press 0 with silent := 2 }.silent ∧ (ready.station 0).present = false := by decide +kernel
theorem witness_ReportsReachTheirBlocks :
    parseReport [0x05, 0x05, 0x40] = some (.announce 5 0x40) ∧ (ready.station 0).standing ≠ some .assigned ∧
      Holds atGate 4 .gate ∧ ∀ report : Report, ([] : List Byte) ≠ report.bytes := by
  refine ⟨by decide, by decide +kernel, by unfold Holds; decide +kernel, fun report => ?_⟩
  cases report <;> simp [Report.bytes]
theorem witness_ReportsReachTheirBlocks_answer (a : Address) : ∃ answer : Verdict × State → State,
    ∀ v t, answer (v, t) = { t with link := { t.link with
      rx := .outside
      buffer := []
      sent := onLine (frameContent (byteOf (a.val + 1)) 0x00 0x56 v.bytes)
      direction := false } } :=
  ⟨fun p => { p.2 with link := { p.2.link with
    rx := .outside
    buffer := []
    sent := onLine (frameContent (byteOf (a.val + 1)) 0x00 0x56 p.1.bytes)
    direction := false } }, fun _ _ => rfl⟩
theorem witness_SentReplyIsTakenAsSent :
    waiting.check = .pass ∧ waiting.link.exchange = some { address := 0, carried := none, awaiting := .window } ∧
      waiting.link.rx = .outside ∧ (List.replicate 32 (0xF2 : Byte)).length ≤ 32 ∧
      judgeReply (frameContent 0 1 0x5A []) = some (1, []) := by decide +kernel
theorem witness_BlockScanFollowsRows :
    ready.z1.mode ≠ .run ∧ inZ1.z1.mode = .run ∧ inZ1.z1.queue.length < 24 ∧ inZ1.piece 1 = none ∧
      (∀ u < (1 : Tag), inZ1.piece u ≠ none) ∧ (7 : Word32) ≠ 0 ∧ inZ1.findJob 7 = some (0, someJob) ∧
      someJob.state = .running ∧ 24 ≤ (List.replicate 24 (0 : Tag)).length ∧
      (let b := { someJob with state := .held }; (jobAs b).findJob 7 = some (0, b)) ∧
      (let b := { someJob with state := .closing }; (jobAs b).findJob 7 = some (0, b)) ∧
      (∀ t, ({ inZ1 with pool := Vector.replicate 96 (some somePiece) } : State).piece t ≠ none) := by decide +kernel
theorem witness_ScansFollowRows :
    ready.casing = none ∧ inCasing.casing = some 0 ∧
      inCasing.piece 0 = some { somePiece with place := .casingSlot, entryCount := none } ∧
      { inCasing.z2 with mode := .halt }.mode = .halt ∧ inCasing.z2.mode ≠ .halt ∧ inCasing.z2.queue.length < 8 ∧
      inCasing.disposition { somePiece with faults := 0x0001 } = .divert ∧ inCasing.disposition somePiece ≠ .divert ∧
      somePiece.job.bind inCasing.job = some someJob ∧ someJob.casePolicy = .holdStation ∧
      inCasing.casingMismatch + 1 < someJob.mismatchLimit ∧ (4 : Word24) ≠ someJob.caseCode ∧
      inJacketing.jacketing = some 0 ∧ inJacketing.z5.mode ≠ .halt ∧ inJacketing.z5.queue.length < 12 ∧
      somePiece.jacketStatus ≠ .notRequired ∧ someJob.jacketCode = some 6 ∧ someJob.jacketPolicy = .holdStation := by
  decide +kernel

theorem witness_ScansFollowRows_moved :
    (∃ moved : CaseStatus → FaultSet → BitVec 9 → State, ∀ c f flags, moved c f flags = { inCasing with
      casing := none
      flags := flags
      pool := inCasing.pool.set 0 (some { somePiece with
        caseStatus := if somePiece.caseStatus = CaseStatus.pending then c else somePiece.caseStatus
        faults := f }) }.handOver .z2 0) ∧
      ∃ moved : JacketStatus → Bool → FaultSet → BitVec 9 → State, ∀ c v f flags, moved c v f flags = { inJacketing with
        jacketing := none
        flags := flags
        pool := inJacketing.pool.set 0 (some { somePiece with
          jacketStatus := if somePiece.jacketStatus = JacketStatus.pending then c else somePiece.jacketStatus
          copyVerified := v
          faults := f }) }.handOver .z5 0 := ⟨⟨_, fun _ _ _ => rfl⟩, ⟨_, fun _ _ _ _ => rfl⟩⟩

/-- Two stations: GATE held at address 5, address 1 present without a role. -/
def twoStations : State := { atGate with stations := atGate.stations.set 0 { Station.powerOn with present := true } }

theorem witness_AnnounceClaimsRole :
    StationsSound twoStations ∧ (twoStations.station 0).present = true ∧ 5 < (6 : Byte).toNat ∧
      ((5 : Byte).toNat, Role.gate, (0x7F : Byte) &&& 0x40) ∈ [(1, Role.infeed, (0x7F : Byte) &&& 0x01),
        (2, .casing, 0x7F &&& 0x02), (3, .press, 0x7F &&& 0x0C), (4, .jacketing, 0x7F &&& 0x30), (5, .gate, 0x7F &&& 0x40)] ∧
      (twoStations.station 0).role ≠ some .gate ∧ (twoStations.station 4).role = some .gate ∧
      ((twoStations.station 4).abilities = 0x40 ∧ (0x3F : Byte) &&& 0x40 = 0 ∧
        (twoStations.station 4).standing = some .assigned) ∧
      Holds twoStations 4 .gate :=
  ⟨stationsSound_of_check _ (by decide +kernel), by decide +kernel, by decide, by decide, by decide +kernel,
    by decide +kernel, by decide +kernel, by unfold Holds; decide +kernel⟩
theorem witness_AnnounceClaimsRole_noHolder :
    StationsSound conflicted ∧ (conflicted.station 0).present = true ∧
      ((5 : Byte).toNat, Role.gate, (0x40 : Byte) &&& 0x40) ∈ [(1, Role.infeed, (0x40 : Byte) &&& 0x01),
        (2, .casing, 0x40 &&& 0x02), (3, .press, 0x40 &&& 0x0C), (4, .jacketing, 0x40 &&& 0x30), (5, .gate, 0x40 &&& 0x40)] ∧
      (conflicted.station 0).role ≠ some .gate ∧ ¬(∃ b, Holds conflicted b .gate) ∧ ¬(∃ b, Holds conflicted b .press) ∧
      (let s : State := { atGate with stations := atGate.stations.set 4 (holding .gate 0) };
        (s.station 4).role = some .gate ∧ (s.station 4).abilities ≠ 0x40) :=
  ⟨stationsSound_of_check _ (by decide +kernel), by decide +kernel, by decide, by decide +kernel,
    by unfold Holds; decide +kernel, by unfold Holds; decide +kernel, by decide +kernel⟩
theorem witness_RecordFieldsStayFixed :
    exec (.forwardAdvance .z1) inZ1 = .next (after (.forwardAdvance .z1) inZ1) ∧ inZ1.piece 0 = some somePiece ∧
      (after (.forwardAdvance .z1) inZ1).piece 0 = some somePiece := ⟨rfl, by decide +kernel, by decide +kernel⟩
theorem witness_StepKeepsPlaces :
    PlacesAgree inZ1 ∧ ResetZonesEmpty inZ1 ∧ WithinCapacity inZ1 ∧ DwellLimitsLegal (inPress .closed) ∧
      DwellLimitsLegal inZ1 ∧ step inZ1 = .next inZ1.idle := by
  refine ⟨inZ1_places, inZ1_reset_zones, inZ1_capacity, inPress_limits, ?_, rfl⟩
  intro t p l hp hl
  rw [inZ1_piece] at hp
  split at hp
  · cases hp
    cases hl
  · cases hp
theorem witness_StepKeepsJobCounts :
    JobTableSound numberedInZ1 ∧ LiveCountsExact numberedInZ1 ∧ CopiesAgree numberedInZ1 ∧
      step numberedInZ1 = .next numberedInZ1.idle :=
  ⟨numbered_table_sound, numbered_live_exact, numbered_copies_agree, rfl⟩
theorem witness_StepKeepsJobCounts_limit : DeliveriesSound numberedInZ1 ∧ GoodWithinLimit numberedInZ1 := by
  have orders : ∀ a, (numberedInZ1.station a).orders = [] := by decide +kernel
  have flight : numberedInZ1.gateInFlight = none := rfl
  refine ⟨⟨fun a o t p h => ?_, fun f p h => ?_⟩, fun j b hb => ?_⟩
  · rw [orders] at h; cases h
  · rw [flight] at h; cases h
  · rw [numbered_job] at hb
    split at hb
    · subst j; cases hb; decide +kernel
    · cases hb
theorem witness_StepKeepsStationsAndFilter :
    StationsSound atGate ∧ FilterLegal atGate.filter ∧ LinkQuiet atGate ∧ step atGate = .next atGate.idle :=
  ⟨stationsSound_of_check _ (by decide +kernel), by unfold FilterLegal; decide +kernel,
    ⟨rfl, fun h => absurd rfl h⟩, rfl⟩
theorem witness_StepKeepsStationsAndFilter_silent :
    LinkQuiet { State.reset with check := .fail } ∧ ({ State.reset with check := .fail } : State).check ≠ .pass :=
  ⟨⟨rfl, fun _ => ⟨rfl, by decide +kernel⟩⟩, by decide⟩

theorem atGate_piece (t : Tag) : atGate.piece t =
    if t = 0 then some { somePiece with
      place := .gateQueue, entryCount := none, caseStatus := .married, jacketStatus := .married } else none := by
  revert t; decide +kernel
theorem atGate_orders (a : Address) : (atGate.station a).orders = if a = 4 then [.gate .deliver 0] else [] := by
  revert a; decide +kernel

theorem atGate_live : LiveCountsExact atGate := by
  have job : ∀ j, atGate.job j = if j = 0 then some someJob else none := by decide +kernel
  intro j
  by_cases h : j = 0
  · subst h
    rw [job, if_pos rfl]
    decide +kernel
  · rw [job, if_neg h]
    revert j
    decide +kernel

theorem witness_StepKeepsGateOrders :
    PlacesAgree atGate ∧ StationsSound atGate ∧ LiveCountsExact atGate ∧ GateQueueSound atGate ∧ DeliveriesSound atGate ∧
      CleanPiecesMarried atGate ∧ WithinCapacity atGate ∧ step atGate = .next atGate.idle := by
  have flight : atGate.gateInFlight = none := rfl
  refine ⟨placesAgree_of_check _ (by decide +kernel), stationsSound_of_check _ (by decide +kernel), atGate_live,
    ⟨fun a o t h => ?_, fun f h => ?_, .inl (by decide +kernel)⟩, ⟨fun a o t p h ho hp => ?_, fun f p h => ?_⟩,
    fun t p hp _ => ?_, ⟨fun z => by cases z <;> decide +kernel, by decide +kernel, by decide +kernel⟩, rfl⟩
  · rw [atGate_orders] at h
    split at h
    · subst a; decide +kernel
    · cases h
  · rw [flight] at h; cases h
  · rw [atGate_orders] at h
    split at h
    · rw [List.mem_singleton] at h
      cases h
      rw [atGate_piece, if_pos rfl] at hp
      cases hp
      exact ⟨rfl, .inl rfl, (if_pos rfl).mpr rfl⟩
    · cases h
  · rw [flight] at h; cases h
  · rw [atGate_piece] at hp
    split at hp
    · cases hp; rfl
    · cases hp

/-! ### Single steps whose fixtures stand above -/

/-- R183, R159: the passed check opens the link. -/
theorem test_memoryCheckPass :
    (after .poll (after .memoryCheckPass State.reset)).link.sent = onLine (frameContent 1 0 0x50 [1, 0, 0]) := by
  decide +kernel
/-- R27: the first job goes to slot 0. -/
theorem test_loadJob : (after (.loadJob lowParams) ready).response = some [0, 1, 0, 0xFF] := by decide +kernel
/-- R28: a LOADED job is released to RUNNING. -/
theorem test_releaseJob :
    ((after (.releaseJob 1) (after (.loadJob lowParams) ready)).job 0).map Job.state = some .running := by decide +kernel
/-- R32: an EMPTY slot reads 34 zeros. -/
theorem test_readJob : (after (.readJob 31) ready).response = some (0 :: 34 :: (List.replicate 34 0 ++ [0xDE])) := by
  decide +kernel
/-- R32: the slot, then its 34 bytes: RUNNING and the key. -/
theorem test_findJob : (after (.findJob 7) inZ1).response.map (List.take 8) = some [0, 35, 0, 2, 0, 0, 0, 7] := by
  decide +kernel
/-- R78: UNSEEN, IN_LINE and SPOILED. -/
theorem test_readCopies : (after (.readCopies 0 1 3) numberedInZ1).response = some [0, 3, 0, 1, 4, 0xF8] := by
  decide +kernel
/-- R90. -/
theorem test_writeClass :
    (after (.writeClass 3 { base := 4000, rate := 150, nominalTemp := 1200, coldLimit := 150, gain := 12, factor := 180 })
      ready).classTable.records[3]
      = { base := 4000, rate := 150, nominalTemp := 1200, coldLimit := 150, gain := 12, factor := 180 } := by decide +kernel
/-- R89: with everything marked keep the table is read: off, off, class 0, then the bins. -/
theorem test_setClassTable :
    (after (.setClassTable 2 2 0xFF) ready).response.map (fun r => (r.length, r.take 6))
      = some (158, [0, 155, 0, 0, 0, 0xFF]) := by decide +kernel
/-- R101, R94. -/
theorem test_setFilter : (after (.setFilter 2 3 4) ready).filter.state = .unloaded := by decide +kernel
/-- R114. -/
theorem test_setJawTimes_refused : (after (.setJawTimes 200 201) ready).response = some [3, 0, 0xFD] := by decide +kernel
/-- R102: the power-on filter, the jaws open with 20 and 50 ms, no timer. -/
theorem test_readPress :
    (after (.readPress 5) ready).response = some [0, 16, 0, 0, 3, 16, 0, 0, 0, 0, 0, 0, 20, 0, 50, 0, 0, 0, 0x97] := by
  decide +kernel
/-- R62: Z1 in RUN, 400 and 40, the one piece, the slot empty. -/
theorem test_readZone :
    (after (.readZone 1) inZ1).response = some [0, 14, 0, 1, 0x90, 0, 0x28, 0, 0, 1, 0, 0, 9, 0xFF, 0, 0, 0x30] := by
  decide +kernel
/-- R20: admission number 9, slot 0, thickness 300, class 7, all else 0. -/
theorem test_readPiece :
    (after (.readPiece 0 9) inZ1).response
      = some ([0, 26, 0, 0, 9, 0, 0, 0, 1, 44, 7] ++ List.replicate 17 0 ++ [0xA9]) := by decide +kernel
/-- R179: a legal frame of a code that the table lacks. -/
theorem test_unknownCommand : (after (.unknownCommand [0x41, 0x00, 0xBF]) ready).response = some [0x02, 0, 0xFE] := by
  decide +kernel
/-- R192, R156: a lamp's stretch of 100 ms from reading 0 runs out at 100. -/
theorem test_lampStretchExpiry :
    let s := (after (.setLamp 1 7 0 1) ready).pulse .deliverPulse
    ((after (.lampStretchExpiry 1 99) s).lampOutput 1, (after (.lampStretchExpiry 1 100) s).lampOutput 1)
      = (true, false) := by decide +kernel
/-- R161, R168: a START begins the candidate; an empty reply makes the station present. -/
theorem test_linkByteReceived : (after (.linkByteReceived 0xF2) waiting).link.rx = .inFrame := by decide +kernel
theorem test_replyFrame : ((after (.replyFrame 4) candidate).station 0).present = true := by decide +kernel

end Sys2Proof.Tests
end

section
/-! SUPPORT. Press classes (chapter 5): each step of the resolution (R84) as an equation, and the overlap rule
(R85) as a choice of the class of largest rank. -/

namespace Sys2Proof.Machine

/-! ### The overlap rule (R85) -/

/-- R85: the order in which overlapping ranges compare their classes, by base dwell, then by number. -/
def ClassTable.overlapRank (c : ClassTable) (k : Class) : ℕ ×ₗ Class :=
  toLex ((c.records[k]).base, k)

theorem ClassTable.overlapRank_le_iff (c : ClassTable) (a b : Class) :
    c.overlapRank a ≤ c.overlapRank b ↔
      (c.records[a]).base < (c.records[b]).base ∨ ((c.records[a]).base = (c.records[b]).base ∧ a ≤ b) :=
  Prod.Lex.toLex_le_toLex

theorem ClassTable.heavier_eq (c : ClassTable) (a b : Class) :
    c.heavier a b = if c.overlapRank a ≤ c.overlapRank b then b else a := by
  simp only [heavier, overlapRank_le_iff, Fin.le_def]
  grind

theorem ClassTable.overlapRank_heavier (c : ClassTable) (a b : Class) :
    c.overlapRank (c.heavier a b) = max (c.overlapRank a) (c.overlapRank b) := by
  rw [heavier_eq, max_def, apply_ite c.overlapRank]

theorem ClassTable.foldl_heavier_mem (c : ClassTable) (a : Class) (rest : List Class) :
    rest.foldl c.heavier a ∈ a :: rest := by
  induction rest generalizing a with
  | nil => exact List.mem_singleton_self a
  | cons b rest ih =>
    have hstart : c.heavier a b ∈ [a, b] := by
      rw [heavier_eq]; split <;> simp
    have hsub : c.heavier a b :: rest ⊆ a :: b :: rest := by
      grind
    exact hsub (ih _)

theorem ClassTable.overlapRank_le_foldl_heavier (c : ClassTable) (a : Class) (rest : List Class) :
    ∀ k ∈ a :: rest, c.overlapRank k ≤ c.overlapRank (rest.foldl c.heavier a) := by
  induction rest generalizing a with
  | nil => simp
  | cons b rest ih =>
    have hstart := ih (c.heavier a b) _ List.mem_cons_self
    rw [overlapRank_heavier, max_le_iff] at hstart
    obtain ⟨ha, hb⟩ := hstart
    rintro k (_ | ⟨_, _ | ⟨_, hk⟩⟩)
    · exact ha
    · exact hb
    · exact ih _ k (List.mem_cons_of_mem _ hk)

/-! ### The class the variable ranges give (R81, R84 steps 4 to 6) -/

theorem ClassRange.contains_iff (r : ClassRange) (thickness : Nat) :
    r.contains thickness = true ↔ r.enabled = true ∧ r.low ≤ thickness ∧ thickness ≤ r.high := by
  simp [contains, and_assoc]

theorem ClassTable.mem_rangeClasses (c : ClassTable) (thickness : Nat) (k : Class) :
    k ∈ c.rangeClasses thickness ↔
      ∃ i : Fin 8, c.ranges[i].contains thickness = true ∧ c.ranges[i].cls = k := by
  have hranges : ∀ r, r ∈ c.ranges ↔ ∃ i : Fin 8, c.ranges[i] = r := by
    simp [Vector.mem_iff_getElem, Fin.exists_iff]
  simp only [rangeClasses, List.mem_map, List.mem_filter, Vector.mem_toList_iff, hranges]
  grind

theorem ClassTable.rangeClass_of_not_contains (c : ClassTable) (thickness : Nat)
    (hnone : ∀ i : Fin 8, ¬c.ranges[i].contains thickness = true) :
    c.rangeClass thickness = c.defaultClass := by
  have hnil : c.rangeClasses thickness = [] :=
    List.eq_nil_iff_forall_not_mem.2 fun k hk =>
      let ⟨i, hi, _⟩ := (c.mem_rangeClasses thickness k).1 hk
      hnone i hi
  simp [rangeClass, hnil]

theorem ClassTable.rangeClass_mem_rangeClasses (c : ClassTable) (thickness : Nat) (k : Class)
    (hk : k ∈ c.rangeClasses thickness) : c.rangeClass thickness ∈ c.rangeClasses thickness := by
  unfold rangeClass
  split
  next hnil => simp [hnil] at hk
  next a rest hcons => exact hcons ▸ c.foldl_heavier_mem a rest

theorem ClassTable.overlapRank_le_rangeClass (c : ClassTable) (thickness : Nat) (k : Class)
    (hk : k ∈ c.rangeClasses thickness) : c.overlapRank k ≤ c.overlapRank (c.rangeClass thickness) := by
  unfold rangeClass
  split
  next hnil => simp [hnil] at hk
  next a rest hcons => exact c.overlapRank_le_foldl_heavier a rest k (hcons ▸ hk)

/-! ### The steps of R84 -/

theorem ClassTable.binClass_of_lt (c : ClassTable) {thickness : Nat} (h : thickness < 800) :
    c.binClass thickness = c.bins[thickness / 50] :=
  dif_pos (by omega)

/-- R80: a thickness has no fixed class when its bin is UNSET or it lies above the bins. -/
theorem ClassTable.binClass_eq_none (c : ClassTable) {thickness : Nat}
    (hunset : ∀ h : thickness < 800, c.bins[thickness / 50] = none) : c.binClass thickness = none := by
  by_cases h : thickness < 800
  · rw [c.binClass_of_lt h, hunset h]
  · exact dif_neg (by omega)

@[simp] theorem ClassTable.resolve_override (c : ClassTable) (o : Class) (thickness : Nat) :
    c.resolve (some o) thickness = o := rfl

theorem ClassTable.resolve_of_master_off (c : ClassTable) (thickness : Nat) (hmaster : c.master = false) :
    c.resolve none thickness = 7 := by
  simp [resolve, hmaster]

theorem ClassTable.resolve_of_bin (c : ClassTable) (thickness : Nat) (b : Class) (hmaster : c.master = true)
    (hfixed : c.fixed = true) (hbin : c.binClass thickness = some b) : c.resolve none thickness = b := by
  simp [resolve, hmaster, hfixed, hbin]

theorem ClassTable.resolve_eq_rangeClass (c : ClassTable) (thickness : Nat) (hmaster : c.master = true)
    (hbin : c.fixed = true → c.binClass thickness = none) :
    c.resolve none thickness = c.rangeClass thickness := by
  cases hfixed : c.fixed with
  | false => simp [resolve, hmaster, hfixed]
  | true => simp [resolve, hmaster, hfixed, hbin hfixed]

/-- Settles O24: one equation for each step of R84; overlaps by the largest rank (R85). -/
theorem classResolvesByFirstStep : Obligations.ClassResolvesByFirstStep := by
  intro c thickness
  have hranges (hmaster : c.master = true)
      (hunset : c.fixed = true → ∀ h : thickness < 800, c.bins[thickness / 50] = none) :
      c.resolve none thickness = c.rangeClass thickness :=
    c.resolve_eq_rangeClass thickness hmaster fun hfixed => c.binClass_eq_none (hunset hfixed)
  simp only [← ClassRange.contains_iff, ← ClassTable.overlapRank_le_iff]
  refine ⟨fun o => c.resolve_override o thickness, c.resolve_of_master_off thickness, ?bin, ?noRange, ?overlap⟩
  case bin =>
    intro h b hmaster hfixed hbin
    exact c.resolve_of_bin thickness b hmaster hfixed ((c.binClass_of_lt h).trans hbin)
  case noRange =>
    intro hmaster hunset hnone
    rw [hranges hmaster hunset, c.rangeClass_of_not_contains thickness hnone]
  case overlap =>
    intro hmaster hunset ⟨i, hi⟩
    rw [hranges hmaster hunset]
    have hmem (j : Fin 8) (hj : c.ranges[j].contains thickness = true) :
        c.ranges[j].cls ∈ c.rangeClasses thickness := (c.mem_rangeClasses thickness _).2 ⟨j, hj, rfl⟩
    constructor
    · have hchosen := c.rangeClass_mem_rangeClasses thickness _ (hmem i hi)
      simpa only [c.mem_rangeClasses, ClassRange.contains_iff, and_assoc] using hchosen
    · intro j henabled hlow hhigh
      exact c.overlapRank_le_rangeClass thickness _
        (hmem j ((ClassRange.contains_iff _ _).2 ⟨henabled, hlow, hhigh⟩))

end Sys2Proof.Machine
end

section
/-! SUPPORT. The jaw temperature filter (6.1): what a taken sample, an unsettling event and SET_FILTER do to it,
and the bounds it keeps (R99). -/

namespace Sys2Proof.Machine

/-! ### Taking a sample (R97, R98) -/

theorem Filter.take_tf_of_unloaded {f : Filter} (h : f.sampleCount = 0) (x : Int) : (f.take x).tf = x :=
  if_pos h

theorem Filter.take_tf_of_loaded {f : Filter} (h : f.sampleCount ≠ 0) (x : Int) :
    (f.take x).tf = smoothed f.shift f.tf x :=
  if_neg h

/-! ### Tf between the samples (R99) -/

/-- R99: half of the divisor is what rounding adds, so a difference divided by it moves no further than the
difference and never the other way. -/
theorem halfUp_mem_uIcc (d : Int) {m : Int} (hm : 1 ≤ m) : (d + m) / (2 * m) ∈ Set.uIcc 0 d := by
  have hpos : 0 < 2 * m := by omega
  obtain hd | hd : 0 ≤ d ∨ d ≤ -1 := by omega
  · rw [Set.uIcc_of_le hd]
    have hle : (d + m) / (2 * m) < d + 1 := Int.ediv_lt_of_lt_mul hpos (by nlinarith)
    exact ⟨Int.ediv_nonneg (by omega) hpos.le, by omega⟩
  · rw [Set.uIcc_of_ge (by omega)]
    have hle : (d + m) / (2 * m) < 1 := Int.ediv_lt_of_lt_mul hpos (by omega)
    exact ⟨(Int.le_ediv_iff_mul_le hpos).2 (by nlinarith), by omega⟩

/-- R99: a smoothing step ends between the old Tf and the sample. -/
theorem smoothed_mem_uIcc {shift : Nat} (hshift : 1 ≤ shift) (tf x : Int) :
    smoothed shift tf x ∈ Set.uIcc tf x := by
  have hpow : (2 : Int) ^ shift = 2 * 2 ^ (shift - 1) := by
    rw [← pow_succ', Nat.sub_add_cancel hshift]
  have hstep := halfUp_mem_uIcc (x - tf) (m := 2 ^ (shift - 1)) (one_le_pow₀ (by decide))
  rw [Set.mem_uIcc] at hstep ⊢
  rw [smoothed, hpow]
  omega

theorem Filter.take_tf_mem_Icc {f : Filter} (hshift : 1 ≤ f.shift) {low high x : Int}
    (hx : x ∈ Set.Icc low high) (htf : f.sampleCount ≠ 0 → f.tf ∈ Set.Icc low high) :
    (f.take x).tf ∈ Set.Icc low high := by
  by_cases hcount : f.sampleCount = 0
  · rwa [take_tf_of_unloaded hcount]
  · rw [take_tf_of_loaded hcount]
    exact Set.uIcc_subset_Icc (htf hcount) hx (smoothed_mem_uIcc hshift f.tf x)

theorem Filter.foldl_take_tf_mem_Icc {low high : Int} (samples : List Int) {f : Filter} (hshift : 1 ≤ f.shift)
    (hsamples : ∀ x ∈ samples, x ∈ Set.Icc low high) (htf : f.tf ∈ Set.Icc low high) :
    (samples.foldl Filter.take f).tf ∈ Set.Icc low high := by
  induction samples generalizing f with
  | nil => exact htf
  | cons x rest ih =>
    obtain ⟨hx, hrest⟩ := List.forall_mem_cons.1 hsamples
    exact ih (f := f.take x) hshift hrest (take_tf_mem_Icc hshift hx fun _ => htf)

/-- Settles O27: the first sample after unsettling loads Tf, and each later step stays between Tf and its sample. -/
theorem filterStaysBetweenSamples : Obligations.FilterStaysBetweenSamples := by
  intro f first later low high hshift hsamples
  obtain ⟨hfirst, hlater⟩ := List.forall_mem_cons.1 hsamples
  have hload : (f.unsettle.take first).tf = first := Filter.take_tf_of_unloaded rfl first
  exact Filter.foldl_take_tf_mem_Icc later (f := f.unsettle.take first) hshift hlater (hload ▸ hfirst)

/-! ### The unsettled filter (R94, R100, R105) -/

theorem Filter.state_unsettle (f : Filter) :
    f.unsettle.state = if f.interval = 0 then .off else .unloaded := rfl

theorem deficit_unsettle (f : Filter) (r : ClassRecord) :
    deficit f.unsettle r = if f.interval = 0 then 0 else r.coldLimit := by
  rw [deficit, f.state_unsettle]
  split_ifs <;> rfl

theorem coldPressed_unsettle (f : Filter) (r : ClassRecord) : coldPressed f.unsettle r = false := by
  rw [coldPressed, f.state_unsettle]
  split_ifs <;> rfl

/-! ### SET_FILTER (R101) -/

theorem setFilter_legal_iff (shift warmup : Byte) :
    (within 1 6 shift.toNat && warmup != 0) = true ↔ 1 ≤ shift.toNat ∧ shift.toNat ≤ 6 ∧ warmup ≠ 0 := by
  simp [within, and_assoc]

theorem State.setFilter_of_legal (s : State) (interval : Byte) {shift warmup : Byte} (hlow : 1 ≤ shift.toNat)
    (hhigh : shift.toNat ≤ 6) (hwarmup : warmup ≠ 0) :
    s.setFilter interval shift warmup =
      (.ok [], { s with
        filter :=
          { s.filter with interval := interval.toNat, shift := shift.toNat, warmup := warmup.toNat }.unsettle }) :=
  if_pos ((setFilter_legal_iff shift warmup).2 ⟨hlow, hhigh, hwarmup⟩)

theorem State.setFilter_of_illegal (s : State) (interval : Byte) {shift warmup : Byte}
    (hbad : shift.toNat < 1 ∨ 6 < shift.toNat ∨ warmup = 0) :
    s.setFilter interval shift warmup = (.refuse .badValue, s) := by
  refine if_neg ?_
  rw [setFilter_legal_iff]
  grind

theorem exec_setFilter {s : State} (hcheck : s.check = .pass) (interval shift warmup : Byte) :
    exec (.setFilter interval shift warmup) s =
      .next ((s.setFilter interval shift warmup).2.respond 6 (s.setFilter interval shift warmup).1) :=
  congrArg Host.Outcome.next (State.command_pass hcheck 3 _)

/-- Settles O25: the two branches of SET_FILTER, the accepted one through the unsettled filter. -/
theorem setFilterRestartsWarmUp : Obligations.SetFilterRestartsWarmUp := by
  intro interval shift warmup s hcheck
  rw [exec_setFilter hcheck]
  constructor
  · intro hbad
    rw [s.setFilter_of_illegal interval hbad]
  · intro hlow hhigh hwarmup
    rw [s.setFilter_of_legal interval hlow hhigh hwarmup]
    have hoff : interval = 0 ↔ interval.toNat = 0 := BitVec.toNat_inj.symm
    simp only [hoff]
    exact ⟨Filter.unsettle { s.filter with interval := interval.toNat, shift := shift.toNat, warmup := warmup.toNat },
      rfl, rfl, Filter.state_unsettle _, fun r => ⟨deficit_unsettle _ r, coldPressed_unsettle _ r⟩⟩

end Sys2Proof.Machine
end

section
/-! SUPPORT. Attention (11, R186 to R189): a flag is one bit of each nine-bit mask, what the attention line follows,
and what ACK_ATTENTION and SET_ATTENTION_ENABLE replace. -/

namespace Sys2Proof.Machine

/-! ### The flags as bits of a mask (R186) -/

/-- R186: the flags are declared in the order of their bits, so a flag's bit stands at its constructor's place. -/
theorem Attention.bit_eq_twoPow (a : Attention) : a.bit = BitVec.twoPow 9 a.ctorIdx := by
  cases a <;> rfl

theorem Attention.ctorIdx_ofNat : ∀ i : Fin 9, (Attention.ofNat i).ctorIdx = i := by decide

theorem Attention.and_bit_ne_zero_iff (mask : BitVec 9) (a : Attention) :
    mask &&& a.bit ≠ 0 ↔ mask.getLsbD a.ctorIdx = true := by
  have hbit : BitVec.twoPow 9 a.ctorIdx ≠ 0 := by cases a <;> decide
  rw [a.bit_eq_twoPow, BitVec.and_twoPow]
  exact ite_ne_right_iff.trans (and_iff_left hbit)

/-- R186: the flags take all nine bits of a mask. -/
theorem Attention.ne_zero_iff_exists_and_bit (mask : BitVec 9) :
    mask ≠ 0 ↔ ∃ a : Attention, mask &&& a.bit ≠ 0 := by
  constructor
  · contrapose!
    intro hnone
    refine BitVec.eq_of_getLsbD_eq fun i hi => ?_
    have hclear := (and_bit_ne_zero_iff mask (Attention.ofNat i)).not.1 (not_not.2 (hnone _))
    rw [ctorIdx_ofNat ⟨i, hi⟩] at hclear
    simpa using hclear
  · rintro ⟨a, ha⟩ rfl
    exact ha (BitVec.zero_and ..)

theorem State.flagSet_iff (s : State) (a : Attention) : s.flagSet a = true ↔ s.flags &&& a.bit ≠ 0 :=
  bne_iff_ne

/-- R186: a raised flag is set, whatever was cleared before. -/
theorem State.flagSet_raise_self (s : State) (a : Attention) : (s.raise a).flagSet a = true := by
  have hself : a.bit.getLsbD a.ctorIdx = true := by cases a <;> rfl
  rw [flagSet_iff, Attention.and_bit_ne_zero_iff, raise_flags, BitVec.getLsbD_or, hself, Bool.or_true]

/-! ### The attention line (R187) -/

theorem Attention.memoryFail_and_bit_ne_zero_iff (a : Attention) :
    Attention.memoryFail.bit &&& a.bit ≠ 0 ↔ a = .memoryFail := by
  cases a <;> decide

theorem State.activeFlags_and_bit_ne_zero_iff (s : State) (a : Attention) :
    s.activeFlags &&& a.bit ≠ 0 ↔ s.flagSet a = true ∧ (a = .memoryFail ∨ s.enables &&& a.bit ≠ 0) := by
  rw [s.flagSet_iff, ← Attention.memoryFail_and_bit_ne_zero_iff]
  simp only [Attention.and_bit_ne_zero_iff, activeFlags, BitVec.getLsbD_and, BitVec.getLsbD_or, Bool.and_eq_true,
    Bool.or_eq_true]
  rw [or_comm]

theorem State.attentionLine_iff (s : State) :
    s.attentionLine = true ↔
      ∃ a : Attention, s.flagSet a = true ∧ (a = .memoryFail ∨ s.enables &&& a.bit ≠ 0) := by
  simp only [← activeFlags_and_bit_ne_zero_iff]
  rw [attentionLine, bne_iff_ne, Attention.ne_zero_iff_exists_and_bit]

theorem State.lampLit_of_source_attention {s : State} {l : LampId} (hsource : s.lamps[l].source = .attention) :
    s.lampLit l = s.attentionLine := by
  rw [lampLit, hsource]

/-! ### The two commands (R188, R189) -/

theorem maskIllegal_iff (mask : Word16) : maskIllegal mask = true ↔ mask &&& 0xFE00 ≠ 0 :=
  bne_iff_ne

theorem exec_ackAttention {s : State} (hcheck : s.check = .pass) (mask : Word16) :
    exec (.ackAttention mask) s = .next ((s.ackAttention mask).2.respond 5 (s.ackAttention mask).1) :=
  congrArg Host.Outcome.next (State.command_pass hcheck 2 _)

theorem exec_setAttentionEnable {s : State} (hcheck : s.check = .pass) (mask : Word16) :
    exec (.setAttentionEnable mask) s =
      .next ((s.setAttentionEnable mask).2.respond 5 (s.setAttentionEnable mask).1) :=
  congrArg Host.Outcome.next (State.command_pass hcheck 2 _)

theorem State.ackAttention_of_illegal (s : State) {mask : Word16} (hmask : mask &&& 0xFE00 ≠ 0) :
    s.ackAttention mask = (.refuse .badValue, s) :=
  if_pos ((maskIllegal_iff mask).2 hmask)

theorem State.ackAttention_of_legal (s : State) {mask : Word16} (hmask : mask &&& 0xFE00 = 0) :
    s.ackAttention mask = (.ok [], { s with flags := s.flags &&& ~~~(mask.setWidth 9) }) :=
  if_neg ((maskIllegal_iff mask).not.2 (not_not.2 hmask))

theorem State.setAttentionEnable_of_illegal (s : State) {mask : Word16} (hmask : mask &&& 0xFE00 ≠ 0) :
    s.setAttentionEnable mask = (.refuse .badValue, s) :=
  if_pos ((maskIllegal_iff mask).2 hmask)

theorem State.setAttentionEnable_of_legal (s : State) {mask : Word16} (hmask : mask &&& 0xFE00 = 0) :
    s.setAttentionEnable mask = (.ok [], { s with enables := mask.setWidth 9 }) :=
  if_neg ((maskIllegal_iff mask).not.2 (not_not.2 hmask))

/-- Settles O10: the line is a nonzero set of active flags, and each legal mask replaces one nine-bit field. -/
theorem attentionCommandsAndLine : Obligations.AttentionCommandsAndLine := by
  refine ⟨?bits, fun s => ⟨s.attentionLine_iff, fun _ => State.lampLit_of_source_attention⟩, ?commands⟩
  case bits =>
    intro a s
    exact ⟨by cases a <;> decide, s.flagSet_iff a, rfl⟩
  case commands =>
    intro mask s hcheck
    rw [exec_ackAttention hcheck, exec_setAttentionEnable hcheck]
    constructor
    · intro hmask
      rw [s.ackAttention_of_illegal hmask, s.setAttentionEnable_of_illegal hmask]
      exact ⟨rfl, rfl⟩
    · intro hmask
      rw [s.ackAttention_of_legal hmask, s.setAttentionEnable_of_legal hmask]
      exact ⟨⟨_, rfl, fun i => by simp, State.flagSet_raise_self _⟩, _, rfl, fun i => by simp⟩

end Sys2Proof.Machine
end

section
/-! SUPPORT. One traversal of the fifty commands: what every shared operation keeps, every command keeps. A law of
the device then needs one lemma for each shared operation, and none for each command. -/

namespace Sys2Proof.Machine

open Sys2Proof.Safety

/-! ### Changes that no law speaks of -/

/-- The states agree but for the time base, the class table, the mismatch counts, and the supervisor port's flags,
enables, lamps and response. -/
def Inert (s t : State) : Prop :=
  t = { s with
    timeBase := t.timeBase
    classTable := t.classTable
    casingMismatch := t.casingMismatch
    jacketingMismatch := t.jacketingMismatch
    flags := t.flags
    enables := t.enables
    lamps := t.lamps
    response := t.response
    clockedOut := t.clockedOut }

theorem Inert.clearMismatches (s : State) : Inert s { s with casingMismatch := 0, jacketingMismatch := 0 } := rfl

theorem Inert.atReading (s : State) (now : Word32) : Inert s (s.atReading now) := rfl

/-- R115, R119, R122: what an event of the press does to a heated piece: it gains dwell and perhaps a press fault. -/
structure PressMark (f : Piece → Piece) : Prop where
  shape : ∀ p, ∃ acc faults, f p = { p with accumulated := acc, faults := faults }
  gains : ∀ p, min 65535 p.accumulated ≤ (f p).accumulated
  faults : ∀ p, (f p).faults ∈ [p.faults, p.faults ||| FaultKind.overdwell.bit, p.faults ||| FaultKind.pressSequence.bit]

theorem pressMark_accumulate (n : Nat) : PressMark (·.accumulate n) where
  shape p := ⟨_, _, rfl⟩
  gains p := by simp only [Piece.accumulate]; omega
  faults p := by simp [Piece.accumulate]

theorem pressMark_markOverdue (n : Nat) : PressMark (·.markOverdue n) where
  shape p := by unfold Piece.markOverdue; split <;> exact ⟨_, _, rfl⟩
  gains p := by unfold Piece.markOverdue; split <;> simp [Piece.addFault]
  faults p := by unfold Piece.markOverdue; split <;> simp [Piece.addFault, FaultSet.add]

theorem pressMark_addSequence : PressMark (·.addFault .pressSequence) where
  shape p := ⟨_, _, rfl⟩
  gains p := by simp [Piece.addFault]
  faults p := by simp [Piece.addFault, FaultSet.add]

/-- R28 to R30: what the job commands may change of a job: its state and its figures, which still cover the pieces
that are good and those that are live. -/
def Restated (b b' : Job) : Prop :=
  b' = { b with state := b'.state, ordered := b'.ordered, allowance := b'.allowance } ∧
    ((b'.ordered = b.ordered ∧ b'.allowance = b.allowance) ∨ b.good + b.live ≤ b'.ordered + b'.allowance)

/-! ### What the operations keep -/

/-- The predicate is kept by the operations that commands and events of the host, the line and the press are made of. -/
structure KeptByOps (Q : State → Prop) : Prop where
  inert : ∀ {s t}, Inert s t → Q s → Q t
  checkEnds : ∀ {s c}, s.check = .running → c ≠ .running → Q s → Q { s with check := c }
  powerOn : ∀ {s} time asserted, Q s → Q (s.poweredOn time asserted)
  bindJob : ∀ {s j b p range} (r : Option (Nat × Nat × CopyTableId)), s.job j = none →
    jobOfParams p = some (b, range) → s.findJob p.key = none → r.map (fun x => (x.1, x.2.1)) = range →
    (∀ x ∈ r, s.freeTable = some x.2.2) → Q s → Q (s.bindJob j b r)
  restateJob : ∀ {s j b b'}, s.job j = some b → Restated b b' → Q s → Q (s.setJob j (some b'))
  emptyJob : ∀ {s j b}, s.job j = some b → b.live = 0 → Q s → Q (s.emptyJob j b)
  filter : ∀ {s f}, (FilterLegal s.filter → FilterLegal f) → Q s → Q { s with filter := f }
  timers : ∀ {s pr}, pr.positions = s.press.positions → Q s → Q { s with press := pr }
  heated : ∀ {s f}, PressMark f → Q s → Q (s.updatePieces s.heated f)
  offerJawRelease : ∀ {s}, Q s → Q s.offerJawRelease
  discharge : ∀ {s}, Q s → Q s.discharge
  shiftPress : ∀ {s}, s.press.positions[11] = none → Q s → Q s.shiftPress
  enterPress : ∀ {s}, s.press.positions[0] = none → Q s → Q s.enterPress
  travel : ∀ {s z c}, c.mode = (s.conveyor z).mode → c.queue = (s.conveyor z).queue → Q s → Q (s.setConveyor z c)
  setMode : ∀ {s z m}, m ≠ .reset → Q s → Q (s.setMode z m)
  enterReset : ∀ {s} z, Q s → Q (s.enterReset z)
  spoil : ∀ {s} t, Q s → Q (s.retire .spoiled t)
  loseHead : ∀ {s z t rest}, (s.conveyor z).queue = t :: rest → Q s →
    Q ((s.setConveyor z { s.conveyor z with queue := rest }).lose t)
  arrive : ∀ {s z t rest}, (s.conveyor z).mode ≠ .reset → (s.conveyor z).queue = t :: rest → Q s →
    Q ((s.setConveyor z { s.conveyor z with queue := rest }).arrive z t)
  returnTo : ∀ {s z t}, t ∈ s.lost → (s.piece t).isSome → (s.conveyor z).mode ≠ .reset →
    (s.conveyor z).queue.length < z.capacity → Q s → Q (s.returnTo z t)
  latch : ∀ {s} a, s.check = .pass → Q s → Q (s.setStation a { s.station a with latch := false })
  sendPoll : ∀ {s}, s.check = .pass → s.link.exchange = none → Q s → Q s.sendPoll

/-- The predicate `P` is kept by what precedes a reply or a silence on the link, and these answer `Q`. -/
structure KeptByLink (P Q : State → Prop) : Prop where
  weaken : ∀ {s}, P s → Q s
  inert : ∀ {s t}, Inert s t → P s → P t
  receiver : ∀ {s} rx buffer, s.check = .pass ∨ s.link.rx ≠ .outside →
    buffer.length ≤ 38 ∨ buffer = s.link.buffer → P s → P (s.setReceiver rx buffer)
  candidate : ∀ {s ex}, s.link.exchange = some ex → P s →
    P { s with link := { s.link with exchange := some { ex with awaiting := .candidate } } }
  silence : ∀ {s ex}, s.link.exchange = some ex → P s → Q (s.silence ex)
  validReply : ∀ {s ex} payload, s.link.exchange = some ex → P s → Q (s.validReply ex payload)

/-- What a report does to the part takes `P` to `Q`. -/
structure KeptByReports (P Q : State → Prop) : Prop where
  weaken : ∀ {s}, P s → Q s
  announce : ∀ {s a} role abilities, (s.station a).present = true → P s → Q (s.announce a role abilities)
  blockScan : ∀ {s} measured key copy thickness, P s → Q (s.blockScan measured key copy thickness).2
  caseScan : ∀ {s} code refeed, P s → Q (s.caseScan code refeed).2
  jacketScan : ∀ {s} code copy refeed copyRead, P s → Q (s.jacketScan code copy refeed copyRead).2
  takeTemp : ∀ {s} sample, P s → Q (s.takeTemp sample)
  sendFrame : ∀ {s} a kind payload, Q s → Q (s.sendFrame a kind payload)

/-! ### Reports -/

theorem KeptByReports.handReport {P Q : State → Prop} (h : KeptByReports P Q) {s : State} (hs : P s) (r : Role)
    (abilities : Byte) (report : Report) : Q (s.handReport r abilities report).2 := by
  unfold State.handReport
  split
  · exact h.blockScan _ _ _ _ hs
  · exact h.caseScan _ _ hs
  · exact h.jacketScan _ _ _ _ hs
  · dsimp only
    split
    · exact h.takeTemp _ hs
    · exact h.weaken hs
  · exact h.weaken hs

theorem KeptByReports.takeReport {P Q : State → Prop} (h : KeptByReports P Q) {s : State} (hs : P s) {a : Address}
    (ha : (s.station a).present = true) (report : Report) : Q (s.takeReport a report).2 := by
  unfold State.takeReport
  split
  · exact h.announce _ _ ha hs
  · split
    · exact h.handReport hs _ _ _
    · exact h.weaken hs

theorem KeptByReports.takePayload {P Q : State → Prop} (h : KeptByReports P Q) {s : State} (hs : P s) {a : Address}
    (ha : (s.station a).present = true) (payload : List Byte) : Q (s.takePayload a payload) := by
  unfold State.takePayload
  split
  · exact h.weaken hs
  · next report _ =>
    have hr := h.takeReport hs ha report
    split
    · next v t e => rw [e] at hr; exact h.sendFrame _ _ _ hr
    · next t e => rw [e] at hr; exact hr

/-! ### The link -/

namespace KeptByLink

variable {P Q : State → Prop} (h : KeptByLink P Q) {s : State}

include h

theorem abandonFrame (hl : s.check = .pass ∨ s.link.rx ≠ .outside) (hs : P s) : Q s.abandonFrame := by
  have hr := h.receiver .outside [] hl (.inl (by simp)) hs
  unfold State.abandonFrame
  dsimp only
  split
  · next ex hex =>
    split
    · exact h.silence hex hr
    · exact h.weaken hr
  · exact h.weaken hr

theorem beginFrame (hc : s.check = .pass) (hs : P s) : Q s.beginFrame := by
  have hr := h.receiver .inFrame [] (.inl hc) (.inl (by simp)) hs
  unfold State.beginFrame
  dsimp only
  split
  · next ex hex => exact h.weaken (h.candidate hex hr)
  · exact h.weaken hr

theorem takeContent (hc : s.check = .pass) (hs : P s) (b : Byte) : Q (s.takeContent b) := by
  unfold State.takeContent
  split
  · exact h.abandonFrame (.inl hc) hs
  · next hlen => exact h.weaken (h.receiver _ _ (.inl hc) (.inl (by simp; omega)) hs)

theorem completeFrame (hc : s.check = .pass) (hs : P s) : Q s.completeFrame := by
  have hr := h.receiver .outside [] (.inl hc) (.inl (by simp)) hs
  unfold State.completeFrame
  dsimp only
  split
  · exact h.weaken hr
  · next ex hex =>
    split
    · exact h.weaken hr
    · split
      · exact h.silence hex hr
      · split
        · exact h.validReply _ hex hr
        · exact h.silence hex hr

theorem linkByte (hs : P s) (b : Byte) : Q (s.linkByte b) := by
  unfold State.linkByte
  split
  · next hc =>
    obtain ⟨hc, -⟩ := hc
    unfold State.receiveByte
    split
    case h_1 =>
      split
      · exact h.beginFrame hc hs
      · exact h.weaken hs
    case h_2 =>
      split
      · exact h.beginFrame hc hs
      split
      · exact h.completeFrame hc hs
      split
      · exact h.weaken (h.receiver _ _ (.inl hc) (.inr rfl) hs)
      · exact h.takeContent hc hs b
    case h_3 =>
      split
      · exact h.beginFrame hc hs
      split
      · exact h.takeContent hc hs _
      · exact h.abandonFrame (.inl hc) hs
  · exact h.weaken hs

theorem breakFrame (hs : P s) : Q s.breakFrame := by
  unfold State.breakFrame
  split
  · exact h.weaken hs
  · next hrx => exact h.abandonFrame (.inr hrx) hs

theorem replyTimeout (hs : P s) : Q s.replyTimeout := by
  unfold State.replyTimeout
  split
  · next ex hex =>
    split
    · exact h.silence hex hs
    · exact h.weaken hs
  · exact h.weaken hs

end KeptByLink

/-! ### The press -/

theorem State.retire_press (s : State) (k : Retirement) (t : Tag) :
    (s.retire k t).press = { s.press with positions := s.press.positions.map (emptyOf t) } := by
  unfold State.retire
  split <;> simp [State.takeOut, State.withdrawGateOrders]

theorem State.handOver_position_none {s : State} {i : Nat} (hi : i < 12) (h : s.press.positions[i] = none)
    (z : ConveyorZone) (t : Tag) : (s.handOver z t).press.positions[i] = none := by
  unfold State.handOver
  split
  · simp [State.retire_press, h, emptyOf]
  · split
    · simpa using h
    · simpa [State.joinQueue] using h

/-- R122, stage 2: after the discharge position 11 is empty. -/
theorem State.discharge_last (s : State) : s.discharge.press.positions[11] = none := by
  unfold State.discharge
  split
  · next h => exact h
  · exact State.handOver_position_none (by omega) (by simp) _ _

namespace KeptByOps

variable {Q : State → Prop} (h : KeptByOps Q) {s : State}

include h

theorem atReading (hs : Q s) (now : Word32) : Q (s.atReading now) := h.inert rfl hs

theorem raise (hs : Q s) (a : Attention) : Q (s.raise a) := h.inert rfl hs

theorem stopOverdwell (hs : Q s) : Q s.stopOverdwell := h.timers rfl hs

theorem qualifyOpen (hs : Q s) (now : Word32) : Q (s.qualifyOpen now) :=
  h.stopOverdwell (h.heated (pressMark_accumulate _) hs)

theorem takeOverdwell (hs : Q s) : Q s.takeOverdwell :=
  h.offerJawRelease (h.stopOverdwell (h.raise (h.heated (pressMark_markOverdue _) hs) _))

theorem qualifyClose (hs : Q s) (now : Word32) : Q (s.qualifyClose now) := by
  have harm : Q (s.armClosure now) := h.timers rfl hs
  rcases s.qualifyClose_cases now with ⟨-, e⟩ | ⟨-, e⟩ <;> rw [e]
  · exact harm
  · exact h.takeOverdwell harm

theorem jawAsserted (hs : Q s) : Q s.jawAsserted := by
  unfold State.jawAsserted
  split
  case h_1 =>
    unfold State.beginClosing
    dsimp only
    have ht : Q { s with press := { s.press with assertionTime := s.timeBase } } := h.timers rfl hs
    split
    · exact h.qualifyClose ht _
    · exact h.timers rfl hs
  case h_2 =>
    unfold State.bridgeDropout
    dsimp only
    have ht : Q { s with press := { s.press with jaw := .closed, bridgeTimer := none } } := h.timers rfl hs
    split
    · exact h.takeOverdwell ht
    · exact ht
  all_goals exact hs

theorem jawReleased (hs : Q s) : Q s.jawReleased := by
  unfold State.jawReleased
  split
  case h_1 => exact h.timers rfl hs
  case h_2 =>
    unfold State.beginOpening
    dsimp only
    have ht : Q { s with press := { s.press with releaseTime := s.timeBase } } := h.timers rfl hs
    split
    · exact h.timers rfl (h.qualifyOpen ht _)
    · exact h.timers rfl hs
  all_goals exact hs

theorem hitExpiry (hs : Q s) : Q s.hitExpiry := by
  unfold State.hitExpiry
  split
  · exact h.qualifyClose hs _
  · exact hs

theorem bridgeExpiry (hs : Q s) : Q s.bridgeExpiry := by
  unfold State.bridgeExpiry
  split
  · exact h.timers rfl (h.qualifyOpen hs _)
  · exact hs

theorem overdwellExpiry (hs : Q s) : Q s.overdwellExpiry := by
  unfold State.overdwellExpiry
  split
  · split
    · exact h.takeOverdwell hs
    · exact h.timers rfl hs
    all_goals exact hs
  · exact hs

theorem markSequence (hs : Q s) : Q s.markSequence :=
  h.raise (h.heated pressMark_addSequence hs) _

theorem indexJaws (hs : Q s) : Q s.indexJaws := by
  unfold State.indexJaws
  split
  · exact hs
  · exact h.markSequence (h.qualifyOpen hs _)
  · exact h.timers rfl (h.markSequence (h.qualifyOpen hs _))
  · exact h.timers rfl hs

theorem settleJaws (hs : Q s) (found : JawState) : Q (s.settleJaws found) := by
  unfold State.settleJaws
  split
  · exact hs
  · exact h.qualifyClose hs _
  all_goals exact h.timers rfl hs

theorem index (hs : Q s) : Q s.index := by
  have hshift := h.shiftPress s.indexJaws.discharge_last (h.discharge (h.indexJaws hs))
  have hfirst : s.indexJaws.discharge.shiftPress.press.positions[0] = none := by
    simp [State.shiftPress, shiftedPositions]
  exact h.settleJaws (h.enterPress hfirst hshift) _

/-! ### Zones -/

theorem dropOverdue (z : ConveyorZone) (ts : List Tag) (hq : (s.conveyor z).queue = ts) (hs : Q s) :
    Q (s.dropOverdue z ts) := by
  induction ts generalizing s with
  | nil => exact hs
  | cons t rest ih =>
    unfold State.dropOverdue
    split
    · refine ih ?_ (h.loseHead hq hs)
      cases z <;> rfl
    · exact hs

theorem advance (hs : Q s) (z : ConveyorZone) : Q (s.advance z) := by
  refine h.dropOverdue z _ ?_ (h.travel rfl rfl hs)
  rw [State.turnEncoder, State.conveyor_setConveyor, if_pos rfl]

theorem unforeseen (hs : Q s) (z : ConveyorZone) : Q (s.unforeseen z) :=
  h.raise (h.setMode (by decide) hs) _

theorem exitEye (hs : Q s) (z : ConveyorZone) : Q (s.exitEye z) := by
  unfold State.exitEye
  split
  · exact hs
  · next hm =>
    split
    · exact h.unforeseen hs z
    · next t rest hq =>
      split
      · exact h.arrive hm hq hs
      · exact h.unforeseen hs z

theorem changeMode (hs : Q s) (z : Zone) (m : ZoneMode) : Q (s.changeMode z m) := by
  unfold State.changeMode
  split
  · exact hs
  · split
    · exact h.enterReset z hs
    · exact h.setMode (by decide) hs
    · exact h.setMode (by decide) hs

theorem retireAllSpoiled (ts : List Tag) (hs : Q s) : Q (s.retireAll .spoiled ts) := by
  induction ts generalizing s with
  | nil => exact hs
  | cons t rest ih => exact ih (h.spoil t hs)

theorem foldl_enterReset (zs : List Zone) (hs : Q s) : Q (zs.foldl State.enterReset s) := by
  induction zs generalizing s with
  | nil => exact hs
  | cons z rest ih => exact ih (h.enterReset z hs)

theorem lineClear (hs : Q s) : Q s.lineClear :=
  h.inert (Inert.clearMismatches _) (h.stopOverdwell (h.retireAllSpoiled _ (h.foldl_enterReset allZones hs)))

/-! ### Host commands -/

theorem respond (hs : Q s) (n : Nat) (r : Reply) : Q (s.respond n r) := h.inert rfl hs

theorem command (n : Nat) {body : State → Reply × State} (hs : Q s) (hbody : s.check = .pass → Q (body s).2) :
    Q (s.command n body) := by
  unfold State.command
  split
  · next hc => exact h.respond (hbody hc) _ _
  · exact h.respond hs _ _

theorem commandAfterCheck (n : Nat) (hs : Q s) (body : State → Reply) :
    Q (s.commandAfterCheck n fun s => (body s, s)) := by
  unfold State.commandAfterCheck
  split <;> exact h.respond hs _ _

theorem loadJob (hs : Q s) (p : JobParams) : Q (s.loadJob p).2 := by
  unfold State.loadJob
  split
  · exact hs
  · next b range hp =>
    split
    · exact hs
    · next hkey =>
      have hkey : s.findJob p.key = none := by simpa using hkey
      split
      · exact hs
      · next j hj =>
        have hj := State.lowestEmpty_some hj
        split
        · exact h.bindJob none hj hp hkey rfl (by simp) hs
        · next _ first last =>
          split
          · exact hs
          · next t ht =>
            exact h.bindJob (some (first, last, t)) hj hp hkey rfl (by simpa using ht) hs

omit h in
theorem withJob (hs : Q s) (key : Word32) {body : JobSlot → Job → Reply × State}
    (hbody : ∀ j b, s.job j = some b → Q (body j b).2) : Q (s.withJob key body).2 := by
  unfold State.withJob
  split
  · exact hs
  · split
    · exact hs
    · next j b hf =>
      split
      · exact hs
      · exact hbody j b (State.findJob_some hf).1

theorem completeJob (hs : Q s) {j : JobSlot} {b b' : Job} (hb : s.job j = some b) (hr : Restated b b') :
    Q (s.completeJob j b') := by
  refine h.raise (h.restateJob hb ?_ hs) _
  obtain ⟨he, hf⟩ := hr
  exact ⟨by rw [he], hf⟩

theorem releaseJob (hs : Q s) (key : Word32) : Q (s.releaseJob key).2 := by
  refine KeptByOps.withJob hs key fun j b hb => ?_
  split
  · split
    · exact h.completeJob hs hb ⟨rfl, .inl ⟨rfl, rfl⟩⟩
    · exact h.restateJob hb ⟨rfl, .inl ⟨rfl, rfl⟩⟩ hs
  · exact hs

theorem holdJob (hs : Q s) (key : Word32) : Q (s.holdJob key).2 := by
  refine KeptByOps.withJob hs key fun j b hb => ?_
  split
  · exact h.restateJob hb ⟨rfl, .inl ⟨rfl, rfl⟩⟩ hs
  · exact hs

theorem amendJob (hs : Q s) (key : Word32) (ordered allowance : Nat) : Q (s.amendJob key ordered allowance).2 := by
  refine KeptByOps.withJob hs key fun j b hb => ?_
  split
  · next hlegal =>
    have hcovers : b.good + b.live ≤ ordered + allowance := by
      rw [Bool.and_eq_true, decide_eq_true_eq] at hlegal
      exact hlegal.2
    unfold State.placeAmended
    split
    · exact h.completeJob hs hb ⟨rfl, .inr hcovers⟩
    · split
      · exact h.restateJob hb ⟨rfl, .inr hcovers⟩ hs
      · exact h.restateJob hb ⟨rfl, .inr hcovers⟩ hs
  · exact hs

theorem closeJob (hs : Q s) (key : Word32) : Q (s.closeJob key).2 := by
  refine KeptByOps.withJob hs key fun j b hb => ?_
  split
  · next hlive => exact h.emptyJob hb hlive hs
  · exact h.restateJob hb ⟨rfl, .inl ⟨rfl, rfl⟩⟩ hs

theorem setFilter (hs : Q s) (interval shift warmup : Byte) : Q (s.setFilter interval shift warmup).2 := by
  unfold State.setFilter
  split
  · next hlegal =>
    obtain ⟨hlow, hhigh, hw⟩ := (setFilter_legal_iff shift warmup).1 hlegal
    refine h.filter (fun hf => ?_) hs
    obtain ⟨-, -, -, -, -, -, -, htl, hth⟩ := hf
    have hw : warmup.toNat ≠ 0 := fun e => hw (BitVec.eq_of_toNat_eq e)
    have hi := interval.isLt
    have hwl := warmup.isLt
    exact ⟨by change interval.toNat ≤ 255; omega, hlow, hhigh, by change 1 ≤ warmup.toNat; omega,
      by change warmup.toNat ≤ 255; omega, Nat.zero_le _, .inl rfl, htl, hth⟩
  · exact hs

theorem setZone (hs : Q s) (zone : Byte) (length window : Word16) : Q (s.setZone zone length window).2 := by
  unfold State.setZone
  split
  · exact hs
  · split
    · split
      · exact h.travel rfl rfl hs
      · exact hs
    · exact hs

theorem setZoneMode (hs : Q s) (zone mode : Byte) : Q (s.setZoneMode zone mode).2 := by
  unfold State.setZoneMode
  split
  · exact h.changeMode hs _ _
  · exact hs

theorem resolveLost (hs : Q s) (tag : Byte) (admission : Word16) : Q (s.resolveLost tag admission).2 := by
  unfold State.resolveLost
  split
  · exact hs
  · split
    · exact hs
    · split
      · exact h.spoil _ hs
      · exact hs

theorem reinstate (hs : Q s) (tag : Byte) (admission : Word16) (zone : Byte) :
    Q (s.reinstate tag admission zone).2 := by
  unfold State.reinstate
  split
  · next t z _ _ =>
    split
    · exact hs
    · next p hp =>
      have hsome : (s.piece t).isSome := by
        unfold State.named at hp
        split at hp
        · next hq => simp [hq]
        · cases hp
      split
      · exact hs
      · next hlost =>
        split
        · exact hs
        · next hmode =>
          split
          · exact hs
          · next hfull => exact h.returnTo (by simpa using hlost) hsome hmode (by omega) hs
  · exact hs

theorem readStation (hc : s.check = .pass) (hs : Q s) (address : Byte) : Q (s.readStation address).2 := by
  unfold State.readStation
  split
  · exact hs
  · exact h.latch _ hc hs

/-- R179, R182: every host command keeps the predicate. -/
theorem hostCommand (hs : Q s) {i : Instr} {code : Byte} (hi : commandCode i = some code) {t : State}
    (ht : exec i s = .next t) : Q t := by
  cases i <;> cases hi <;> cases ht
  case identify => exact h.commandAfterCheck _ hs _
  case readStatus => exact h.commandAfterCheck _ hs _
  case ackAttention m =>
    refine h.command _ hs fun _ => h.inert ?_ hs
    unfold State.ackAttention; split <;> rfl
  case setAttentionEnable m =>
    refine h.command _ hs fun _ => h.inert ?_ hs
    unfold State.setAttentionEnable; split <;> rfl
  case setLamp =>
    refine h.command _ hs fun _ => h.inert ?_ hs
    unfold State.setLamp; split <;> rfl
  case loadJob => exact h.command _ hs fun _ => h.loadJob hs _
  case releaseJob => exact h.command _ hs fun _ => h.releaseJob hs _
  case holdJob => exact h.command _ hs fun _ => h.holdJob hs _
  case amendJob => exact h.command _ hs fun _ => h.amendJob hs _ _ _
  case closeJob => exact h.command _ hs fun _ => h.closeJob hs _
  case findJob => exact h.command _ hs fun _ => KeptByOps.withJob hs _ fun _ _ _ => hs
  case writeClass =>
    refine h.command _ hs fun _ => h.inert ?_ hs
    unfold State.writeClass; split <;> rfl
  case writeBin =>
    refine h.command _ hs fun _ => h.inert ?_ hs
    unfold State.writeBin; split <;> rfl
  case writeRange =>
    refine h.command _ hs fun _ => h.inert ?_ hs
    unfold State.writeRange; (repeat' split) <;> rfl
  case setClassTable =>
    refine h.command _ hs fun _ => h.inert ?_ hs
    unfold State.setClassTable; split <;> rfl
  case setFilter => exact h.command _ hs fun _ => h.setFilter hs _ _ _
  case setJawTimes =>
    refine h.command _ hs fun _ => ?_
    unfold State.setJawTimes
    split
    · exact h.timers rfl hs
    · exact hs
  case readPress => exact h.command _ (h.atReading hs _) fun _ => h.atReading hs _
  case setZone => exact h.command _ hs fun _ => h.setZone hs _ _ _
  case setZoneMode => exact h.command _ hs fun _ => h.setZoneMode hs _ _
  case lineClear => exact h.command _ hs fun _ => h.lineClear hs
  case resolveLost => exact h.command _ hs fun _ => h.resolveLost hs _ _
  case reinstate => exact h.command _ hs fun _ => h.reinstate hs _ _ _
  case readStation => exact h.command _ hs fun hc => h.readStation hc hs _
  all_goals exact h.command _ hs fun _ => hs

theorem readResponse (hs : Q s) (n : Nat) : Q (s.readResponse n) := by
  refine h.inert ?_ hs
  unfold State.readResponse
  split <;> rfl

end KeptByOps

theorem runHostCommand_eq_exec (i : Instr) (s : State) :
    runHostCommand i s = if (commandCode i).isSome then exec i s else .next s := by
  cases i <;> rfl

theorem KeptByOps.transact {Q : State → Prop} (h : KeptByOps Q) {s t : State} (hs : Q s) {w : List Byte}
    (ht : s.transact w = .next t) : Q t := by
  unfold State.transact at ht
  split at ht
  · cases ht; exact hs
  · split at ht
    · cases ht; exact h.readResponse hs _
    · split at ht
      · cases ht; exact h.respond hs _ _
      · cases ht; exact h.respond hs _ _
      · next i _ =>
        rw [runHostCommand_eq_exec] at ht
        split at ht
        · next hi =>
          obtain ⟨code, hcode⟩ := Option.isSome_iff_exists.1 hi
          exact h.hostCommand hs hcode ht
        · cases ht; exact hs

/-! ### Every command -/

/-- What the operations keep, every event keeps; on the link, `P` before a reply or a silence gives `Q` after it. -/
theorem event_keeps {P Q : State → Prop} (ops : KeptByOps Q) (link : KeptByLink P Q) {c : Instr} {s t : State}
    (hcode : commandCode c = none) (hs : P s) (ht : exec c s = .next t) : Q t := by
  have hq := link.weaken hs
  cases c <;> cases hcode
  case unknownCommand => exact ops.transact hq ht
  case frameAbandoned cause now =>
    cases cause <;> cases ht
    · exact link.linkByte (link.inert (Inert.atReading s _) hs) _
    · exact link.breakFrame (link.inert (Inert.atReading s _) hs)
  all_goals cases ht
  case powerOn => exact ops.powerOn _ _ hq
  case memoryCheckPass =>
    unfold State.checkPasses
    split
    · next hc => exact ops.checkEnds hc (by decide) hq
    · exact hq
  case memoryCheckFail =>
    unfold State.checkFails
    split
    · next hc => exact ops.raise (ops.checkEnds hc (by decide) hq) _
    · exact hq
  case responseRead => exact ops.readResponse hq _
  case forwardAdvance z => exact ops.advance hq z
  case reverseAdvance z => exact ops.travel rfl rfl hq
  case exitEyeLeadingEdge z now => exact ops.exitEye (ops.atReading hq _) z
  case pressIndex => exact ops.index (ops.atReading hq _)
  case jawContactAsserted => exact ops.jawAsserted (ops.atReading hq _)
  case jawContactReleased => exact ops.jawReleased (ops.atReading hq _)
  case hitTimerExpiry => exact ops.hitExpiry (ops.atReading hq _)
  case bridgeTimerExpiry => exact ops.bridgeExpiry (ops.atReading hq _)
  case overdwellTimerExpiry => exact ops.overdwellExpiry (ops.atReading hq _)
  case lampStretchExpiry l now =>
    refine ops.inert ?_ (ops.atReading hq now)
    unfold State.endStretch
    split <;> rfl
  case poll =>
    by_cases hp : s.check = .pass ∧ s.link.exchange = none
    · exact ops.sendPoll hp.1 hp.2 hq
    · unfold State.sendPoll
      rw [if_neg hp]
      exact hq
  case replyFrame => exact link.linkByte (link.inert (Inert.atReading s _) hs) _
  case replyTimeout => exact link.replyTimeout (link.inert (Inert.atReading s _) hs)
  case interByteGapExpiry => exact link.breakFrame (link.inert (Inert.atReading s _) hs)
  case linkByteReceived => exact link.linkByte hs _

theorem exec_keeps {P Q : State → Prop} (ops : KeptByOps Q) (link : KeptByLink P Q) {c : Instr} {s t : State}
    (hs : P s) (ht : exec c s = .next t) : Q t := by
  cases hcode : commandCode c with
  | some code => exact ops.hostCommand (link.weaken hs) hcode ht
  | none => exact event_keeps ops link hcode hs ht

/-- A predicate that does not look at the queue, and that every command keeps, is kept by every step. -/
theorem step_keeps {P Q : State → Prop} (queue : ∀ {s : State} l, P s → P { s with pending := l }) (ops : KeptByOps Q)
    (link : KeptByLink P Q) {s t : State} (hs : P s) (ht : step s = .next t) : Q t := by
  unfold step at ht
  split at ht
  · cases ht
    have htick := link.inert (Inert.atReading s (s.timeBase + 1)) hs
    exact link.weaken (queue _ htick)
  · exact exec_keeps ops link (queue _ hs) ht

end Sys2Proof.Machine
end

section
/-! SUPPORT. What a retirement, or one of several pieces after another, takes from the state (R18, R19): the pieces
go from every place with their waiting gate orders, and nothing else of the line moves. -/

namespace Sys2Proof.Machine

open Sys2Proof.Safety

/-- R18: the order does not act on a piece of the list. -/
def Order.spares (ts : List Tag) (o : Order) : Bool := (gateTag o).all (· ∉ ts)

@[simp] theorem Order.spares_gate (ts : List Tag) (o : Disposition) (t : Tag) :
    (Order.gate o t).spares ts = decide (t ∉ ts) := rfl

@[simp] theorem Order.spares_jawRelease (ts : List Tag) : Order.jawRelease.spares ts = true := rfl

/-- R18, R19: `t` is `s` with the pieces of a list retired. The counts of their jobs, the copy entries and the lamps are
not described. -/
structure Removed (ts : List Tag) (s t : State) : Prop where
  frame : t = { s with
    pool := t.pool
    jobs := t.jobs
    copyTables := t.copyTables
    press := { s.press with positions := t.press.positions }
    z1 := { s.z1 with queue := t.z1.queue }
    z2 := { s.z2 with queue := t.z2.queue }
    z4 := { s.z4 with queue := t.z4.queue }
    z5 := { s.z5 with queue := t.z5.queue }
    casing := t.casing
    pressEntry := t.pressEntry
    jacketing := t.jacketing
    lost := t.lost
    gateQueue := t.gateQueue
    stations := t.stations
    flags := t.flags
    lamps := t.lamps }
  piece : ∀ u, t.piece u = if u ∈ ts then none else s.piece u
  queue : ∀ z, (t.conveyor z).queue = (s.conveyor z).queue.filter (· ∉ ts)
  casing : t.casing = s.casing.filter (· ∉ ts)
  pressEntry : t.pressEntry = s.pressEntry.filter (· ∉ ts)
  jacketing : t.jacketing = s.jacketing.filter (· ∉ ts)
  positions : ∀ i : Fin 12, t.press.positions[i] = s.press.positions[i].filter (· ∉ ts)
  gateQueue : t.gateQueue = s.gateQueue.filter (· ∉ ts)
  lost : t.lost = s.lost.filter (· ∉ ts)
  station : ∀ a, t.station a = { s.station a with orders := (s.station a).orders.filter (Order.spares ts) }

theorem emptyOf_eq_filter (t : Tag) (place : Option Tag) : emptyOf t place = place.filter (· ∉ [t]) := by
  cases place with
  | none => rfl
  | some u => by_cases h : u = t <;> simp [emptyOf, Option.filter, h]

theorem State.settleCopy_frame (s : State) (k : Retirement) (p : Piece) (b : Job) :
    s.settleCopy k p b = { s with copyTables := (s.settleCopy k p b).copyTables } := by
  unfold State.settleCopy State.setCopyEntry
  (repeat' split) <;> rfl

theorem State.emptyJob_frame (s : State) (j : JobSlot) (b : Job) :
    s.emptyJob j b = { s with jobs := s.jobs.set j none, copyTables := (s.emptyJob j b).copyTables } := by
  unfold State.emptyJob
  split <;> rfl

/-- R155: the job's part of a retirement touches the job, its copy table and attention JOB_COMPLETE. -/
theorem State.settleJob_frame (s : State) (k : Retirement) (p : Piece) :
    s.settleJob k p = { s with
      jobs := (s.settleJob k p).jobs
      copyTables := (s.settleJob k p).copyTables
      flags := (s.settleJob k p).flags } := by
  unfold State.settleJob
  split
  · rfl
  · next j _ =>
    split
    · rfl
    · next b _ =>
      dsimp only
      rw [State.settleCopy_frame]
      split
      · rfl
      · split
        · rw [State.emptyJob_frame]; rfl
        · rfl

theorem State.retirePulse_frame (s : State) (k : Retirement) :
    s.retirePulse k = { s with lamps := (s.retirePulse k).lamps } := by
  cases k <;> rfl

theorem State.retire_frame (s : State) (k : Retirement) (t : Tag) :
    s.retire k t = { s.takeOut t with
      pool := (s.retire k t).pool
      jobs := (s.retire k t).jobs
      copyTables := (s.retire k t).copyTables
      flags := (s.retire k t).flags
      lamps := (s.retire k t).lamps } := by
  unfold State.retire
  split
  · rfl
  · rw [State.retirePulse_frame, State.settleJob_frame]
    rfl

/-- R18: a retirement removes its piece. -/
theorem Removed.retire (s : State) (k : Retirement) (t : Tag) : Removed [t] s (s.retire k t) where
  frame := by rw [s.retire_frame k t]; rfl
  piece u := by simpa using s.piece_retire k t u
  queue z := by
    rw [s.retire_frame k t]
    cases z <;> simp [State.takeOut, State.withdrawGateOrders, State.conveyor, Conveyor.without]
  casing := by rw [s.retire_frame k t]; exact emptyOf_eq_filter t _
  pressEntry := by rw [s.retire_frame k t]; exact emptyOf_eq_filter t _
  jacketing := by rw [s.retire_frame k t]; exact emptyOf_eq_filter t _
  positions i := by simp [State.retire_press, emptyOf_eq_filter]
  gateQueue := by rw [s.retire_frame k t]; simp [State.takeOut, State.withdrawGateOrders]
  lost := by rw [s.retire_frame k t]; simp [State.takeOut, State.withdrawGateOrders]
  station a := by
    rw [s.retire_frame k t]
    simp only [State.station, State.takeOut, State.withdrawGateOrders, Fin.getElem_fin, Vector.getElem_map]
    congr 1
    refine List.filter_congr fun o _ => ?_
    cases o <;> simp

theorem filter_notMem_nil (place : Option Tag) : place.filter (· ∉ ([] : List Tag)) = place := by
  cases place <;> rfl

theorem Removed.nil (s : State) : Removed [] s s where
  frame := rfl
  piece u := by simp
  queue z := by simp
  casing := (filter_notMem_nil _).symm
  pressEntry := (filter_notMem_nil _).symm
  jacketing := (filter_notMem_nil _).symm
  positions i := (filter_notMem_nil _).symm
  gateQueue := by simp
  lost := by simp
  station a := by
    have : (s.station a).orders.filter (Order.spares []) = (s.station a).orders :=
      List.filter_eq_self.2 fun o _ => by cases o <;> simp
    rw [this]

theorem Order.spares_append (ts us : List Tag) (o : Order) : o.spares (ts ++ us) = (o.spares us && o.spares ts) := by
  cases o
  · simp [Bool.and_comm]
  · rfl

theorem Removed.trans {ts us : List Tag} {s t u : State} (h : Removed ts s t) (g : Removed us t u) :
    Removed (ts ++ us) s u where
  frame := by rw [g.frame, h.frame]
  piece v := by
    rw [g.piece, h.piece]
    by_cases h1 : v ∈ ts <;> by_cases h2 : v ∈ us <;> simp [h1, h2]
  queue z := by simp [g.queue, h.queue, List.filter_filter, Bool.and_comm]
  casing := by rw [g.casing, h.casing]; simp [Option.filter_filter]
  pressEntry := by rw [g.pressEntry, h.pressEntry]; simp [Option.filter_filter]
  jacketing := by rw [g.jacketing, h.jacketing]; simp [Option.filter_filter]
  positions i := by rw [g.positions, h.positions]; simp [Option.filter_filter]
  gateQueue := by simp [g.gateQueue, h.gateQueue, List.filter_filter, Bool.and_comm]
  lost := by simp [g.lost, h.lost, List.filter_filter, Bool.and_comm]
  station a := by
    rw [g.station, h.station]
    simp only [List.filter_filter]
    congr 1
    exact List.filter_congr fun o _ => (o.spares_append ts us).symm

/-- R19: the retirement of several pieces removes them. -/
theorem Removed.retireAll (s : State) (k : Retirement) (ts : List Tag) : Removed ts s (s.retireAll k ts) := by
  induction ts generalizing s with
  | nil => exact .nil s
  | cons t rest ih => exact (Removed.retire s k t).trans (ih (s.retire k t))

/-- R149, R152: a piece that is diverted unconfirmed is removed. -/
theorem Removed.divertUnconfirmed (s : State) (t : Tag) : Removed [t] s (s.divertUnconfirmed t) := by
  have h := Removed.retire (s.addFault .gateUnconfirmed t) .diverted t
  exact {
    frame := h.frame
    piece := fun u => by
      refine (h.piece u).trans ?_
      by_cases hu : u = t <;> simp [State.addFault, State.piece_updatePiece, hu]
    queue := h.queue
    casing := h.casing
    pressEntry := h.pressEntry
    jacketing := h.jacketing
    positions := h.positions
    gateQueue := h.gateQueue
    lost := h.lost
    station := h.station }

theorem Removed.divertAllUnconfirmed (s : State) (ts : List Tag) : Removed ts s (s.divertAllUnconfirmed ts) := by
  induction ts generalizing s with
  | nil => exact .nil s
  | cons t rest ih => exact (Removed.divertUnconfirmed s t).trans (ih (s.divertUnconfirmed t))

end Sys2Proof.Machine
end

section
/-! SUPPORT. The station table, the jaw temperature filter and the silent link (R93 to R100, R159, R170 to R175): what
keeps an entry of the table sound, and that every step keeps the table, the filter and the link. -/

namespace Sys2Proof.Machine

open Sys2Proof.Safety

/-! ### One entry of the station table -/

/-- R170, R174, R175: an entry of the station table agrees in itself. -/
def EntrySound (st : Station) : Prop :=
  (st.role.isSome ↔ st.standing.isSome) ∧ (st.role = none → st.abilities = 0) ∧
    (∀ r, st.role = some r → st.abilities &&& ~~~r.mayAnnounce = 0) ∧
    (st.present = false → st.role = none ∧ st.orders = []) ∧ st.silent ≤ 3 ∧
    (st.standing ≠ some .assigned → st.orders = []) ∧
    (∀ o t, Order.gate o t ∈ st.orders → st.role = some .gate) ∧
    (Order.jawRelease ∈ st.orders → st.role = some .press ∧ st.orders = [.jawRelease])

/-- R170: a role is held by at most one station. -/
def HoldersUnique (s : State) : Prop := ∀ a b r, Holds s a r → Holds s b r → a = b

theorem stationsSound_iff (s : State) :
    StationsSound s ↔ (∀ a, EntrySound (s.station a)) ∧ HoldersUnique s := Iff.rfl

theorem entrySound_powerOn : EntrySound Station.powerOn := by
  simp [EntrySound, Station.powerOn]

/-- Orders that leave an order queue leave its entry sound. -/
theorem EntrySound.trim {st : Station} (h : EntrySound st) {os : List Order} (hos : os.Sublist st.orders) :
    EntrySound { st with orders := os } := by
  obtain ⟨hrole, hnone, htaken, habsent, hsilent, hidle, hgate, hjaw⟩ := h
  have hempty : st.orders = [] → os = [] := fun e => List.sublist_nil.1 (e ▸ hos)
  refine ⟨hrole, hnone, htaken, fun e => ⟨(habsent e).1, hempty (habsent e).2⟩, hsilent, fun e => hempty (hidle e),
    fun o t m => hgate o t (hos.subset m), fun m => ?_⟩
  obtain ⟨hpress, hall⟩ := hjaw (hos.subset m)
  refine ⟨hpress, ?_⟩
  rcases List.sublist_singleton.1 (hall ▸ hos) with e | e
  · simp [e] at m
  · exact e

theorem EntrySound.present {st : Station} (h : EntrySound st) {r : Role} (hr : st.role = some r) :
    st.present = true := by
  obtain ⟨-, -, -, habsent, -⟩ := h
  by_contra hp
  have := (habsent (by simpa using hp)).1
  simp [hr] at this

/-! ### Operations that only take orders out of the queues -/

/-- `t` has the station table of `s` but for orders that have left their queues, and its link. -/
structure Trimmed (s t : State) : Prop where
  filter : FilterLegal s.filter → FilterLegal t.filter
  link : t.link = s.link
  check : t.check = s.check
  station : ∀ a, ∃ os, os.Sublist (s.station a).orders ∧ t.station a = { s.station a with orders := os }

theorem Trimmed.of_stations {s t : State} (hf : t.filter = s.filter) (hl : t.link = s.link) (hc : t.check = s.check)
    (hs : t.stations = s.stations) : Trimmed s t :=
  ⟨fun h => hf ▸ h, hl, hc, fun a => ⟨_, List.Sublist.refl _, by rw [State.station_congr hs]⟩⟩

theorem Trimmed.refl (s : State) : Trimmed s s := .of_stations rfl rfl rfl rfl

theorem Trimmed.trans {s t u : State} (h : Trimmed s t) (g : Trimmed t u) : Trimmed s u where
  filter hf := g.filter (h.filter hf)
  link := g.link.trans h.link
  check := g.check.trans h.check
  station a := by
    obtain ⟨os, hos, hst⟩ := h.station a
    obtain ⟨os', hos', hst'⟩ := g.station a
    rw [hst] at hos' hst'
    exact ⟨os', hos'.trans hos, hst'⟩

theorem Trimmed.of_removed {ts : List Tag} {s t : State} (h : Removed ts s t) : Trimmed s t where
  filter hf := by rw [h.frame]; exact hf
  link := by rw [h.frame]
  check := by rw [h.frame]
  station a := ⟨_, List.filter_sublist, h.station a⟩

theorem Trimmed.withdrawGateOrders (s : State) (which : Disposition → Tag → Bool) :
    Trimmed s (s.withdrawGateOrders which) where
  filter := id
  link := rfl
  check := rfl
  station a := ⟨_, List.filter_sublist, by simp [State.station, State.withdrawGateOrders]; rfl⟩

theorem Trimmed.handOver (s : State) (z : ConveyorZone) (t : Tag) : Trimmed s (s.handOver z t) := by
  unfold State.handOver
  split
  · exact .of_removed (.retire s _ t)
  · split
    · exact .of_stations rfl rfl rfl rfl
    · exact .of_stations (by simp [State.joinQueue]) (by simp [State.joinQueue]) (by simp [State.joinQueue])
        (by simp [State.joinQueue])

/-- The station table is sound; where `quiet` holds, the filter is in its ranges and the link quiet. -/
def LinkSound (quiet : Prop) (s : State) : Prop := StationsSound s ∧ (quiet → FilterLegal s.filter ∧ LinkQuiet s)

variable {quiet : Prop}

theorem Trimmed.holds_iff {s t : State} (h : Trimmed s t) (a : Address) (r : Role) : Holds t a r ↔ Holds s a r := by
  obtain ⟨os, -, hst⟩ := h.station a
  simp [Holds, hst]

theorem Trimmed.linkSound {s t : State} (h : Trimmed s t) (hs : LinkSound quiet s) : LinkSound quiet t := by
  obtain ⟨⟨hentry, hunique⟩, hlaws⟩ := hs
  refine ⟨⟨fun a => ?_, fun a b r ha hb => ?_⟩, fun hq => ?_⟩
  · obtain ⟨os, hos, hst⟩ := h.station a
    rw [hst]
    exact EntrySound.trim (hentry a) hos
  · exact hunique a b r ((h.holds_iff a r).1 ha) ((h.holds_iff b r).1 hb)
  · obtain ⟨hf, hdir, hquiet⟩ := hlaws hq
    refine ⟨h.filter hf, h.link ▸ hdir, fun hc => ?_⟩
    obtain ⟨hlink, hstations⟩ := hquiet (h.check ▸ hc)
    refine ⟨h.link ▸ hlink, fun a => ?_⟩
    obtain ⟨os, hos, hst⟩ := h.station a
    rw [hstations a] at hst hos
    rw [hst, List.sublist_nil.1 hos]
    rfl

theorem LinkSound.of_stations {s t : State} (hs : LinkSound quiet s) (hf : t.filter = s.filter) (hl : t.link = s.link)
    (hc : t.check = s.check) (hst : t.stations = s.stations) : LinkSound quiet t :=
  (Trimmed.of_stations hf hl hc hst).linkSound hs

/-! ### Orders that join a queue -/

/-- A station that holds a role is one of a part whose check has passed. -/
theorem LinkSound.check_of_role {s : State} (hs : LinkSound quiet s) {a : Address} {r : Role}
    (hr : (s.station a).role = some r) (hq : quiet) : s.check = .pass := by
  obtain ⟨-, -, hquiet⟩ := hs.2 hq
  by_contra hc
  simp [(hquiet hc).2 a, Station.powerOn] at hr

/-- The link state is sound but, perhaps, for one entry of the table. -/
structure SoundBut (quiet : Prop) (a : Address) (s : State) : Prop where
  others : ∀ b, b ≠ a → EntrySound (s.station b)
  unique : ∀ b c r, b ≠ a → c ≠ a → Holds s b r → Holds s c r → b = c
  quiet : quiet → FilterLegal s.filter ∧ s.link.direction = false ∧ s.check = .pass

theorem LinkSound.soundBut {s : State} (hs : LinkSound quiet s) (hc : quiet → s.check = .pass) (a : Address) : SoundBut quiet a s :=
  ⟨fun b _ => hs.1.1 b, fun b c r _ _ => hs.1.2 b c r, fun hq => ⟨(hs.2 hq).1, (hs.2 hq).2.1, hc hq⟩⟩

/-- Writing the entry makes the table sound where the entry is sound and holds no role that another holds. -/
theorem SoundBut.setStation {s : State} {a : Address} (hs : SoundBut quiet a s) {st : Station} (hst : EntrySound st)
    (hholds : ∀ r, st.role = some r → st.standing = some .assigned → ∀ b, b ≠ a → ¬Holds s b r) :
    LinkSound quiet (s.setStation a st) := by
  refine ⟨⟨fun b => ?_, fun b c r hb hcc => ?_⟩, fun hq => ?_⟩
  · rw [State.station_setStation]
    split
    · exact hst
    · exact hs.others b ‹_›
  · by_contra hne
    simp only [Holds, State.station_setStation] at hb hcc
    split at hb <;> split at hcc
    · simp_all
    · exact hholds r hb.1 hb.2 c ‹_› hcc
    · exact hholds r hcc.1 hcc.2 b ‹_› hb
    · exact hne (hs.unique b c r ‹_› ‹_› hb hcc)
  · obtain ⟨hf, hdir, hcheck⟩ := hs.quiet hq
    exact ⟨hf, hdir, fun h => absurd hcheck h⟩

theorem LinkSound.setStation {s : State} (hs : LinkSound quiet s) (hc : quiet → s.check = .pass) {a : Address} {st : Station}
    (hst : EntrySound st)
    (hholds : ∀ r, st.role = some r → st.standing = some .assigned → ∀ b, b ≠ a → ¬Holds s b r) :
    LinkSound quiet (s.setStation a st) :=
  (hs.soundBut hc a).setStation hst hholds

/-- An entry that changes in neither role nor standing holds what it held. -/
theorem LinkSound.setStation_same {s : State} (hs : LinkSound quiet s) (hc : quiet → s.check = .pass) {a : Address} {st : Station}
    (hst : EntrySound st) (hr : st.role = (s.station a).role) (hg : st.standing = (s.station a).standing) :
    LinkSound quiet (s.setStation a st) :=
  hs.setStation hc hst fun r h1 h2 b hne hb => hne (hs.1.2 b a r hb ⟨hr ▸ h1, hg ▸ h2⟩)

theorem LinkSound.offerJawRelease {s : State} (hs : LinkSound quiet s) : LinkSound quiet s.offerJawRelease := by
  unfold State.offerJawRelease
  split
  · exact hs
  · next a ha =>
    obtain ⟨hrole, hstanding⟩ := State.holder_some ha
    dsimp only
    split
    · next hoffer =>
      have hnone : Order.jawRelease ∉ (s.station a).orders := by
        have := (Bool.and_eq_true_iff.1 hoffer).2
        simpa using this
      have hentry := hs.1.1 a
      have hpresent := EntrySound.present hentry hrole
      obtain ⟨hboth, -, htaken, -, hsilent, -, hgate, -⟩ := hentry
      have hempty : (s.station a).orders = [] := by
        refine List.eq_nil_iff_forall_not_mem.2 fun o ho => ?_
        cases o with
        | gate d t => simpa [hrole] using hgate d t ho
        | jawRelease => exact hnone ho
      refine hs.setStation_same (hs.check_of_role hrole) ?_ rfl rfl
      refine ⟨hboth, by simp [hrole], htaken, by simp [hpresent], hsilent, by simp [hstanding], ?_, ?_⟩ <;>
        simp [hempty, hrole]
    · exact hs

theorem LinkSound.queueGateOrder {s : State} (hs : LinkSound quiet s) {a : Address} (ha : s.holder .gate = some a)
    (o : Disposition) (t : Tag) : LinkSound quiet (s.queueGateOrder a o t) := by
  obtain ⟨hrole, hstanding⟩ := State.holder_some ha
  have hentry := hs.1.1 a
  have hpresent := EntrySound.present hentry hrole
  obtain ⟨hboth, -, htaken, -, hsilent, -, -, hjaw⟩ := hentry
  have hset : LinkSound quiet (s.setStation a { s.station a with orders := (s.station a).orders ++ [Order.gate o t] }) := by
    refine hs.setStation_same (hs.check_of_role hrole) ?_ rfl rfl
    refine ⟨hboth, by simp [hrole], htaken, by simp [hpresent], hsilent, by simp [hstanding], by simp [hrole], ?_⟩
    intro hmem
    have : Order.jawRelease ∈ (s.station a).orders := by simpa using hmem
    simpa [hrole] using (hjaw this).1
  exact hset.of_stations rfl rfl rfl rfl

theorem LinkSound.gateArrival {s : State} (hs : LinkSound quiet s) (t : Tag) : LinkSound quiet (s.gateArrival t) := by
  unfold State.gateArrival
  split
  · exact hs
  · split
    · exact (Trimmed.of_removed (.divertUnconfirmed s t)).linkSound hs
    · next a ha =>
      split
      · exact (Trimmed.of_removed (.divertUnconfirmed s t)).linkSound hs
      · exact hs.queueGateOrder ha _ _

/-! ### Arrivals and the press -/

theorem Trimmed.enterReset (s : State) (z : Zone) : Trimmed s (s.enterReset z) := by
  unfold State.enterReset
  split
  · exact .refl s
  · have hall : Trimmed s ((s.setMode z .reset).retireAll .spoiled (s.piecesOf z)) :=
      .trans (.of_stations (by simp) (by simp) (by simp) (by simp)) (.of_removed (.retireAll _ _ _))
    refine hall.trans ?_
    cases z
    case z5 => exact .withdrawGateOrders _ _
    all_goals exact .of_stations rfl rfl rfl rfl

theorem Trimmed.discharge (s : State) : Trimmed s s.discharge := by
  unfold State.discharge
  split
  · exact .refl s
  · next t _ =>
    refine .trans (.of_stations ?_ ?_ ?_ ?_) (.handOver _ _ _) <;> simp

theorem Trimmed.enterPress (s : State) : Trimmed s s.enterPress := by
  unfold State.enterPress
  split
  · exact .refl s
  · dsimp only
    split
    · exact .trans (t := { s with pressEntry := none }) (.of_stations rfl rfl rfl rfl) (.of_removed (.retire _ _ _))
    · refine .of_stations ?_ ?_ ?_ ?_ <;> simp

theorem LinkSound.arrive {s : State} (hs : LinkSound quiet s) (z : ConveyorZone) (t : Tag) : LinkSound quiet (s.arrive z t) := by
  cases z
  case z5 => exact hs.gateArrival t
  all_goals refine Trimmed.linkSound ?_ hs
  case z1 =>
    change Trimmed s (s.arriveCasing t)
    unfold State.arriveCasing
    split
    · exact .of_stations rfl rfl rfl rfl
    · next o _ =>
      have hover := Trimmed.handOver (State.updatePiece { s with casing := none } o Piece.passCasing) .z2 o
      refine .trans ?_ (hover.trans ?_) <;> exact .of_stations rfl rfl rfl rfl
  case z2 =>
    change Trimmed s (s.arriveHold t)
    unfold State.arriveHold
    split <;> exact .of_stations rfl rfl rfl rfl
  case z4 =>
    change Trimmed s (s.arriveJacketing t)
    unfold State.arriveJacketing
    split
    · exact .of_stations rfl rfl rfl rfl
    · next o _ =>
      have hover := Trimmed.handOver (State.updatePiece { s with jacketing := none } o Piece.passJacketing) .z5 o
      refine .trans ?_ (hover.trans ?_) <;> exact .of_stations rfl rfl rfl rfl

/-! ### Roles (R171 to R174) -/

theorem Trimmed.soundBut {s t : State} (h : Trimmed s t) {a : Address} (hs : SoundBut quiet a s) : SoundBut quiet a t where
  others b hb := by
    obtain ⟨os, hos, hst⟩ := h.station b
    rw [hst]
    exact (hs.others b hb).trim hos
  unique b c r hb hc h1 h2 := hs.unique b c r hb hc ((h.holds_iff b r).1 h1) ((h.holds_iff c r).1 h2)
  quiet hq := by
    obtain ⟨hf, hdir, hcheck⟩ := hs.quiet hq
    exact ⟨h.filter hf, h.link ▸ hdir, h.check ▸ hcheck⟩

/-- Another entry is written soundly, and holds no role that a third holds. -/
theorem SoundBut.setOther {s : State} {a b : Address} (hs : SoundBut quiet a s) {st : Station}
    (hst : EntrySound st)
    (hholds : ∀ r, st.role = some r → st.standing = some .assigned → ∀ c, c ≠ a → c ≠ b → ¬Holds s c r) :
    SoundBut quiet a (s.setStation b st) where
  others c hc := by
    rw [State.station_setStation]
    split
    · exact hst
    · exact hs.others c hc
  unique c d r hc hd h1 h2 := by
    by_contra hne
    simp only [Holds, State.station_setStation] at h1 h2
    split at h1 <;> split at h2
    · simp_all
    · exact hholds r h1.1 h1.2 d hd ‹_› h2
    · exact hholds r h2.1 h2.2 c hc ‹_› h1
    · exact hne (hs.unique c d r hc hd h1 h2)
  quiet := hs.quiet

theorem FilterLegal.unsettle {f : Filter} (h : FilterLegal f) : FilterLegal f.unsettle := by
  obtain ⟨h1, h2, h3, h4, h5, -, -, h8, h9⟩ := h
  exact ⟨h1, h2, h3, h4, h5, Nat.zero_le _, .inl rfl, h8, h9⟩

theorem Trimmed.unsettleFilter (s : State) : Trimmed s s.unsettleFilter :=
  ⟨FilterLegal.unsettle, rfl, rfl, fun _ => ⟨_, List.Sublist.refl _, rfl⟩⟩

theorem Trimmed.blocksLose (s : State) (r : Role) : Trimmed s (s.blocksLose r) := by
  cases r
  case gate => exact .of_removed (.divertAllUnconfirmed s s.gateQueue)
  case press => exact .unsettleFilter s
  all_goals exact .refl s

/-- Writing an entry with fewer orders trims it. -/
theorem Trimmed.setOrders (s : State) {a : Address} {os : List Order} (hos : os.Sublist (s.station a).orders) :
    Trimmed s (s.setStation a { s.station a with orders := os }) :=
  ⟨id, rfl, rfl, fun b => by
    by_cases hb : b = a
    · subst hb; exact ⟨os, hos, by simp [State.station_setStation]⟩
    · exact ⟨_, List.Sublist.refl _, by simp [State.station_setStation, hb]⟩⟩

theorem Trimmed.holderLost (s : State) (a : Address) (r : Role) : Trimmed s (s.holderLost a r) :=
  (Trimmed.blocksLose s r).trans (.setOrders _ (List.nil_sublist _))

theorem State.station_holderLost_orders (s : State) (a : Address) (r : Role) :
    ((s.holderLost a r).station a).orders = [] := by
  simp [State.holderLost, State.station_setStation]

theorem SoundBut.raise {s : State} {a : Address} (hs : SoundBut quiet a s) (f : Attention) : SoundBut quiet a (s.raise f) :=
  ⟨hs.others, hs.unique, hs.quiet⟩

theorem LinkSound.raise {s : State} (hs : LinkSound quiet s) (f : Attention) : LinkSound quiet (s.raise f) := hs

/-- R173: a claimant other than `a` is put in CONFLICT. -/
theorem SoundBut.putInConflict {s : State} {a b : Address} {r : Role} (hs : SoundBut quiet a s) (hb : b ≠ a)
    (hr : (s.station b).role = some r) : SoundBut quiet a (s.putInConflict b r) := by
  have htrim := Trimmed.holderLost s b r
  have hl := htrim.soundBut hs
  obtain ⟨os, -, hst⟩ := htrim.station b
  obtain ⟨hboth, hnone, htaken, habsent, hsilent, -, -, -⟩ := hl.others b hb
  have hempty := s.station_holderLost_orders b r
  refine (hl.setOther ?_ ?_).raise _
  · have hrole : ((s.holderLost b r).station b).role = some r := by rw [hst]; exact hr
    refine ⟨by simp [hrole], hnone, htaken, habsent, hsilent, fun _ => hempty, ?_, ?_⟩ <;> simp [hempty]
  · intro r' _ h
    cases h

theorem State.mem_claimants {s : State} {r : Role} {b : Address} :
    b ∈ s.claimants r ↔ (s.station b).present = true ∧ (s.station b).role = some r := by
  simp [State.claimants]

theorem SoundBut.setStanding_assigned {s : State} {a b : Address} {r : Role} (hs : SoundBut quiet a s) (hb : b ≠ a)
    (hr : (s.station b).role = some r) (honly : ∀ c, c ≠ a → c ≠ b → ¬Holds s c r) :
    SoundBut quiet a (s.setStanding b .assigned) := by
  obtain ⟨hboth, hnone, htaken, habsent, hsilent, -, hgate, hjaw⟩ := hs.others b hb
  refine (hs.setOther ?_ ?_).raise _
  · exact ⟨by simp [hr], hnone, htaken, habsent, hsilent, by simp, hgate, hjaw⟩
  · intro r' h' _
    have : r' = r := by simpa [hr] using h'.symm
    exact this ▸ honly

/-- R174: the last PRESENT claimant becomes ASSIGNED. -/
theorem SoundBut.resolveConflict {s : State} {a : Address} (hs : SoundBut quiet a s) (ha : (s.station a).role = none)
    (r : Role) : SoundBut quiet a (s.resolveConflict r) := by
  unfold State.resolveConflict
  split
  · next b hclaim =>
    have hb : (s.station b).role = some r := (State.mem_claimants.1 (hclaim ▸ List.mem_singleton_self b)).2
    refine hs.setStanding_assigned (by rintro rfl; simp [ha] at hb) hb fun c hca hcb hholds => hcb ?_
    have hc : c ∈ s.claimants r := State.mem_claimants.2 ⟨(hs.others c hca).present hholds.1, hholds.1⟩
    simpa [hclaim] using hc
  · exact hs

theorem State.station_resolveConflict_of_roleless {s : State} {a : Address} (ha : (s.station a).role = none)
    (r : Role) : (s.resolveConflict r).station a = s.station a := by
  unfold State.resolveConflict
  split
  · next b hclaim =>
    have hb : (s.station b).role = some r := (State.mem_claimants.1 (hclaim ▸ List.mem_singleton_self b)).2
    have hne : a ≠ b := by rintro rfl; simp [ha] at hb
    change (s.setStation b _).station a = _
    rw [State.station_setStation, if_neg hne]
  · rfl

theorem SoundBut.clearRole {s : State} {a : Address} (hs : SoundBut quiet a s) : SoundBut quiet a (s.clearRole a) where
  others b hb := by
    rw [State.clearRole, State.station_setStation, if_neg hb]
    exact hs.others b hb
  unique b c r hb hc h1 h2 := by
    simp only [State.clearRole, Holds, State.station_setStation, if_neg hb, if_neg hc] at h1 h2
    exact hs.unique b c r hb hc h1 h2
  quiet := hs.quiet

theorem State.station_clearRole (s : State) (a b : Address) :
    (s.clearRole a).station b =
      if b = a then { s.station a with role := none, standing := none } else s.station b :=
  s.station_setStation a b _

/-- R174: a station that has left its role has an entry without role, standing and orders. -/
theorem LinkSound.station_leaveRole {s : State} (hs : LinkSound quiet s) (a : Address) :
    (s.leaveRole a).station a = { s.station a with role := none, standing := none, orders := [] } := by
  obtain ⟨hboth, -, -, -, -, hidle, -, -⟩ := hs.1.1 a
  unfold State.leaveRole
  split
  · next r hr hst =>
    obtain ⟨os, -, e⟩ := (Trimmed.holderLost s a r).station a
    have hempty := s.station_holderLost_orders a r
    rw [State.station_clearRole, if_pos rfl]
    rw [e] at hempty ⊢
    simp only at hempty
    simp [hempty]
  · next r hr hst =>
    have hempty := hidle (by simp [hst])
    rw [State.station_resolveConflict_of_roleless] <;> simp [State.station_clearRole, hempty]
  · next h1 h2 =>
    have hempty := hidle fun h => by
      obtain ⟨r, hr⟩ := Option.isSome_iff_exists.1 (hboth.2 (by simp [h]))
      exact h1 r hr h
    simp [State.station_clearRole, hempty]

theorem LinkSound.leaveRole {s : State} (hs : LinkSound quiet s) (hc : quiet → s.check = .pass) (a : Address) :
    SoundBut quiet a (s.leaveRole a) := by
  have hbut := hs.soundBut hc a
  unfold State.leaveRole
  split
  · exact ((Trimmed.holderLost s a _).soundBut hbut).clearRole
  · exact hbut.clearRole.resolveConflict (by simp [State.station_clearRole]) _
  · exact hbut.clearRole

/-- R171: an ABSENT station leaves the table sound. -/
theorem LinkSound.goAbsent {s : State} (hs : LinkSound quiet s) (hc : quiet → s.check = .pass) (a : Address) :
    LinkSound quiet (s.goAbsent a) := by
  refine LinkSound.raise ((hs.leaveRole hc a).setStation ?_ ?_) _
  · rw [hs.station_leaveRole]
    simp [EntrySound]
  · rw [hs.station_leaveRole]
    simp

/-- R173: a station without a role claims one. -/
theorem SoundBut.claimRole {s : State} {a : Address} (hs : SoundBut quiet a s)
    (horders : (s.station a).orders = []) (hpresent : (s.station a).present = true) (hsilent : (s.station a).silent ≤ 3)
    (r : Role) {abilities : Byte} (habilities : abilities &&& ~~~r.mayAnnounce = 0) :
    LinkSound quiet (s.claimRole a r abilities) := by
  have hclaims : ∀ b, b ≠ a → Holds s b r → b ∈ (s.claimants r).filter (· ≠ a) := fun b hb hh =>
    List.mem_filter.2 ⟨State.mem_claimants.2 ⟨(hs.others b hb).present hh.1, hh.1⟩, by simpa using hb⟩
  suffices hmain : ∀ u : State, SoundBut quiet a u →
      (∃ os, os.Sublist (s.station a).orders ∧ u.station a = { s.station a with orders := os }) →
      (∀ b, b ≠ a → Holds u b r → Holds s b r) →
      LinkSound quiet ((u.setStation a { u.station a with
        role := some r
        standing := some (if ((s.claimants r).filter (· ≠ a)).isEmpty then .assigned else .conflict)
        abilities := abilities }).raise .stationChange) by
    unfold State.claimRole
    dsimp only
    split
    · next b hfind =>
      have hmem := List.mem_of_find?_eq_some hfind
      have hrole := (State.mem_claimants.1 (List.mem_of_mem_filter hmem)).2
      have hne : b ≠ a := by simpa using (List.mem_filter.1 hmem).2
      have htrim := Trimmed.holderLost s b r
      have hst : ∀ c, c ≠ b → (s.putInConflict b r).station c = (s.holderLost b r).station c := fun c hcb => by
        change ((s.holderLost b r).setStation b _).station c = _
        rw [State.station_setStation, if_neg hcb]
      refine hmain _ (hs.putInConflict hne hrole) ?_ fun c hc hholds => ?_
      · rw [hst a hne.symm]
        exact htrim.station a
      · by_cases hcb : c = b
        · subst hcb
          have : ((s.putInConflict c r).station c).standing = some .conflict := by
            change (((s.holderLost c r).setStation c _).station c).standing = _
            rw [State.station_setStation, if_pos rfl]
          simp [Holds, this] at hholds
        · rw [Holds, hst c hcb] at hholds
          exact (htrim.holds_iff c r).1 hholds
    · exact hmain s hs ⟨_, List.Sublist.refl _, rfl⟩ fun _ _ h => h
  intro u hu ⟨os, hos, he⟩ hback
  have hos : os = [] := List.sublist_nil.1 (horders ▸ hos)
  refine (hu.setStation ?_ fun r' hr' hstanding b hb hholds => ?_).raise _
  · simp [EntrySound, he, hos, hpresent, hsilent, habilities]
  · have hrr : r' = r := by simpa using hr'.symm
    subst hrr
    have hmem := hclaims b hb (hback b hb hholds)
    have hne : ¬((s.claimants r').filter (· ≠ a)).isEmpty = true := fun h => by
      rw [List.isEmpty_iff.1 h] at hmem
      cases hmem
    simp only [if_neg hne] at hstanding
    cases hstanding

theorem Trimmed.dropMark (s : State) (a : Address) : Trimmed s (s.dropMark a) :=
  (Trimmed.of_removed (.divertAllUnconfirmed s _)).trans (.withdrawGateOrders _ _)

theorem Trimmed.holderAbilities (s : State) (a : Address) (r : Role) (before after : Byte) :
    Trimmed s (s.holderAbilities a r before after) := by
  unfold State.holderAbilities
  split
  · split
    · exact .dropMark s a
    · exact .refl s
  · split
    · exact .setOrders s List.filter_sublist
    · exact .refl s
  all_goals exact .refl s

theorem LinkSound.reannounce {s : State} (hs : LinkSound quiet s) {a : Address} {r : Role} (hr : (s.station a).role = some r)
    {abilities : Byte} (habilities : abilities &&& ~~~r.mayAnnounce = 0) : LinkSound quiet (s.reannounce a r abilities) := by
  have hc := hs.check_of_role hr
  suffices hmain : ∀ u, Trimmed s u →
      LinkSound quiet ((u.setStation a { u.station a with abilities := abilities }).raise .stationChange) by
    unfold State.reannounce
    dsimp only
    split
    · exact hs
    · split
      · exact hmain _ (.holderAbilities s a r _ _)
      · exact hmain s (.refl s)
  intro u hu
  have hus := hu.linkSound hs
  have hrole : (u.station a).role = some r := by
    obtain ⟨os, -, e⟩ := hu.station a
    rw [e]; exact hr
  obtain ⟨hboth, -, -, habsent, hrest⟩ := hus.1.1 a
  have hcu : quiet → u.check = .pass := fun hq => hu.check.trans (hc hq)
  refine LinkSound.raise (hus.setStation_same hcu (a := a) (st := { u.station a with abilities := abilities }) ?_ rfl rfl) _
  exact ⟨hboth, by simp [hrole], fun r' hr' => by
    have : r' = r := by simpa [hrole] using hr'.symm
    exact this ▸ habilities, habsent, hrest⟩

theorem and_mayAnnounce_legal (abilities : Byte) (r : Role) :
    abilities &&& r.mayAnnounce &&& ~~~r.mayAnnounce = 0 := by
  rw [BitVec.and_assoc, BitVec.and_not_self]; exact BitVec.and_zero

/-- R172: an ANNOUNCE of a PRESENT station keeps the table sound. -/
theorem LinkSound.announce {s : State} (hs : LinkSound quiet s) (hc : quiet → s.check = .pass) {a : Address}
    (hpresent : (s.station a).present = true) (role abilities : Byte) : LinkSound quiet (s.announce a role abilities) := by
  unfold State.announce
  split
  · exact hs
  · next r _ =>
    have hlegal := and_mayAnnounce_legal abilities r
    have hclaimed : LinkSound quiet (if (s.station a).role = some r then s.reannounce a r (abilities &&& r.mayAnnounce)
        else (s.leaveRole a).claimRole a r (abilities &&& r.mayAnnounce)) := by
      split
      · next hr => exact hs.reannounce hr hlegal
      · have he := hs.station_leaveRole a
        obtain ⟨-, -, -, -, hsilent, -⟩ := hs.1.1 a
        exact (hs.leaveRole hc a).claimRole (by simp [he]) (by simp [he, hpresent])
          (by simpa [he] using hsilent) r hlegal
    dsimp only
    split
    · exact (Trimmed.unsettleFilter _).linkSound hclaimed
    · exact hclaimed

/-! ### The filter (R95 to R99) -/

theorem clampSample_mem (sample : Int) : clampSample sample ∈ Set.Icc (-500) 3000 := by
  simp only [clampSample, Set.mem_Icc]
  omega

/-- R93 to R99: a TEMP report keeps the filter in its ranges. -/
theorem FilterLegal.receive {f : Filter} (h : FilterLegal f) {x : Int} (hx : x ∈ Set.Icc (-500) 3000) :
    FilterLegal (f.receive x) := by
  obtain ⟨h1, h2, h3, h4, h5, h6, h7, h8, h9⟩ := h
  unfold Filter.receive
  split
  · exact ⟨h1, h2, h3, h4, h5, h6, h7, h8, h9⟩
  · split
    · next hlt => exact ⟨h1, h2, h3, h4, h5, h6, .inr hlt, h8, h9⟩
    · obtain ⟨hlow, hhigh⟩ := Filter.take_tf_mem_Icc (f := f) h2 hx fun _ => ⟨h8, h9⟩
      exact ⟨h1, h2, h3, h4, h5, Nat.min_le_right _ _, .inl rfl, hlow, hhigh⟩

theorem LinkSound.takeTemp {s : State} (hs : LinkSound quiet s) (sample : Word16) : LinkSound quiet (s.takeTemp sample) :=
  ⟨hs.1, fun hq => ⟨FilterLegal.receive (hs.2 hq).1 (clampSample_mem _), (hs.2 hq).2⟩⟩

/-! ### Replies and silences -/

/-- While an exchange is in progress the check has passed. -/
theorem LinkSound.check_of_exchange {s : State} (hs : LinkSound quiet s) {ex : Exchange} (hex : s.link.exchange = some ex)
    (hq : quiet) : s.check = .pass := by
  obtain ⟨-, -, hquiet⟩ := hs.2 hq
  by_contra hc
  rw [(hquiet hc).1] at hex
  cases hex

/-- Once the check has passed, only the direction output of the link matters. -/
theorem LinkSound.setLink {s : State} (hs : LinkSound quiet s) (hc : quiet → s.check = .pass) {l : Link}
    (hl : quiet → l.direction = false) : LinkSound quiet { s with link := l } :=
  ⟨hs.1, fun hq => ⟨(hs.2 hq).1, hl hq, fun h => absurd (hc hq) h⟩⟩

/-- R159 to R161: after a frame the line is released and the receiver OUTSIDE with an empty buffer. -/
theorem State.sendFrame_eq (s : State) (a : Address) (kind : Byte) (payload : List Byte) :
    s.sendFrame a kind payload = { s with
      link := { s.link with
        rx := .outside
        buffer := []
        sent := onLine (frameContent (addressByte a) 0 kind payload)
        direction := false } } := by
  rw [State.sendFrame, State.drive_asserted rfl]
  rfl

theorem LinkSound.sendFrame {s : State} (hs : LinkSound quiet s) (hc : quiet → s.check = .pass) (a : Address) (kind : Byte)
    (payload : List Byte) : LinkSound quiet (s.sendFrame a kind payload) := by
  rw [State.sendFrame_eq]
  exact hs.setLink hc fun _ => rfl

theorem LinkSound.markPresent {s : State} (hs : LinkSound quiet s) (hc : quiet → s.check = .pass) (a : Address) :
    LinkSound quiet (s.markPresent a) ∧ (quiet → (s.markPresent a).check = .pass) ∧ ((s.markPresent a).station a).present = true := by
  obtain ⟨hboth, hnone, htaken, -, -, hrest⟩ := hs.1.1 a
  have hset : LinkSound quiet (s.setStation a { s.station a with present := true, silent := 0 }) :=
    hs.setStation_same hc ⟨hboth, hnone, htaken, by simp, Nat.zero_le _, hrest⟩ rfl rfl
  have hst : (s.markPresent a).stations = (s.setStation a { s.station a with present := true, silent := 0 }).stations := by
    simp [State.markPresent]
  refine ⟨hset.of_stations ?_ ?_ ?_ hst, ?_, ?_⟩
  · simp [State.markPresent]
  · simp [State.markPresent]
  · simp [State.markPresent]
  · exact fun hq => by simpa [State.markPresent] using hc hq
  · rw [State.station_congr hst, State.station_setStation, if_pos rfl]

theorem Trimmed.confirmFlight (s : State) : Trimmed s s.confirmFlight := by
  unfold State.confirmFlight
  split
  · exact .refl s
  · next f _ =>
    have hclear : Trimmed s { s with gateInFlight := none } := .of_stations rfl rfl rfl rfl
    dsimp only
    split
    · exact hclear.trans (.of_removed (.retire _ _ _))
    · exact hclear

theorem Trimmed.failFlight (s : State) : Trimmed s s.failFlight := by
  unfold State.failFlight
  split
  · exact .refl s
  · next f _ =>
    have hclear : Trimmed s { s with gateInFlight := none } := .of_stations rfl rfl rfl rfl
    dsimp only
    split
    · exact hclear.trans (.of_removed (.divertUnconfirmed _ _))
    · exact hclear

theorem LinkSound.countSilence {s : State} (hs : LinkSound quiet s) (hc : quiet → s.check = .pass) (a : Address) :
    LinkSound quiet (s.countSilence a) ∧ (quiet → (s.countSilence a).check = .pass) := by
  obtain ⟨hboth, hnone, htaken, habsent, -, hrest⟩ := hs.1.1 a
  unfold State.countSilence
  dsimp only
  split
  · split
    · exact ⟨hs.setStation_same hc ⟨hboth, hnone, htaken, habsent, by dsimp only; omega, hrest⟩ rfl rfl, hc⟩
    · exact ⟨hs.goAbsent hc a, fun hq => ((hs.leaveRole hc a).quiet hq).2.2⟩
  · exact ⟨hs.setStation_same hc ⟨hboth, hnone, htaken, habsent, by dsimp only; omega, hrest⟩ rfl rfl, hc⟩

theorem LinkSound.silence {s : State} (hs : LinkSound quiet s) {ex : Exchange} (hex : s.link.exchange = some ex) :
    LinkSound quiet (s.silence ex) := by
  have hc := hs.check_of_exchange hex
  have hend : ∀ u, LinkSound quiet u → (quiet → u.check = .pass) → LinkSound quiet (u.countSilence ex.address).endExchange := by
    intro u hu hcu
    obtain ⟨hcount, hcheck⟩ := hu.countSilence hcu ex.address
    exact hcount.setLink hcheck fun hq => (hcount.2 hq).2.1
  unfold State.silence
  split
  · have htrim := Trimmed.failFlight s
    exact hend _ (htrim.linkSound hs) (fun hq => htrim.check.trans (hc hq))
  · exact hend s hs hc

theorem Trimmed.caseScan (s : State) (code : Word24) (refeed : Bool) : Trimmed s (s.caseScan code refeed).2 := by
  have hleave : ∀ (u : State) (t : Tag), u.filter = s.filter → u.link = s.link → u.check = s.check →
      u.stations = s.stations → Trimmed s (u.leaveCasing t) := fun u t hf hl hc hst => by
    have hover := Trimmed.handOver { u with casing := none } .z2 t
    refine .trans (.of_stations ?_ ?_ ?_ ?_) hover <;> assumption
  unfold State.caseScan
  split
  · exact .refl s
  · split
    · exact .refl s
    · split
      · exact .refl s
      · split
        · exact hleave _ _ rfl rfl rfl rfl
        · unfold State.judgeCase
          split
          · exact hleave _ _ rfl rfl rfl rfl
          · split
            · exact hleave _ _ rfl rfl rfl rfl
            · split
              · exact .of_stations rfl rfl rfl rfl
              · exact hleave _ _ rfl rfl rfl rfl

theorem Trimmed.jacketScan (s : State) (code : Word24) (copy : Word16) (refeed copyRead : Bool) :
    Trimmed s (s.jacketScan code copy refeed copyRead).2 := by
  have hleave : ∀ (u : State) (t : Tag), u.filter = s.filter → u.link = s.link → u.check = s.check →
      u.stations = s.stations → Trimmed s (u.leaveJacketing t) := fun u t hf hl hc hst => by
    have hover := Trimmed.handOver { u with jacketing := none } .z5 t
    refine .trans (.of_stations ?_ ?_ ?_ ?_) hover <;> assumption
  unfold State.jacketScan
  split
  · exact .refl s
  · split
    · exact .refl s
    · split
      · exact .refl s
      · split
        · exact hleave _ _ rfl rfl rfl rfl
        · split
          · exact hleave _ _ rfl rfl rfl rfl
          · unfold State.judgeJacket
            split
            · exact hleave _ _ rfl rfl rfl rfl
            · split
              · exact hleave _ _ rfl rfl rfl rfl
              · split
                · exact .of_stations rfl rfl rfl rfl
                · exact hleave _ _ rfl rfl rfl rfl

theorem State.setCopyEntry_frame (s : State) (n : Numbering) (copy : Nat) (c : CopyState) :
    s.setCopyEntry n copy c = { s with copyTables := (s.setCopyEntry n copy c).copyTables } := by
  unfold State.setCopyEntry
  split <;> rfl

theorem State.enterJob_frame (s : State) (found : Option (JobSlot × Job)) (p : Piece) :
    s.enterJob found p =
      { s with jobs := (s.enterJob found p).jobs, copyTables := (s.enterJob found p).copyTables } := by
  unfold State.enterJob
  split
  · rfl
  · dsimp only
    split
    · split
      · rw [State.setCopyEntry_frame]; rfl
      · rfl
    · rfl

/-- R66: an admission touches the record, the counter, the job with its copy table, and the queue of Z1. -/
theorem State.admitted_frame (s : State) (t : Tag) (p : Piece) (found : Option (JobSlot × Job)) :
    s.admitted t p found = { s with
      pool := (s.admitted t p found).pool
      admissionCounter := s.admissionCounter + 1
      jobs := (s.admitted t p found).jobs
      copyTables := (s.admitted t p found).copyTables
      z1 := { s.z1 with queue := s.z1.queue ++ [t] } } := by
  unfold State.admitted
  rw [State.enterJob_frame]
  rfl

theorem Trimmed.blockScan (s : State) (measured : Bool) (key : Word32) (copy thickness : Word16) :
    Trimmed s (s.blockScan measured key copy thickness).2 := by
  unfold State.blockScan
  split
  · exact .refl s
  · split
    · exact .refl s
    · split
      · exact .of_stations rfl rfl rfl rfl
      · split
        · exact .refl s
        · dsimp only
          rw [State.admitted_frame]
          exact .of_stations rfl rfl rfl rfl

/-- R172 to R174: what the loss, the claim and the change of a role can touch. -/
def RoleFrame (s t : State) : Prop :=
  t = { s with
    pool := t.pool
    jobs := t.jobs
    copyTables := t.copyTables
    filter := t.filter
    press := { s.press with positions := t.press.positions }
    z1 := { s.z1 with queue := t.z1.queue }
    z2 := { s.z2 with queue := t.z2.queue }
    z4 := { s.z4 with queue := t.z4.queue }
    z5 := { s.z5 with queue := t.z5.queue }
    casing := t.casing
    pressEntry := t.pressEntry
    jacketing := t.jacketing
    lost := t.lost
    gateQueue := t.gateQueue
    stations := t.stations
    flags := t.flags
    lamps := t.lamps }

namespace RoleFrame

variable {s t u : State}

theorem trans (h : RoleFrame s t) (g : RoleFrame t u) : RoleFrame s u := by
  unfold RoleFrame at *
  rw [g, h]

theorem refl (s : State) : RoleFrame s s := rfl

theorem of_removed {ts : List Tag} (h : Removed ts s t) : RoleFrame s t := by
  have := h.frame
  unfold RoleFrame
  rw [this]

theorem setStation (s : State) (a : Address) (st : Station) : RoleFrame s (s.setStation a st) := rfl

theorem raise (s : State) (a : Attention) : RoleFrame s (s.raise a) := rfl

theorem unsettleFilter (s : State) : RoleFrame s s.unsettleFilter := rfl

theorem withdrawGateOrders (s : State) (which : Disposition → Tag → Bool) : RoleFrame s (s.withdrawGateOrders which) :=
  rfl

theorem blocksLose (s : State) (r : Role) : RoleFrame s (s.blocksLose r) := by
  cases r
  case gate => exact .of_removed (.divertAllUnconfirmed s s.gateQueue)
  all_goals rfl

theorem holderLost (s : State) (a : Address) (r : Role) : RoleFrame s (s.holderLost a r) :=
  (blocksLose s r).trans (.setStation _ _ _)

theorem setStanding (s : State) (a : Address) (st : Standing) : RoleFrame s (s.setStanding a st) := rfl

theorem resolveConflict (s : State) (r : Role) : RoleFrame s (s.resolveConflict r) := by
  unfold State.resolveConflict
  split <;> rfl

theorem leaveRole (s : State) (a : Address) : RoleFrame s (s.leaveRole a) := by
  unfold State.leaveRole
  split
  · exact (holderLost s a _).trans (.setStation _ _ _)
  · exact RoleFrame.trans (.setStation s a _) (resolveConflict _ _)
  · exact .setStation s a _

theorem claimRole (s : State) (a : Address) (r : Role) (abilities : Byte) :
    RoleFrame s (s.claimRole a r abilities) := by
  unfold State.claimRole
  dsimp only
  split
  · exact ((holderLost s _ r).trans (setStanding _ _ _)).trans ((setStation _ _ _).trans (raise _ _))
  · exact (setStation _ _ _).trans (raise _ _)

theorem holderAbilities (s : State) (a : Address) (r : Role) (before after : Byte) :
    RoleFrame s (s.holderAbilities a r before after) := by
  unfold State.holderAbilities
  split
  · split
    · exact (of_removed (.divertAllUnconfirmed s _)).trans (.withdrawGateOrders _ _)
    · exact .refl s
  · split
    · exact .setStation s _ _
    · exact .refl s
  all_goals exact .refl s

theorem reannounce (s : State) (a : Address) (r : Role) (abilities : Byte) :
    RoleFrame s (s.reannounce a r abilities) := by
  unfold State.reannounce
  dsimp only
  split
  · exact .refl s
  · split
    · exact (holderAbilities s a r _ _).trans ((setStation _ _ _).trans (raise _ _))
    · exact (setStation _ _ _).trans (raise _ _)

theorem announce (s : State) (a : Address) (role abilities : Byte) : RoleFrame s (s.announce a role abilities) := by
  unfold State.announce
  split
  · exact .refl s
  · next r _ =>
    have hclaimed : RoleFrame s (if (s.station a).role = some r then s.reannounce a r (abilities &&& r.mayAnnounce)
        else (s.leaveRole a).claimRole a r (abilities &&& r.mayAnnounce)) := by
      split
      · exact reannounce _ _ _ _
      · exact (leaveRole s a).trans (claimRole _ _ _ _)
    dsimp only
    split
    · exact hclaimed.trans (unsettleFilter _)
    · exact hclaimed

theorem goAbsent (s : State) (a : Address) : RoleFrame s (s.goAbsent a) :=
  (leaveRole s a).trans ((setStation _ _ _).trans (raise _ _))

theorem check (h : RoleFrame s t) : t.check = s.check := by rw [h]

theorem link (h : RoleFrame s t) : t.link = s.link := by rw [h]

end RoleFrame

theorem linkSound_keptByReports :
    KeptByReports (fun s => LinkSound quiet s ∧ (quiet → s.check = .pass)) fun s => LinkSound quiet s ∧ (quiet → s.check = .pass) where
  weaken h := h
  announce role abilities ha h := ⟨h.1.announce h.2 ha role abilities, fun hq => (RoleFrame.announce _ _ _ _).check.trans (h.2 hq)⟩
  blockScan m k c t h := ⟨(Trimmed.blockScan _ m k c t).linkSound h.1, fun hq => (Trimmed.blockScan _ m k c t).check.trans (h.2 hq)⟩
  caseScan c r h := ⟨(Trimmed.caseScan _ c r).linkSound h.1, fun hq => (Trimmed.caseScan _ c r).check.trans (h.2 hq)⟩
  jacketScan c n r cr h := ⟨(Trimmed.jacketScan _ c n r cr).linkSound h.1, fun hq => (Trimmed.jacketScan _ c n r cr).check.trans (h.2 hq)⟩
  takeTemp sample h := ⟨h.1.takeTemp sample, h.2⟩
  sendFrame a kind payload h := ⟨h.1.sendFrame h.2 a kind payload, h.2⟩

theorem LinkSound.validReply {s : State} (hs : LinkSound quiet s) {ex : Exchange} (hex : s.link.exchange = some ex)
    (payload : List Byte) : LinkSound quiet (s.validReply ex payload) := by
  have hend : ∀ u, LinkSound quiet u → (quiet → u.check = .pass) → (u.station ex.address).present = true →
      LinkSound quiet (u.takePayload ex.address payload).endExchange := by
    intro u hu hc hpresent
    obtain ⟨htaken, hcheck⟩ := linkSound_keptByReports.takePayload ⟨hu, hc⟩ hpresent payload
    exact htaken.setLink hcheck fun hq => (htaken.2 hq).2.1
  obtain ⟨hmark, hcheck, hpresent⟩ := hs.markPresent (hs.check_of_exchange hex) ex.address
  unfold State.validReply
  dsimp only
  split
  · have htrim := Trimmed.confirmFlight (s.markPresent ex.address)
    obtain ⟨os, -, hst⟩ := htrim.station ex.address
    exact hend _ (htrim.linkSound hmark) (fun hq => htrim.check.trans (hcheck hq)) (by rw [hst]; exact hpresent)
  · exact hend _ hmark hcheck hpresent

/-! ### Every step -/

theorem linkSound_keptByLink : KeptByLink (LinkSound quiet) (LinkSound quiet) where
  weaken h := h
  inert hi h := by rw [hi]; exact h
  receiver {s} rx buffer hl _ h := by
    have hc : quiet → s.check = .pass := fun hq => by
      rcases hl with hc | hrx
      · exact hc
      · by_contra hc
        exact hrx (by rw [((h.2 hq).2.2 hc).1]; rfl)
    exact h.setLink hc fun hq => (h.2 hq).2.1
  candidate hex h := h.setLink (h.check_of_exchange hex) fun hq => (h.2 hq).2.1
  silence hex h := h.silence hex
  validReply payload hex h := h.validReply hex payload

theorem linkSound_reset : LinkSound quiet State.reset := by
  have hst : ∀ a, State.reset.station a = Station.powerOn := by
    intro a
    simp [State.station, State.reset]
  refine ⟨⟨fun a => ?_, fun a b r ha => ?_⟩, fun _ => ⟨by simp [FilterLegal, State.reset, Filter.powerOn], rfl,
    fun _ => ⟨rfl, hst⟩⟩⟩
  · rw [hst a]; exact entrySound_powerOn
  · rw [Holds, hst a] at ha; cases ha.1

theorem State.poweredOn_eq (s : State) (time : Word32) (asserted : Bool) :
    ∃ press, press.positions = State.reset.press.positions ∧
      s.poweredOn time asserted = { State.reset with timeBase := time, pending := s.pending, press := press } := by
  cases asserted
  · exact ⟨State.reset.press, rfl, rfl⟩
  · exact ⟨{ State.reset.press with jaw := .closing, assertionTime := time, hitTimer := some (later time 20) }, rfl, rfl⟩

theorem linkSound_keptByOps : KeptByOps (LinkSound quiet) where
  inert hi h := by rw [hi]; exact h
  checkEnds hc _ h := ⟨h.1, fun hq => ⟨(h.2 hq).1, (h.2 hq).2.1, fun _ => (h.2 hq).2.2 (by simp [hc])⟩⟩
  powerOn {s} time asserted _ := by
    obtain ⟨press, -, e⟩ := s.poweredOn_eq time asserted
    rw [e]
    exact linkSound_reset.of_stations rfl rfl rfl rfl
  bindJob r _ _ _ _ _ h := by rcases r with _ | ⟨_, _, _⟩ <;> exact h
  restateJob _ _ h := h
  emptyJob _ _ h := by rw [State.emptyJob_frame]; exact h
  filter hf h := ⟨h.1, fun hq => ⟨hf (h.2 hq).1, (h.2 hq).2⟩⟩
  timers _ h := h
  heated _ h := h.of_stations (by simp) (by simp) (by simp) (by simp)
  offerJawRelease h := h.offerJawRelease
  discharge h := (Trimmed.discharge _).linkSound h
  shiftPress _ h := h.of_stations (by simp) (by simp) (by simp) (by simp)
  enterPress _ h := (Trimmed.enterPress _).linkSound h
  travel {s z c} _ _ h := by cases z <;> exact h
  setMode {s z m} _ h := by cases z <;> exact h
  enterReset z h := (Trimmed.enterReset _ z).linkSound h
  spoil t h := (Trimmed.of_removed (.retire _ _ t)).linkSound h
  loseHead {s z t rest} _ h := by cases z <;> exact h
  arrive {s z t rest} _ _ h := LinkSound.arrive (by cases z <;> exact h) z t
  returnTo {s z t} _ _ _ _ h := by cases z <;> exact h
  latch a hc h := h.setStation_same (fun _ => hc) (h.1.1 a) rfl rfl
  sendPoll {s} hc hex h := by
    have htrim := Trimmed.setOrders s (List.tail_sublist (s.station s.link.next).orders)
    unfold State.sendPoll
    rw [if_pos ⟨hc, hex⟩]
    dsimp only
    rw [State.sendFrame_eq]
    exact (htrim.linkSound h).setLink (fun _ => hc) fun _ => rfl

/-- Settles O58: every shared operation keeps the table, the filter and the link. -/
theorem stepKeepsStationsAndFilter : Obligations.StepKeepsStationsAndFilter := by
  intro s t hst hf hq ht
  have hs : LinkSound True s := ⟨hst, fun _ => ⟨hf, hq⟩⟩
  obtain ⟨hst', hrest⟩ := step_keeps (fun _ h => h) linkSound_keptByOps linkSound_keptByLink hs ht
  exact ⟨hst', hrest trivial⟩

end Sys2Proof.Machine
end

section
/-! SUPPORT. Places (R7, R13, R39, R43): who stands in each place, how a piece leaves one place and enters another, and
what that does to the count of its places. -/

namespace Sys2Proof.Machine

open Sys2Proof.Safety

/-! ### The occupants of a place -/

/-- R7: the pieces in a place. -/
def State.occupants (s : State) : Place → List Tag
  | .conveyor z => (s.conveyor z).queue
  | .casingSlot => s.casing.toList
  | .pressEntry => s.pressEntry.toList
  | .press i => (s.press.positions[i]).toList
  | .jacketingSlot => s.jacketing.toList
  | .gateQueue => s.gateQueue
  | .lost => s.lost

/-- R7: the places. -/
def allPlaces : List Place :=
  [.conveyor .z1, .conveyor .z2, .conveyor .z4, .conveyor .z5, .casingSlot, .pressEntry, .jacketingSlot]
    ++ (List.finRange 12).map .press ++ [.gateQueue, .lost]

theorem mem_allPlaces (pl : Place) : pl ∈ allPlaces := by
  cases pl with
  | conveyor z => cases z <;> simp [allPlaces]
  | press i => simp [allPlaces]
  | _ => simp [allPlaces]

theorem nodup_allPlaces : allPlaces.Nodup := by decide

theorem standsIn_iff (s : State) (t : Tag) (pl : Place) : StandsIn s t pl ↔ t ∈ s.occupants pl := by
  cases pl <;> simp [StandsIn, State.occupants]

theorem count_filterMap_id_vector {n : Nat} (v : Vector (Option Tag) n) (t : Tag) :
    (v.toList.filterMap id).count t = ((List.finRange n).map fun i => (v[i]).toList.count t).sum := by
  have hv : v.toList = (List.finRange n).map fun i => v[i] := by
    apply List.ext_getElem <;> simp
  have hf : ∀ l : List (Option Tag), (l.filterMap id).count t = (l.map fun o => o.toList.count t).sum := by
    intro l
    induction l with
    | nil => rfl
    | cons o l ih =>
      rw [List.map_cons, List.sum_cons, ← ih]
      cases o <;> simp [List.count_cons, Nat.add_comm]
  rw [hf, hv, List.map_map]
  rfl

/-- R13: the count of a piece's places is the sum over the places. -/
theorem timesPlaced_eq_sum (s : State) (t : Tag) :
    timesPlaced s t = (allPlaces.map fun pl => (s.occupants pl).count t).sum := by
  simp only [timesPlaced, count_filterMap_id_vector, allPlaces, List.map_append, List.sum_append, List.map_map]
  have hpress : ((fun pl => (s.occupants pl).count t) ∘ Place.press) =
      fun i => (s.press.positions[i]).toList.count t := rfl
  simp only [List.map_cons, List.map_nil, List.sum_cons, List.sum_nil, hpress]
  simp only [State.occupants, State.conveyor]
  omega

theorem sum_map_of_eq_off {α : Type} {l : List α} (hl : l.Nodup) {a : α} (ha : a ∈ l) {f g : α → Nat}
    (hfg : ∀ b, b ≠ a → g b = f b) : (l.map g).sum + f a = (l.map f).sum + g a := by
  induction l with
  | nil => simp at ha
  | cons b l ih =>
    obtain ⟨hb, hl⟩ := List.nodup_cons.1 hl
    by_cases hab : b = a
    · subst hab
      have : l.map g = l.map f := List.map_congr_left fun c hc => hfg c (by rintro rfl; exact hb hc)
      simp [this]
      omega
    · have ha : a ∈ l := by simpa [Ne.symm hab] using ha
      have := ih hl ha
      simp [hfg b hab]
      omega

/-- A piece that stands in a place is counted. -/
theorem one_le_timesPlaced {s : State} {t : Tag} {pl : Place} (h : t ∈ s.occupants pl) : 1 ≤ timesPlaced s t := by
  rw [timesPlaced_eq_sum]
  have hc := List.count_pos_iff.2 h
  exact hc.trans_le (List.le_sum_of_mem (List.mem_map.2 ⟨pl, mem_allPlaces pl, rfl⟩))

/-- A piece counted once stands in no second place. -/
theorem eq_of_mem_occupants {s : State} {t : Tag} (h1 : timesPlaced s t ≤ 1) {pl q : Place}
    (hp : t ∈ s.occupants pl) (hq : t ∈ s.occupants q) : q = pl := by
  by_contra hne
  have hsum := sum_map_of_eq_off nodup_allPlaces (mem_allPlaces pl)
    (f := fun x => (s.occupants x).count t) (g := fun x => if x = pl then 0 else (s.occupants x).count t)
    (fun b hb => by simp [hb])
  have hle : (if q = pl then 0 else (s.occupants q).count t) ≤
      (allPlaces.map fun x => if x = pl then 0 else (s.occupants x).count t).sum :=
    List.le_sum_of_mem (List.mem_map_of_mem (mem_allPlaces q))
  have hcp := List.count_pos_iff.2 hp
  have hcq := List.count_pos_iff.2 hq
  rw [timesPlaced_eq_sum] at h1
  simp only [if_true, if_neg hne] at hsum hle
  omega

/-! ### A record and its place -/

/-- R7, R13, R110: what a record says of its place, and its limits. -/
def Piece.spot (p : Piece) : Place × Bool × Option DwellLimits := (p.place, p.entryCount.isSome, p.limits)

/-- R7, R13, R110: a tag's record and its places agree. -/
def PlaceAgrees (s : State) (t : Tag) : Prop :=
  match s.piece t with
  | none => timesPlaced s t = 0
  | some p =>
    timesPlaced s t = 1 ∧ StandsIn s t p.place ∧ (p.entryCount.isSome ↔ ∃ z, p.place = .conveyor z) ∧
      ((∃ i, p.place = .press i) → p.limits.isSome)

theorem placesAgree_iff (s : State) : PlacesAgree s ↔ ∀ t, PlaceAgrees s t := Iff.rfl

theorem placeAgrees_of_none {s : State} {t : Tag} (hp : s.piece t = none) (h : timesPlaced s t = 0) :
    PlaceAgrees s t := by
  simpa [PlaceAgrees, hp] using h

theorem placeAgrees_of_some {s : State} {t : Tag} {p : Piece} (hp : s.piece t = some p) (h : timesPlaced s t = 1)
    (hin : t ∈ s.occupants p.place) (hcount : p.entryCount.isSome ↔ ∃ z, p.place = .conveyor z)
    (hlimits : (∃ i, p.place = .press i) → p.limits.isSome) : PlaceAgrees s t := by
  simp only [PlaceAgrees, hp]
  exact ⟨h, (standsIn_iff s t p.place).2 hin, hcount, hlimits⟩

theorem PlaceAgrees.elim {s : State} {t : Tag} {p : Piece} (h : PlaceAgrees s t) (hp : s.piece t = some p) :
    timesPlaced s t = 1 ∧ t ∈ s.occupants p.place ∧ (p.entryCount.isSome ↔ ∃ z, p.place = .conveyor z) ∧
      ((∃ i, p.place = .press i) → p.limits.isSome) := by
  simpa only [PlaceAgrees, hp, standsIn_iff] using h

theorem PlaceAgrees.timesPlaced_le {s : State} {t : Tag} (h : PlaceAgrees s t) : timesPlaced s t ≤ 1 := by
  cases hp : s.piece t with
  | none => simp only [PlaceAgrees, hp] at h; omega
  | some p => exact (h.elim hp).1.le

/-- R13: a piece that stands somewhere is in use. -/
theorem PlaceAgrees.isSome_of_mem {s : State} {t : Tag} (h : PlaceAgrees s t) {pl : Place}
    (hin : t ∈ s.occupants pl) : ∃ p, s.piece t = some p ∧ p.place = pl := by
  have hone := one_le_timesPlaced hin
  cases hp : s.piece t with
  | none => simp only [PlaceAgrees, hp] at h; omega
  | some p =>
    obtain ⟨htimes, hmem, -⟩ := h.elim hp
    exact ⟨p, rfl, eq_of_mem_occupants htimes.le hin hmem⟩

/-- What a tag's agreement rests on. -/
theorem PlaceAgrees.congr {s u : State} {t : Tag} (hspot : (u.piece t).map Piece.spot = (s.piece t).map Piece.spot)
    (hocc : ∀ pl, (u.occupants pl).count t = (s.occupants pl).count t) (h : PlaceAgrees s t) : PlaceAgrees u t := by
  have htimes : timesPlaced u t = timesPlaced s t := by
    simp only [timesPlaced_eq_sum, hocc]
  cases hs : s.piece t with
  | none =>
    rw [hs] at hspot
    have hu : u.piece t = none := by simpa using hspot
    simp only [PlaceAgrees, hs] at h
    exact placeAgrees_of_none hu (htimes.trans h)
  | some p =>
    rw [hs] at hspot
    obtain ⟨q, hq, hqp⟩ := Option.map_eq_some_iff.1 hspot
    simp only [Piece.spot, Prod.mk.injEq] at hqp
    obtain ⟨hplace, hentry, hlim⟩ := hqp
    obtain ⟨h1, h2, h3, h4⟩ := h.elim hs
    refine placeAgrees_of_some hq (htimes.trans h1) ?_ (by rw [hentry, hplace]; exact h3) (by rw [hlim, hplace]; exact h4)
    rw [hplace, ← List.count_pos_iff, hocc, List.count_pos_iff]
    exact h2

/-! ### Pieces in hand -/

/-- In the midst of a move: the pieces in hand are in use and stand nowhere, and every other tag agrees with its
places. -/
structure InHand (ts : List Tag) (s : State) : Prop where
  nodup : ts.Nodup
  inUse : ∀ t ∈ ts, (s.piece t).isSome
  nowhere : ∀ t ∈ ts, timesPlaced s t = 0
  others : ∀ t, t ∉ ts → PlaceAgrees s t

theorem inHand_nil_iff (s : State) : InHand [] s ↔ PlacesAgree s :=
  ⟨fun h t => h.others t (by simp), fun h => ⟨List.nodup_nil, by simp, by simp, fun t _ => h t⟩⟩

/-- A piece in hand stands in no place. -/
theorem InHand.not_mem {ts : List Tag} {s : State} (h : InHand ts s) {t : Tag} {pl : Place}
    (hin : t ∈ s.occupants pl) : t ∉ ts := fun ht => by
  have h0 := h.nowhere t ht
  have h1 := one_le_timesPlaced hin
  omega

/-- R43: the zone that owns a place; the lost set belongs to none. -/
def Place.owner : Place → Option Zone
  | .conveyor z => some z.zone
  | .casingSlot => some .z1
  | .pressEntry => some .z2
  | .press _ => some .z3
  | .jacketingSlot => some .z4
  | .gateQueue => some .z5
  | .lost => none

/-- R39, R147: the place has room for one more piece. -/
def Roomy (s : State) : Place → Prop
  | .conveyor z => (s.conveyor z).queue.length < z.capacity
  | .gateQueue => s.gateQueue.length < gateCapacity
  | _ => True

/-- R39, R43, R44: a piece may enter the place: its zone is not in RESET, and there is room. -/
def OpenPlace (s : State) (pl : Place) : Prop := (∀ z, pl.owner = some z → s.mode z ≠ .reset) ∧ Roomy s pl

/-- `u` is `s` with the piece taken out of the place. -/
structure TakenFrom (pl : Place) (t : Tag) (s u : State) : Prop where
  pool : ∀ v, (u.piece v).map Piece.spot = (s.piece v).map Piece.spot
  here : ∀ v, (s.occupants pl).count v = (u.occupants pl).count v + if v = t then 1 else 0
  elsewhere : ∀ q, q ≠ pl → u.occupants q = s.occupants q
  mode : u.mode = s.mode
  buffer : u.link.buffer = s.link.buffer
  stations : u.stations = s.stations

/-- `u` is `s` with the piece put into the place, its record with it. -/
structure PutInto (pl : Place) (t : Tag) (s u : State) : Prop where
  pool : ∀ v, v ≠ t → (u.piece v).map Piece.spot = (s.piece v).map Piece.spot
  record : ∀ p₀, s.piece t = some p₀ → ∃ p, u.piece t = some p ∧ p.place = pl ∧
    (p.entryCount.isSome ↔ ∃ z, pl = .conveyor z) ∧ ((∃ i, pl = .press i) → p.limits.isSome) ∧
    (p.limits = p₀.limits ∨ ∃ f r n, p.limits = some (dwellLimits f r n))
  here : ∀ v, (u.occupants pl).count v = (s.occupants pl).count v + if v = t then 1 else 0
  elsewhere : ∀ q, q ≠ pl → u.occupants q = s.occupants q
  mode : u.mode = s.mode
  buffer : u.link.buffer = s.link.buffer
  orders : ∀ a o v, Order.gate o v ∈ (u.station a).orders → Order.gate o v ∈ (s.station a).orders ∨ pl = .gateQueue

theorem InHand.take {ts : List Tag} {s u : State} {pl : Place} {t : Tag} (h : InHand ts s) (g : TakenFrom pl t s u) :
    InHand (t :: ts) u := by
  have hsum : ∀ v, timesPlaced s v = timesPlaced u v + if v = t then 1 else 0 := fun v => by
    have := sum_map_of_eq_off nodup_allPlaces (mem_allPlaces pl) (f := fun q => (s.occupants q).count v)
      (g := fun q => (u.occupants q).count v) (fun q hq => by rw [g.elsewhere q hq])
    have := g.here v
    simp only [timesPlaced_eq_sum]
    omega
  have hin : t ∈ s.occupants pl := by
    have := g.here t
    rw [if_pos rfl] at this
    exact List.count_pos_iff.1 (by omega)
  have hts := h.not_mem hin
  have hagree := h.others t hts
  have hone := hsum t
  rw [if_pos rfl] at hone
  have hle := hagree.timesPlaced_le
  have hsome : ∀ v, (u.piece v).isSome = (s.piece v).isSome := fun v => by
    simpa using congrArg Option.isSome (g.pool v)
  refine ⟨List.nodup_cons.2 ⟨hts, h.nodup⟩, fun v hv => ?_, fun v hv => ?_, fun v hv => ?_⟩
  · rw [hsome]
    rcases List.mem_cons.1 hv with rfl | hv
    · obtain ⟨p, hp, -⟩ := hagree.isSome_of_mem hin
      simp [hp]
    · exact h.inUse v hv
  · rcases List.mem_cons.1 hv with rfl | hv
    · omega
    · have := h.nowhere v hv
      have := hsum v
      omega
  · obtain ⟨hvt, hv⟩ : v ≠ t ∧ v ∉ ts := by simpa using hv
    refine (h.others v hv).congr (g.pool v) fun q => ?_
    by_cases hq : q = pl
    · subst hq
      have := g.here v
      rw [if_neg hvt] at this
      omega
    · rw [g.elsewhere q hq]

theorem InHand.put {ts : List Tag} {s u : State} {pl : Place} {t : Tag} (h : InHand (t :: ts) s)
    (g : PutInto pl t s u) : InHand ts u := by
  have hsum : ∀ v, timesPlaced u v = timesPlaced s v + if v = t then 1 else 0 := fun v => by
    have := sum_map_of_eq_off nodup_allPlaces (mem_allPlaces pl) (f := fun q => (s.occupants q).count v)
      (g := fun q => (u.occupants q).count v) (fun q hq => by rw [g.elsewhere q hq])
    have := g.here v
    simp only [timesPlaced_eq_sum]
    omega
  obtain ⟨hts, hnodup⟩ := List.nodup_cons.1 h.nodup
  have hne : ∀ v ∈ ts, v ≠ t := fun v hv => by rintro rfl; exact hts hv
  refine ⟨hnodup, fun v hv => ?_, fun v hv => ?_, fun v hv => ?_⟩
  · have hsome : (u.piece v).isSome = (s.piece v).isSome := by
      simpa using congrArg Option.isSome (g.pool v (hne v hv))
    exact hsome ▸ h.inUse v (List.mem_cons_of_mem _ hv)
  · rw [hsum, h.nowhere v (List.mem_cons_of_mem _ hv), if_neg (hne v hv)]
  · by_cases hvt : v = t
    · subst hvt
      obtain ⟨p₀, hp₀⟩ := Option.isSome_iff_exists.1 (h.inUse v List.mem_cons_self)
      obtain ⟨p, hp, hplace, hentry, hlim, -⟩ := g.record p₀ hp₀
      refine placeAgrees_of_some hp ?_ ?_ (by rw [hplace]; exact hentry) (by rw [hplace]; exact hlim)
      · rw [hsum, h.nowhere v List.mem_cons_self, if_pos rfl]
      · have := g.here v
        rw [if_pos rfl] at this
        rw [hplace]
        exact List.count_pos_iff.1 (by omega)
    · refine (h.others v (by simp [hvt, hv])).congr (g.pool v hvt) fun q => ?_
      by_cases hq : q = pl
      · subst hq
        have := g.here v
        rw [if_neg hvt] at this
        omega
      · rw [g.elsewhere q hq]

/-! ### Pieces that go -/

/-- R43, R44: the zone's places hold no piece. -/
def Emptied (s : State) (z : Zone) : Prop := ∀ pl : Place, pl.owner = some z → s.occupants pl = []

/-- R154: no gate order waits. -/
def NoGateOrder (s : State) : Prop := ∀ a o t, Order.gate o t ∉ (s.station a).orders

/-- R18, R19, R43: pieces have gone from the places, their records with them; no piece has moved, no gate order has
come, and a zone that has entered RESET is empty. -/
structure ThinnedBy (ts : List Tag) (s u : State) : Prop where
  piece : ∀ v, (u.piece v).map Piece.spot = if v ∈ ts then none else (s.piece v).map Piece.spot
  occupants : ∀ pl, u.occupants pl = (s.occupants pl).filter (· ∉ ts)
  mode : ∀ z, u.mode z = .reset → s.mode z = .reset ∨ Emptied u z ∧ (z = .z5 → NoGateOrder u)
  buffer : u.link.buffer.length ≤ max 38 s.link.buffer.length
  orders : ∀ a o v, Order.gate o v ∈ (u.station a).orders → Order.gate o v ∈ (s.station a).orders

/-- R18, R19: some pieces, perhaps none, have gone. -/
def Thinned (s u : State) : Prop := ∃ ts, ThinnedBy ts s u

theorem Removed.thinnedBy {ts : List Tag} {s u : State} (h : Removed ts s u) : ThinnedBy ts s u where
  piece v := by
    rw [h.piece]
    split <;> rfl
  occupants pl := by
    have hopt : ∀ o : Option Tag, (o.filter (· ∉ ts)).toList = o.toList.filter (· ∉ ts) := fun o => by
      cases o with
      | none => rfl
      | some v => by_cases hv : v ∈ ts <;> simp [Option.filter, hv]
    cases pl with
    | conveyor z => exact h.queue z
    | casingSlot => simp only [State.occupants, h.casing, hopt]
    | pressEntry => simp only [State.occupants, h.pressEntry, hopt]
    | press i => simp only [State.occupants, h.positions, hopt]
    | jacketingSlot => simp only [State.occupants, h.jacketing, hopt]
    | gateQueue => exact h.gateQueue
    | lost => exact h.lost
  mode z hz := by
    have hmode : u.mode z = s.mode z := by
      rw [h.frame]
      cases z <;> rfl
    exact .inl (hmode ▸ hz)
  buffer := by
    have hbuffer : u.link.buffer = s.link.buffer := by rw [h.frame]
    rw [hbuffer]
    omega
  orders a o v hin := by
    rw [h.station a] at hin
    exact (List.mem_filter.1 hin).1

theorem Removed.thinned {ts : List Tag} {s u : State} (h : Removed ts s u) : Thinned s u := ⟨ts, h.thinnedBy⟩

theorem ThinnedBy.trans {ts us : List Tag} {s u w : State} (h : ThinnedBy ts s u) (g : ThinnedBy us u w) :
    ThinnedBy (ts ++ us) s w where
  piece v := by
    rw [g.piece, h.piece]
    by_cases h1 : v ∈ ts <;> by_cases h2 : v ∈ us <;> simp [h1, h2]
  occupants pl := by simp [g.occupants, h.occupants, List.filter_filter, Bool.and_comm]
  mode z hz := by
    rcases g.mode z hz with hu | he
    · rcases h.mode z hu with hs | ⟨hempty, hnone⟩
      · exact .inl hs
      · refine .inr ⟨fun pl hpl => by rw [g.occupants, hempty pl hpl]; rfl, fun h5 a o t hin => ?_⟩
        exact hnone h5 a o t (g.orders a o t hin)
    · exact .inr he
  buffer := by
    have h1 := h.buffer
    have h2 := g.buffer
    omega
  orders a o v hin := h.orders a o v (g.orders a o v hin)

theorem Thinned.trans {s u w : State} (h : Thinned s u) (g : Thinned u w) : Thinned s w := by
  obtain ⟨ts, h⟩ := h
  obtain ⟨us, g⟩ := g
  exact ⟨_, h.trans g⟩

/-- Nothing has gone from the places or the pool. -/
theorem ThinnedBy.of_frame {s u : State} (hpool : ∀ v, (u.piece v).map Piece.spot = (s.piece v).map Piece.spot)
    (hocc : u.occupants = s.occupants) (hmode : ∀ z, u.mode z = .reset → s.mode z = .reset)
    (hbuffer : u.link.buffer.length ≤ max 38 s.link.buffer.length)
    (horders : ∀ a o v, Order.gate o v ∈ (u.station a).orders → Order.gate o v ∈ (s.station a).orders) :
    ThinnedBy [] s u :=
  ⟨fun v => by simp [hpool], fun pl => by simp [hocc], fun z hz => .inl (hmode z hz), hbuffer, horders⟩

/-- Only what no place, record or order looks at has changed. -/
theorem ThinnedBy.of_same {s u : State} (hpool : u.pool = s.pool) (hocc : u.occupants = s.occupants)
    (hmode : u.mode = s.mode) (hbuffer : u.link.buffer = s.link.buffer) (hstations : u.stations = s.stations) :
    ThinnedBy [] s u :=
  .of_frame (fun v => by rw [State.piece_congr hpool]) hocc (fun z h => hmode ▸ h) (by rw [hbuffer]; omega)
    fun a o v h => by rwa [State.station, ← hstations]

theorem ThinnedBy.refl (s : State) : ThinnedBy [] s s := .of_same rfl rfl rfl rfl rfl

theorem Thinned.refl (s : State) : Thinned s s := ⟨_, .refl s⟩

theorem InHand.thinnedBy {ts ks : List Tag} {s u : State} (h : InHand ts s) (g : ThinnedBy ks s u) :
    InHand (ts.filter (· ∉ ks)) u := by
  have hcount : ∀ v, v ∉ ks → ∀ pl, (u.occupants pl).count v = (s.occupants pl).count v := fun v hv pl => by
    rw [g.occupants, List.count_filter (by simpa using hv)]
  have hzero : ∀ v, v ∈ ks → timesPlaced u v = 0 := fun v hv => by
    have h0 : ∀ pl, (u.occupants pl).count v = 0 := fun pl => by
      rw [g.occupants]
      exact List.count_eq_zero.2 (by simp [hv])
    simp [timesPlaced_eq_sum, h0]
  refine ⟨h.nodup.filter _, fun v hv => ?_, fun v hv => ?_, fun v hv => ?_⟩
  · obtain ⟨hv, hk⟩ := List.mem_filter.1 hv
    have hsome : (u.piece v).isSome = (s.piece v).isSome := by
      simpa [show v ∉ ks by simpa using hk] using congrArg Option.isSome (g.piece v)
    rw [hsome]
    exact h.inUse v hv
  · obtain ⟨hv, hk⟩ := List.mem_filter.1 hv
    have := h.nowhere v hv
    simp only [timesPlaced_eq_sum] at this ⊢
    simpa only [hcount v (by simpa using hk)] using this
  · by_cases hk : v ∈ ks
    · exact placeAgrees_of_none (by simpa [hk] using g.piece v) (hzero v hk)
    · have hv : v ∉ ts := fun hts => hv (List.mem_filter.2 ⟨hts, by simpa using hk⟩)
      exact (h.others v hv).congr (by rw [g.piece, if_neg hk]) (hcount v hk)

end Sys2Proof.Machine
end

section
/-! SUPPORT. Each piece in its one place (R7, R13, R110): every operation that moves a piece takes it out of one place
and puts it into another, or retires it. -/

namespace Sys2Proof.Machine

open Sys2Proof.Safety

/-! ### Who stands where after an update -/

theorem State.occupants_setConveyor (s : State) (z : ConveyorZone) (c : Conveyor) (q : Place) :
    (s.setConveyor z c).occupants q = if q = .conveyor z then c.queue else s.occupants q := by
  cases q with
  | conveyor y =>
    rw [State.occupants, State.conveyor_setConveyor]
    by_cases h : y = z <;> simp [h, State.occupants]
  | _ => cases z <;> rfl

@[simp] theorem State.occupants_setPiece (s : State) (t : Tag) (p : Option Piece) :
    (s.setPiece t p).occupants = s.occupants := by
  funext q
  cases q with
  | conveyor y => cases y <;> rfl
  | _ => rfl

@[simp] theorem State.occupants_updatePiece (s : State) (t : Tag) (f : Piece → Piece) :
    (s.updatePiece t f).occupants = s.occupants := s.occupants_setPiece t _

@[simp] theorem State.occupants_raise (s : State) (a : Attention) : (s.raise a).occupants = s.occupants := by
  funext q
  cases q with
  | conveyor y => cases y <;> rfl
  | _ => rfl

theorem State.occupants_congr {s u : State} (hz : ∀ z, (u.conveyor z).queue = (s.conveyor z).queue)
    (hc : u.casing = s.casing) (he : u.pressEntry = s.pressEntry) (hp : u.press.positions = s.press.positions)
    (hj : u.jacketing = s.jacketing) (hg : u.gateQueue = s.gateQueue) (hl : u.lost = s.lost) :
    u.occupants = s.occupants := by
  funext q
  cases q <;> simp [State.occupants, *]

theorem State.spot_updatePiece {s : State} {t : Tag} {f : Piece → Piece} (hf : ∀ p, (f p).spot = p.spot) (v : Tag) :
    ((s.updatePiece t f).piece v).map Piece.spot = (s.piece v).map Piece.spot := by
  rw [State.piece_updatePiece]
  split
  · next h =>
    subst h
    cases s.piece v <;> simp [hf]
  · rfl

theorem State.spot_updatePieces {s : State} {ts : List Tag} {f : Piece → Piece} (hf : ∀ p, (f p).spot = p.spot)
    (v : Tag) : ((s.updatePieces ts f).piece v).map Piece.spot = (s.piece v).map Piece.spot := by
  rw [State.piece_updatePieces]
  split
  · cases s.piece v <;> simp [hf]
  · rfl

/-! ### A piece leaves its place -/

theorem count_cons_ite (t v : Tag) (l : List Tag) : (t :: l).count v = l.count v + if v = t then 1 else 0 := by
  by_cases h : v = t
  · subst h; simp
  · simp [h, List.count_cons_of_ne (Ne.symm h)]

theorem count_singleton_ite (t v : Tag) : [t].count v = if v = t then 1 else 0 := by
  rw [count_cons_ite, List.count_nil, Nat.zero_add]

theorem takenFrom_head {s : State} {z : ConveyorZone} {t : Tag} {rest : List Tag}
    (hq : (s.conveyor z).queue = t :: rest) :
    TakenFrom (.conveyor z) t s (s.setConveyor z { s.conveyor z with queue := rest }) where
  pool v := by rw [State.piece_congr (State.setConveyor_pool s z _)]
  here v := by
    rw [State.occupants_setConveyor, if_pos rfl]
    simp only [State.occupants, hq, count_cons_ite]
  elsewhere q hne := by rw [State.occupants_setConveyor, if_neg hne]
  mode := by cases z <;> rfl
  buffer := by cases z <;> rfl
  stations := State.setConveyor_stations s z _

theorem takenFrom_casing {s : State} {t : Tag} (hc : s.casing = some t) :
    TakenFrom .casingSlot t s { s with casing := none } where
  pool _ := rfl
  here v := by
    simp only [State.occupants, hc]
    simp [count_singleton_ite]
  elsewhere q hne := by
    cases q with
    | casingSlot => exact absurd rfl hne
    | conveyor y => cases y <;> rfl
    | _ => rfl
  mode := rfl
  buffer := rfl
  stations := rfl

theorem takenFrom_jacketing {s : State} {t : Tag} (hc : s.jacketing = some t) :
    TakenFrom .jacketingSlot t s { s with jacketing := none } where
  pool _ := rfl
  here v := by
    simp only [State.occupants, hc]
    simp [count_singleton_ite]
  elsewhere q hne := by
    cases q with
    | jacketingSlot => exact absurd rfl hne
    | conveyor y => cases y <;> rfl
    | _ => rfl
  mode := rfl
  buffer := rfl
  stations := rfl

theorem takenFrom_pressEntry {s : State} {t : Tag} (hc : s.pressEntry = some t) :
    TakenFrom .pressEntry t s { s with pressEntry := none } where
  pool _ := rfl
  here v := by
    simp only [State.occupants, hc]
    simp [count_singleton_ite]
  elsewhere q hne := by
    cases q with
    | pressEntry => exact absurd rfl hne
    | conveyor y => cases y <;> rfl
    | _ => rfl
  mode := rfl
  buffer := rfl
  stations := rfl

theorem takenFrom_lastPosition {s : State} {t : Tag} (hc : s.press.positions[11] = some t) :
    TakenFrom (.press 11) t s { s with press := { s.press with positions := s.press.positions.set 11 none } } where
  pool _ := rfl
  here v := by
    have hc : s.press.positions[(11 : Fin 12)] = some t := hc
    simp only [State.occupants, hc]
    simp [count_singleton_ite]
  elsewhere q hne := by
    cases q with
    | press i =>
      have hi : (11 : Nat) ≠ i.val := fun e => hne (congrArg Place.press (Fin.ext e.symm))
      simp [State.occupants, hi]
    | conveyor y => cases y <;> rfl
    | _ => rfl
  mode := rfl
  buffer := rfl
  stations := rfl

theorem takenFrom_lost {s : State} {t : Tag} (hin : t ∈ s.lost) (hle : timesPlaced s t ≤ 1) :
    TakenFrom .lost t s { s with lost := s.lost.filter (· ≠ t) } where
  pool _ := rfl
  here v := by
    have hone : s.lost.count t ≤ 1 := by
      have : s.lost.count t ≤ timesPlaced s t := by unfold timesPlaced; omega
      omega
    have hpos := List.count_pos_iff.2 hin
    change s.lost.count v = (s.lost.filter (· ≠ t)).count v + _
    by_cases h : v = t
    · subst h
      have h0 : (s.lost.filter (· ≠ v)).count v = 0 := List.count_eq_zero.2 (by simp)
      rw [h0, if_pos rfl]
      omega
    · rw [if_neg h, List.count_filter (by simpa using h)]
      rfl
  elsewhere q hne := by
    cases q with
    | lost => exact absurd rfl hne
    | conveyor y => cases y <;> rfl
    | _ => rfl
  mode := rfl
  buffer := rfl
  stations := rfl

/-! ### A piece enters a place -/

theorem putInto_joinQueue (s : State) (z : ConveyorZone) (t : Tag) :
    PutInto (.conveyor z) t s (s.joinQueue z t) where
  pool v hv := by
    rw [State.joinQueue, State.piece_updatePiece, if_neg hv, State.piece_congr (State.setConveyor_pool s z _)]
  record p hp := by
    refine ⟨{ p with place := .conveyor z, entryCount := some (s.conveyor z).encoder }, ?_, rfl, by simp, by simp,
      .inl rfl⟩
    rw [State.joinQueue, State.piece_updatePiece, if_pos rfl, State.piece_congr (State.setConveyor_pool s z _), hp]
    rfl
  here v := by
    rw [State.joinQueue, State.occupants_updatePiece, State.occupants_setConveyor, if_pos rfl]
    simp [State.occupants, count_singleton_ite]
  elsewhere q hne := by
    rw [State.joinQueue, State.occupants_updatePiece, State.occupants_setConveyor, if_neg hne]
  mode := by cases z <;> rfl
  buffer := by cases z <;> rfl
  orders a o v h := .inl (by cases z <;> exact h)

/-- R7: what a place other than a conveyor queue writes to the record that is put into it. -/
theorem record_putIn {s : State} {t : Tag} {pl : Place} (hpl : ∀ z, pl ≠ .conveyor z) (hpress : ∀ i, pl ≠ .press i)
    {p₀ : Piece} (hp : s.piece t = some p₀) {f : Piece → Piece} (hf : ∀ p, (f p).spot = (pl, false, p.limits)) :
    ∃ p, (s.updatePiece t f).piece t = some p ∧ p.place = pl ∧
      (p.entryCount.isSome ↔ ∃ z, pl = .conveyor z) ∧ ((∃ i, pl = .press i) → p.limits.isSome) ∧
      (p.limits = p₀.limits ∨ ∃ g r n, p.limits = some (dwellLimits g r n)) := by
  have hspot := hf p₀
  simp only [Piece.spot, Prod.mk.injEq] at hspot
  obtain ⟨h1, h2, h3⟩ := hspot
  refine ⟨f p₀, by rw [State.piece_updatePiece, if_pos rfl, hp]; rfl, h1, ?_, ?_, .inl h3⟩
  · simp [h2, hpl]
  · simp [hpress]

theorem putInto_lose (s : State) (t : Tag) : PutInto .lost t s (s.lose t) where
  pool v hv := by
    change ((State.updatePiece { s with lost := s.lost ++ [t] } t _).piece v).map Piece.spot = _
    rw [State.piece_updatePiece, if_neg hv]
    rfl
  record _ hp := record_putIn (s := { s with lost := s.lost ++ [t] }) (by simp) (by simp) hp fun p => rfl
  here v := by
    change (s.lost ++ [t]).count v = _
    simp [State.occupants, count_singleton_ite]
  elsewhere q hne := by
    cases q with
    | lost => exact absurd rfl hne
    | conveyor y => cases y <;> rfl
    | _ => rfl
  mode := rfl
  buffer := rfl
  orders _ _ _ h := .inl h

theorem putInto_enterCasing {s : State} (hc : s.casing = none) (t : Tag) :
    PutInto .casingSlot t s (s.enterCasing t) where
  pool v hv := by rw [State.enterCasing, State.piece_updatePiece, if_neg hv]; rfl
  record _ hp := record_putIn (s := { s with casing := some t, casingMismatch := 0 }) (by simp) (by simp) hp fun p => rfl
  here v := by
    change [t].count v = _
    simp [State.occupants, hc, count_singleton_ite]
  elsewhere q hne := by
    cases q with
    | casingSlot => exact absurd rfl hne
    | conveyor y => cases y <;> rfl
    | _ => rfl
  mode := rfl
  buffer := rfl
  orders _ _ _ h := .inl h

theorem putInto_enterJacketing {s : State} (hc : s.jacketing = none) (t : Tag) :
    PutInto .jacketingSlot t s (s.enterJacketing t) where
  pool v hv := by rw [State.enterJacketing, State.piece_updatePiece, if_neg hv]; rfl
  record _ hp :=
    record_putIn (s := { s with jacketing := some t, jacketingMismatch := 0 }) (by simp) (by simp) hp fun p => rfl
  here v := by
    change [t].count v = _
    simp [State.occupants, hc, count_singleton_ite]
  elsewhere q hne := by
    cases q with
    | jacketingSlot => exact absurd rfl hne
    | conveyor y => cases y <;> rfl
    | _ => rfl
  mode := rfl
  buffer := rfl
  orders _ _ _ h := .inl h

theorem putInto_enterHold {s : State} (hc : s.pressEntry = none) (t : Tag) :
    PutInto .pressEntry t s (s.enterHold t) where
  pool v hv := by rw [State.enterHold, State.piece_updatePiece, if_neg hv]; rfl
  record _ hp := record_putIn (s := { s with pressEntry := some t }) (by simp) (by simp) hp fun p => rfl
  here v := by
    change [t].count v = _
    simp [State.occupants, hc, count_singleton_ite]
  elsewhere q hne := by
    cases q with
    | pressEntry => exact absurd rfl hne
    | conveyor y => cases y <;> rfl
    | _ => rfl
  mode := rfl
  buffer := rfl
  orders _ _ _ h := .inl h

theorem putInto_queueGateOrder (s : State) (a : Address) (o : Disposition) (t : Tag) :
    PutInto .gateQueue t s (s.queueGateOrder a o t) where
  pool v hv := by rw [State.queueGateOrder, State.piece_updatePiece, if_neg hv]; rfl
  record _ hp := by
    unfold State.queueGateOrder
    exact record_putIn (by simp) (by simp) hp fun p => rfl
  here v := by
    change (s.gateQueue ++ [t]).count v = _
    simp [State.occupants, count_singleton_ite]
  elsewhere q hne := by
    cases q with
    | gateQueue => exact absurd rfl hne
    | conveyor y => cases y <;> rfl
    | _ => rfl
  mode := rfl
  buffer := rfl
  orders _ _ _ _ := .inr rfl

end Sys2Proof.Machine
end

section
/-! SUPPORT. Laws of the line: what is kept while pieces leave places, are put into places that are open to them, or go
from the line, is kept by every command (R7, R13, R39, R43, R44). -/

namespace Sys2Proof.Machine

open Sys2Proof.Safety

/-! ### Updates that move no piece -/

theorem Piece.spot_settleCase (p : Piece) (c : CaseStatus) : (p.settleCase c).spot = p.spot := by
  unfold Piece.settleCase
  split <;> rfl

theorem Piece.spot_settleJacket (p : Piece) (c : JacketStatus) : (p.settleJacket c).spot = p.spot := by
  unfold Piece.settleJacket
  split <;> rfl

theorem Piece.spot_passCasing (p : Piece) : p.passCasing.spot = p.spot := (p.addFault _).spot_settleCase _

theorem Piece.spot_passJacketing (p : Piece) : p.passJacketing.spot = p.spot := by
  unfold Piece.passJacketing
  split
  · rfl
  · exact (p.addFault _).spot_settleJacket _

theorem Piece.spot_acceptJacket (p : Piece) (v : Bool) : (p.acceptJacket v).spot = p.spot := p.spot_settleJacket _

theorem Piece.spot_judged (p : Piece) : p.judged.1.spot = p.spot := by
  unfold Piece.judged
  split
  · rfl
  · (repeat' split) <;> rfl

theorem PressMark.spot {f : Piece → Piece} (hf : PressMark f) (p : Piece) : (f p).spot = p.spot := by
  obtain ⟨acc, faults, e⟩ := hf.shape p
  rw [e]
  rfl

/-- Records have changed otherwise than in their place. -/
theorem ThinnedBy.of_pool {s u : State} (hpool : ∀ v, (u.piece v).map Piece.spot = (s.piece v).map Piece.spot)
    (hframe : u = { s with pool := u.pool, flags := u.flags }) : ThinnedBy [] s u :=
  .of_frame hpool (by rw [hframe]; exact State.occupants_congr (fun z => by cases z <;> rfl) rfl rfl rfl rfl rfl rfl)
    (fun z h => by rw [hframe] at h; cases z <;> exact h) (by rw [hframe]; exact le_max_right _ _)
    fun a o v h => by rw [hframe] at h; exact h

theorem ThinnedBy.updatePiece (s : State) (t : Tag) {f : Piece → Piece} (hf : ∀ p, (f p).spot = p.spot) :
    ThinnedBy [] s (s.updatePiece t f) :=
  .of_pool (State.spot_updatePiece hf) rfl

theorem ThinnedBy.updatePieces (s : State) (ts : List Tag) {f : Piece → Piece} (hf : ∀ p, (f p).spot = p.spot) :
    ThinnedBy [] s (s.updatePieces ts f) :=
  .of_pool (State.spot_updatePieces hf) (by unfold State.updatePieces; rfl)

theorem ThinnedBy.raise (s : State) (a : Attention) : ThinnedBy [] s (s.raise a) := .of_pool (fun _ => rfl) rfl

theorem ThinnedBy.setMode (s : State) (z : Zone) {m : ZoneMode} (hm : m ≠ .reset) : ThinnedBy [] s (s.setMode z m) :=
  .of_frame (fun v => congrArg (Option.map Piece.spot) (congrFun (State.piece_congr (by cases z <;> rfl)) v))
    (State.occupants_congr (fun y => by cases z <;> cases y <;> rfl) (by cases z <;> rfl) (by cases z <;> rfl)
      (by cases z <;> rfl) (by cases z <;> rfl) (by cases z <;> rfl) (by cases z <;> rfl))
    (fun y h => by
      rw [State.mode_setMode] at h
      split at h
      · exact absurd h hm
      · exact h)
    (by cases z <;> exact le_max_right _ _) (fun a o v h => by cases z <;> exact h)

theorem ThinnedBy.judgeDischarge (s : State) (t : Tag) : ThinnedBy [] s (s.judgeDischarge t) := by
  refine .of_pool (fun v => ?_) ?_
  · unfold State.judgeDischarge
    split
    · rfl
    · next p hp =>
      rw [State.piece_congr (State.raiseIf_pool _ _ _), State.piece_setPiece]
      split
      · next hv => subst hv; rw [hp]; exact congrArg some p.spot_judged
      · rfl
  · unfold State.judgeDischarge State.raiseIf
    split
    · rfl
    · split <;> rfl

/-! ### Limits made at press entry -/

theorem State.computeDwell_frame (s : State) (t : Tag) :
    s.computeDwell t = { s with pool := (s.computeDwell t).pool, flags := (s.computeDwell t).flags } := by
  unfold State.computeDwell
  split
  · rfl
  · dsimp only
    split
    · rfl
    · split <;> rfl

theorem State.piece_computeDwell_of_ne (s : State) {t v : Tag} (hv : v ≠ t) :
    (s.computeDwell t).piece v = s.piece v := by
  unfold State.computeDwell
  split
  · rfl
  · split
    · rfl
    · dsimp only
      split
      · exact (State.piece_setPiece _ _ _ _).trans (if_neg hv)
      · exact (State.piece_setPiece _ _ _ _).trans (if_neg hv)

/-- R103, R105: what press entry writes to the record. -/
theorem State.piece_computeDwell (s : State) {t : Tag} {p : Piece} (hp : s.piece t = some p) :
    (s.computeDwell t).piece t = some { p with
      limits := some (p.limits.getD (dwellLimits s.filter s.classTable.records[p.cls] p.thickness))
      faults := if p.limits = none ∧ coldPressed s.filter s.classTable.records[p.cls] = true then
        p.faults ||| FaultKind.coldPress.bit else p.faults } := by
  unfold State.computeDwell
  rw [hp]
  dsimp only
  split
  · next l hl =>
    rw [hp]
    have : p = { p with limits := some l } := by rw [← hl]
    simp [hl, ← this]
  · next hl =>
    split
    · next hcold =>
      simp only [Fin.getElem_fin] at hcold
      simp [State.piece_congr (State.raise_pool _ _), State.piece_setPiece, hl, hcold, Piece.addFault, FaultSet.add]
    · next hcold =>
      simp only [Fin.getElem_fin] at hcold
      simp [State.piece_setPiece, hl, hcold]

theorem putInto_pressFirst {s : State} (h0 : s.press.positions[0] = none) (t : Tag) :
    PutInto (.press 0) t s
      (({ s with press := { s.press with positions := s.press.positions.set 0 (some t) } }.updatePiece t
        (·.putIn (.press 0))).computeDwell t) where
  pool v hv := by
    rw [State.piece_computeDwell_of_ne _ hv, State.piece_updatePiece, if_neg hv]
    rfl
  record p hp := by
    refine ⟨_, State.piece_computeDwell _ (p := p.putIn (.press 0)) ?_, rfl, by simp [Piece.putIn], by simp, ?_⟩
    · rw [State.piece_updatePiece, if_pos rfl]
      exact congrArg (Option.map _) hp
    · cases hl : p.limits with
      | some l => exact .inl (by simp [Piece.putIn, hl])
      | none => exact .inr ⟨_, _, _, by simp [Piece.putIn, hl]; rfl⟩
  here v := by
    rw [State.computeDwell_frame]
    simp [State.occupants, h0, count_singleton_ite]
  elsewhere q hq := by
    rw [State.computeDwell_frame]
    cases q with
    | press i =>
      have hi : (0 : Nat) ≠ i.val := fun e => hq (congrArg Place.press (Fin.ext e.symm))
      simp [State.occupants, hi]
    | conveyor y => cases y <;> rfl
    | _ => rfl
  mode := by
    rw [State.computeDwell_frame]
    funext z
    cases z <;> rfl
  buffer := by rw [State.computeDwell_frame]; rfl
  orders a o v h := by
    rw [State.computeDwell_frame] at h
    exact .inl h

/-! ### The law -/

/-- What is kept, with the pieces in hand in the midst of a move, by the ways in which pieces come, move and go. -/
structure LineLaw (Q : List Tag → State → Prop) : Prop where
  inHand : ∀ {ts s}, Q ts s → InHand ts s
  thinned : ∀ {ts ks s u}, ThinnedBy ks s u → Q ts s → Q (ts.filter (· ∉ ks)) u
  take : ∀ {ts s u pl t}, TakenFrom pl t s u → Q ts s → Q (t :: ts) u
  put : ∀ {ts s u pl t}, PutInto pl t s u → OpenPlace s pl → Q (t :: ts) s → Q ts u
  shift : ∀ {s}, s.press.positions[11] = none → Q [] s → Q [] s.shiftPress
  newRecord : ∀ {s t p}, s.piece t = none → p.limits = none → Q [] s → Q [t] (s.setPiece t (some p))
  start : ∀ {s u}, (∀ v, u.piece v = none) → (∀ pl, u.occupants pl = []) → (NoGateOrder u) → u.link.buffer = [] →
    Q [] s → Q [] u

namespace LineLaw

variable {Q : List Tag → State → Prop} (law : LineLaw Q) {ts : List Tag} {s u : State} {t : Tag}

include law

theorem same (g : ThinnedBy [] s u) (h : Q ts s) : Q ts u := by
  simpa using law.thinned g h

theorem gone (g : ThinnedBy [t] s u) (h : Q (t :: ts) s) : Q ts u := by
  have hts := (List.nodup_cons.1 (law.inHand h).nodup).1
  have hfilter : (t :: ts).filter (· ∉ [t]) = ts := by
    simp only [List.mem_singleton, List.filter_cons, not_true_eq_false, decide_false, Bool.false_eq_true, if_false]
    exact List.filter_eq_self.2 fun v hv => by simpa using fun e : v = t => hts (e ▸ hv)
  exact hfilter ▸ law.thinned g h

theorem of_thinned (g : Thinned s u) (h : Q [] s) : Q [] u := by
  obtain ⟨ks, g⟩ := g
  simpa using law.thinned g h

theorem lose (h : Q (t :: ts) s) : Q ts (s.lose t) :=
  law.put (putInto_lose s t) ⟨by simp [Place.owner], trivial⟩ h

/-- R55, R56, R124, R134, R142: a piece in hand is handed into a conveyor zone. -/
theorem handOver (h : Q (t :: ts) s) (z : ConveyorZone) : Q ts (s.handOver z t) := by
  unfold State.handOver
  split
  · exact law.gone (Removed.retire s _ t).thinnedBy h
  · next hmode =>
    split
    · exact law.lose h
    · next hroom =>
      refine law.put (putInto_joinQueue s z t) ⟨fun y hy => ?_, ?_⟩ h
      · cases hy
        rwa [State.mode_conveyor]
      · simp only [Roomy]
        omega

end LineLaw

theorem State.handOver_slots {s : State} (z : ConveyorZone) (t : Tag) :
    (s.casing = none → (s.handOver z t).casing = none) ∧ (s.jacketing = none → (s.handOver z t).jacketing = none) ∧
      (s.handOver z t).mode = s.mode := by
  have hr := Removed.retire s .spoiled t
  unfold State.handOver
  split
  · refine ⟨fun h => by rw [hr.casing, h]; rfl, fun h => by rw [hr.jacketing, h]; rfl, funext fun y => ?_⟩
    rw [hr.frame]
    cases y <;> rfl
  · split
    · exact ⟨id, id, rfl⟩
    · exact ⟨fun h => by simpa [State.joinQueue] using h, fun h => by simpa [State.joinQueue] using h,
        by cases z <;> rfl⟩

namespace LineLaw

variable {Q : List Tag → State → Prop} (law : LineLaw Q) {s u : State} {t : Tag}

include law

/-- R51, R54 to R57, R148: a piece that arrives is put into the zone's downstream place, an occupant is handed on. -/
theorem arrive (h : Q [t] s) (z : ConveyorZone) (hm : (s.conveyor z).mode ≠ .reset) : Q [] (s.arrive z t) := by
  have hopen : ∀ {w : State}, w.mode = s.mode → s.mode z.zone ≠ .reset → w.mode z.zone ≠ .reset :=
    fun e h => e ▸ h
  rw [← State.mode_conveyor] at hm
  cases z with
  | z1 =>
    change Q [] (s.arriveCasing t)
    unfold State.arriveCasing
    split
    · next hc => exact law.put (putInto_enterCasing hc t) ⟨by rintro _ ⟨⟩; exact hm, trivial⟩ h
    · next o hc =>
      have htake := law.take (takenFrom_casing hc) h
      have hover := law.handOver (law.same (ThinnedBy.updatePiece _ o Piece.spot_passCasing) htake) .z2
      obtain ⟨hcasing, -, hmode⟩ :=
        State.handOver_slots (s := State.updatePiece { s with casing := none } o Piece.passCasing) .z2 o
      exact law.same (ThinnedBy.raise _ _) (law.put (putInto_enterCasing (hcasing rfl) t)
        ⟨by rintro _ ⟨⟩; exact hopen hmode hm, trivial⟩ hover)
  | z2 =>
    change Q [] (s.arriveHold t)
    unfold State.arriveHold
    split
    · next hc => exact law.put (putInto_enterHold hc t) ⟨by rintro _ ⟨⟩; exact hm, trivial⟩ h
    · next o hc =>
      have hlost := law.lose (law.take (takenFrom_pressEntry hc) h)
      have hhalt := law.same (ThinnedBy.setMode _ ConveyorZone.z2.zone (m := .halt) (by decide)) hlost
      exact law.same (ThinnedBy.raise _ _) (law.put (putInto_enterHold rfl t)
        ⟨by rintro _ ⟨⟩; exact (by decide : ZoneMode.halt ≠ .reset), trivial⟩ hhalt)
  | z4 =>
    change Q [] (s.arriveJacketing t)
    unfold State.arriveJacketing
    split
    · next hc => exact law.put (putInto_enterJacketing hc t) ⟨by rintro _ ⟨⟩; exact hm, trivial⟩ h
    · next o hc =>
      have htake := law.take (takenFrom_jacketing hc) h
      have hover := law.handOver (law.same (ThinnedBy.updatePiece _ o Piece.spot_passJacketing) htake) .z5
      obtain ⟨-, hjacketing, hmode⟩ :=
        State.handOver_slots (s := State.updatePiece { s with jacketing := none } o Piece.passJacketing) .z5 o
      exact law.same (ThinnedBy.raise _ _) (law.put (putInto_enterJacketing (hjacketing rfl) t)
        ⟨by rintro _ ⟨⟩; exact hopen hmode hm, trivial⟩ hover)
  | z5 =>
    change Q [] (s.gateArrival t)
    unfold State.gateArrival
    split
    · next hp => simpa [hp] using (law.inHand h).inUse t (by simp)
    · split
      · exact law.gone (Removed.divertUnconfirmed s t).thinnedBy h
      · split
        · exact law.gone (Removed.divertUnconfirmed s t).thinnedBy h
        · next hroom =>
          exact law.put (putInto_queueGateOrder s _ _ t)
            ⟨by rintro _ ⟨⟩; exact hm, by simp only [Roomy]; omega⟩ h

theorem discharge (h : Q [] s) : Q [] s.discharge := by
  unfold State.discharge
  split
  · exact h
  · next t ht =>
    have ht' : (s.judgeDischarge t).press.positions[11] = some t := by simpa using ht
    exact law.handOver (law.take (takenFrom_lastPosition ht') (law.same (ThinnedBy.judgeDischarge s t) h)) .z4

theorem enterPress (h0 : s.press.positions[0] = none) (h : Q [] s) : Q [] s.enterPress := by
  unfold State.enterPress
  split
  · exact h
  · next t ht =>
    have hhand := law.take (takenFrom_pressEntry ht) h
    dsimp only
    split
    · exact law.gone (Removed.retire _ _ t).thinnedBy hhand
    · next hmode => exact law.put (pl := .press 0) (putInto_pressFirst (s := { s with pressEntry := none }) h0 t) ⟨by rintro _ ⟨⟩; exact hmode, trivial⟩ hhand

theorem returnTo {z : ConveyorZone} (hlost : t ∈ s.lost) (hmode : (s.conveyor z).mode ≠ .reset)
    (hroom : (s.conveyor z).queue.length < z.capacity) (h : Q [] s) : Q [] (s.returnTo z t) := by
  have htimes := ((law.inHand h).others t (by simp)).timesPlaced_le
  refine law.put (putInto_joinQueue _ z t) ⟨fun y hy => ?_, ?_⟩ (law.take (takenFrom_lost hlost htimes) h)
  · cases hy
    rw [State.mode_conveyor]
    cases z <;> exact hmode
  · cases z <;> exact hroom

end LineLaw

end Sys2Proof.Machine
end

section
/-! SUPPORT. One traversal of the role and link operations (R153, R168 to R174): a relation between states that holds
over their primitive moves holds over each of them. -/

namespace Sys2Proof.Machine

open Sys2Proof.Safety

/-- The relation holds over the moves that role changes and the ends of exchanges are made of. -/
structure RoleMoves (R : State → State → Prop) : Prop where
  refl : ∀ s, R s s
  trans : ∀ {s u w}, R s u → R u w → R s w
  inert : ∀ {s u}, Inert s u → R s u
  filter : ∀ s f, R s { s with filter := f }
  divert : ∀ s t, R s (s.divertUnconfirmed t)
  withdraw : ∀ s which, R s (s.withdrawGateOrders which)
  setStation : ∀ {s a st}, st.orders.Sublist (s.station a).orders → R s (s.setStation a st)
  setLink : ∀ {s l}, l.buffer.length ≤ 38 ∨ l.buffer = s.link.buffer → R s { s with link := l }
  endFlight : ∀ s, R s { s with gateInFlight := none }

namespace RoleMoves

variable {R : State → State → Prop} (m : RoleMoves R) (s : State)

include m

theorem raise (a : Attention) : R s (s.raise a) := m.inert rfl

theorem setStationRaise {a : Address} {st : Station} (h : st.orders.Sublist (s.station a).orders) (f : Attention) :
    R s ((s.setStation a st).raise f) := m.trans (m.setStation h) (m.raise _ f)

theorem divertAll (ts : List Tag) : R s (s.divertAllUnconfirmed ts) := by
  induction ts generalizing s with
  | nil => exact m.refl s
  | cons t rest ih => exact m.trans (m.divert s t) (ih _)

theorem blocksLose (r : Role) : R s (s.blocksLose r) := by
  cases r
  case gate => exact m.divertAll s _
  case press => exact m.filter s _
  all_goals exact m.refl s

theorem holderLost (a : Address) (r : Role) : R s (s.holderLost a r) :=
  m.trans (m.blocksLose s r) (m.setStation (List.nil_sublist _))

theorem setStanding (a : Address) (st : Standing) : R s (s.setStanding a st) :=
  m.setStationRaise s (by exact .refl _) _

theorem clearRole (a : Address) : R s (s.clearRole a) := m.setStation (List.Sublist.refl _)

theorem resolveConflict (r : Role) : R s (s.resolveConflict r) := by
  unfold State.resolveConflict
  split
  · exact m.setStanding s _ _
  · exact m.refl s

theorem leaveRole (a : Address) : R s (s.leaveRole a) := by
  unfold State.leaveRole
  split
  · exact m.trans (m.holderLost s a _) (m.clearRole _ a)
  · exact m.trans (m.clearRole s a) (m.resolveConflict _ _)
  · exact m.clearRole s a

theorem claimRole (a : Address) (r : Role) (abilities : Byte) : R s (s.claimRole a r abilities) := by
  have hclaim : ∀ u : State, ∀ st, R u ((u.setStation a { u.station a with
      role := some r, standing := some st, abilities := abilities }).raise .stationChange) := fun u st =>
    m.setStationRaise u (by exact .refl _) _
  unfold State.claimRole
  dsimp only
  split
  · exact m.trans (m.trans (m.holderLost s _ r) (m.setStanding _ _ _)) (hclaim _ _)
  · exact hclaim s _

theorem holderAbilities (a : Address) (r : Role) (before after : Byte) :
    R s (s.holderAbilities a r before after) := by
  unfold State.holderAbilities
  split
  · split
    · exact m.trans (m.divertAll s _) (m.withdraw _ _)
    · exact m.refl s
  · split
    · exact m.setStation List.filter_sublist
    · exact m.refl s
  all_goals exact m.refl s

theorem reannounce (a : Address) (r : Role) (abilities : Byte) : R s (s.reannounce a r abilities) := by
  have hset : ∀ u : State, R u ((u.setStation a { u.station a with abilities := abilities }).raise .stationChange) :=
    fun u => m.setStationRaise u (by exact .refl _) _
  unfold State.reannounce
  dsimp only
  split
  · exact m.refl s
  · split
    · exact m.trans (m.holderAbilities s a r _ _) (hset _)
    · exact hset s

/-- R172 to R174: an ANNOUNCE. -/
theorem announce (a : Address) (role abilities : Byte) : R s (s.announce a role abilities) := by
  unfold State.announce
  split
  · exact m.refl s
  · next r _ =>
    have hclaimed : R s (if (s.station a).role = some r then s.reannounce a r (abilities &&& r.mayAnnounce)
        else (s.leaveRole a).claimRole a r (abilities &&& r.mayAnnounce)) := by
      split
      · exact m.reannounce _ _ _ _
      · exact m.trans (m.leaveRole s a) (m.claimRole _ _ _ _)
    dsimp only
    split
    · exact m.trans hclaimed (m.filter _ _)
    · exact hclaimed

theorem goAbsent (a : Address) : R s (s.goAbsent a) :=
  m.trans (m.leaveRole s a) (m.trans (m.setStation (List.nil_sublist _)) (m.raise _ _))

theorem failFlight : R s s.failFlight := by
  unfold State.failFlight
  split
  · exact m.refl s
  · dsimp only
    split
    · exact m.trans (m.endFlight s) (m.divert _ _)
    · exact m.endFlight s

theorem countSilence (a : Address) : R s (s.countSilence a) := by
  unfold State.countSilence
  dsimp only
  split
  · split
    · exact m.setStation (List.Sublist.refl _)
    · exact m.goAbsent s a
  · exact m.setStation (List.Sublist.refl _)

theorem endExchange : R s s.endExchange := m.setLink (.inr rfl)

/-- R169: a silence. -/
theorem silence (ex : Exchange) : R s (s.silence ex) := by
  unfold State.silence
  refine m.trans (u := (if ex.carriesGate then s.failFlight else s).countSilence ex.address) ?_ (m.endExchange _)
  split
  · exact m.trans (m.failFlight s) (m.countSilence _ _)
  · exact m.countSilence s _

theorem markPresent (a : Address) : R s (s.markPresent a) := by
  unfold State.markPresent State.raiseIf
  dsimp only
  split
  · exact m.setStationRaise s (by exact .refl _) _
  · exact m.setStation (List.Sublist.refl _)

theorem sendFrame (a : Address) (kind : Byte) (payload : List Byte) : R s (s.sendFrame a kind payload) := by
  rw [State.sendFrame_eq]
  exact m.setLink (.inl (by simp))

end RoleMoves

theorem State.station_markPresent_present (s : State) (a : Address) : ((s.markPresent a).station a).present = true := by
  have hst : (s.markPresent a).stations = (s.setStation a { s.station a with present := true, silent := 0 }).stations := by
    simp [State.markPresent]
  simp [State.station_congr hst, State.station_setStation]

/-- What the role moves keep, and reports keep after a confirmation, a reply or a silence keeps. -/
theorem RoleMoves.keptByLink {R : State → State → Prop} (m : RoleMoves R) {P M Q : State → Prop}
    (hQ : ∀ {s u}, R s u → Q s → Q u) (weaken : ∀ {s}, P s → M s) (inert : ∀ {s u}, Inert s u → P s → P u)
    (setLink : ∀ {s l}, l.buffer.length ≤ 38 ∨ l.buffer = s.link.buffer → P s → P { s with link := l })
    (present : ∀ {s} a, P s → P (s.markPresent a)) (confirm : ∀ {s}, P s → M s.confirmFlight)
    (reports : KeptByReports M Q) : KeptByLink P Q where
  weaken h := reports.weaken (weaken h)
  inert := inert
  receiver rx buffer _ hb h := setLink hb h
  candidate _ h := setLink (.inr rfl) h
  silence {s ex} _ h := hQ (m.silence s ex) (reports.weaken (weaken h))
  validReply {s ex} payload _ h := by
    have hmark : P (s.markPresent ex.address) := present _ h
    have hpresent := s.station_markPresent_present ex.address
    unfold State.validReply
    dsimp only
    refine hQ (m.endExchange _) ?_
    split
    · obtain ⟨os, -, hst⟩ := (Trimmed.confirmFlight (s.markPresent ex.address)).station ex.address
      exact reports.takePayload (confirm hmark) (by rw [hst]; exact hpresent) payload
    · exact reports.takePayload (weaken hmark) hpresent payload

/-! ### Places -/

theorem ThinnedBy.of_inert {s u : State} (h : Inert s u) : ThinnedBy [] s u :=
  .of_same (by rw [h]) (by rw [h]; exact State.occupants_congr (fun z => by cases z <;> rfl) rfl rfl rfl rfl rfl rfl)
    (by rw [h]; funext z; cases z <;> rfl) (by rw [h]) (by rw [h])

theorem ThinnedBy.of_stations {s u : State} (hu : u = { s with stations := u.stations })
    (ho : ∀ a, (u.station a).orders ⊆ (s.station a).orders) : ThinnedBy [] s u :=
  .of_frame (fun v => by rw [hu]; rfl)
    (by rw [hu]; exact State.occupants_congr (fun z => by cases z <;> rfl) rfl rfl rfl rfl rfl rfl)
    (fun z h => by rw [hu] at h; cases z <;> exact h) (by rw [hu]; exact le_max_right _ _)
    fun a o v h => ho a h

/-- Role changes and the ends of exchanges take pieces from the line and move none. -/
theorem roleMoves_thinned : RoleMoves Thinned where
  refl := .refl
  trans := .trans
  inert hi := ⟨_, .of_inert hi⟩
  filter s f := ⟨_, .of_same rfl (State.occupants_congr (fun z => by cases z <;> rfl) rfl rfl rfl rfl rfl rfl)
    (by funext z; cases z <;> rfl) rfl rfl⟩
  divert s t := (Removed.divertUnconfirmed s t).thinned
  withdraw s which := ⟨_, .of_stations rfl fun a => by
    obtain ⟨os, hos, hst⟩ := (Trimmed.withdrawGateOrders s which).station a
    rw [hst]
    exact hos.subset⟩
  setStation {s a st} hst := ⟨_, .of_stations rfl fun b => by
    rw [State.station_setStation]
    split
    · next h => subst h; exact hst.subset
    · exact List.Subset.refl _⟩
  setLink {s l} hl := ⟨_, .of_frame (fun _ => rfl)
    (State.occupants_congr (fun z => by cases z <;> rfl) rfl rfl rfl rfl rfl rfl) (fun z h => by cases z <;> exact h)
    (by
      rcases hl with hl | hl
      · exact le_max_of_le_left hl
      · exact le_max_of_le_right (le_of_eq (congrArg List.length hl)))
    fun _ _ _ h => h⟩
  endFlight s := ⟨_, .of_same rfl (State.occupants_congr (fun z => by cases z <;> rfl) rfl rfl rfl rfl rfl rfl)
    (by funext z; cases z <;> rfl) rfl rfl⟩

theorem mem_piecesOf {s : State} {z : Zone} {t : Tag} :
    t ∈ s.piecesOf z ↔ ∃ pl : Place, pl.owner = some z ∧ t ∈ s.occupants pl := by
  constructor
  · intro h
    cases z with
    | z3 =>
      simp only [State.piecesOf, List.mem_filterMap, id, exists_eq_right, Vector.mem_toList_iff] at h
      obtain ⟨i, hi, e⟩ := Vector.mem_iff_getElem.1 h
      exact ⟨.press ⟨i, hi⟩, rfl, by simp [State.occupants, e]⟩
    | z1 =>
      rcases List.mem_append.1 h with h | h
      · exact ⟨.conveyor .z1, rfl, h⟩
      · exact ⟨.casingSlot, rfl, h⟩
    | z2 =>
      rcases List.mem_append.1 h with h | h
      · exact ⟨.conveyor .z2, rfl, h⟩
      · exact ⟨.pressEntry, rfl, h⟩
    | z4 =>
      rcases List.mem_append.1 h with h | h
      · exact ⟨.conveyor .z4, rfl, h⟩
      · exact ⟨.jacketingSlot, rfl, h⟩
    | z5 =>
      rcases List.mem_append.1 h with h | h
      · exact ⟨.conveyor .z5, rfl, h⟩
      · exact ⟨.gateQueue, rfl, h⟩
  · rintro ⟨pl, hpl, h⟩
    cases pl with
    | conveyor y => cases y <;> cases hpl <;> exact List.mem_append_left _ h
    | press i =>
      cases hpl
      simp only [State.occupants, Option.mem_toList] at h
      simp only [State.piecesOf, List.mem_filterMap, id, exists_eq_right, Vector.mem_toList_iff]
      exact h ▸ Vector.getElem_mem i.isLt
    | lost => cases hpl
    | _ => cases hpl; exact List.mem_append_right _ h

theorem emptied_iff (s : State) (z : Zone) : Emptied s z ↔ s.piecesOf z = [] := by
  constructor
  · intro h
    refine List.eq_nil_iff_forall_not_mem.2 fun t ht => ?_
    obtain ⟨pl, hpl, hin⟩ := mem_piecesOf.1 ht
    simp [h pl hpl] at hin
  · intro h pl hpl
    refine List.eq_nil_iff_forall_not_mem.2 fun t ht => ?_
    have := mem_piecesOf.2 ⟨pl, hpl, ht⟩
    simp [h] at this

theorem noGateOrder_withdraw (s : State) : NoGateOrder (s.withdrawGateOrders fun _ _ => true) := by
  intro a o t h
  simp only [State.station, State.withdrawGateOrders, Fin.getElem_fin, Vector.getElem_map, List.mem_filter] at h
  simp at h

/-- R43, R154: entry into RESET. -/
theorem ThinnedBy.enterReset (s : State) {z : Zone} (hz : s.mode z ≠ .reset) :
    ThinnedBy (s.piecesOf z) s (s.enterReset z) := by
  have hr := Removed.retireAll (s.setMode z .reset) .spoiled (s.piecesOf z)
  have hframe : ∃ w, s.enterReset z = w ∧ w.pool = ((s.setMode z .reset).retireAll .spoiled (s.piecesOf z)).pool ∧
      w.occupants = ((s.setMode z .reset).retireAll .spoiled (s.piecesOf z)).occupants ∧
      w.mode = (s.setMode z .reset).mode ∧ w.link = s.link ∧
      (∀ a, (w.station a).orders ⊆ (s.station a).orders) ∧ (z = .z5 → NoGateOrder w) := by
    have hmode : ((s.setMode z .reset).retireAll .spoiled (s.piecesOf z)).mode = (s.setMode z .reset).mode := by
      rw [hr.frame]; funext y; cases y <;> rfl
    have hlink : ((s.setMode z .reset).retireAll .spoiled (s.piecesOf z)).link = s.link := by
      rw [hr.frame]; cases z <;> rfl
    have hst : ∀ a, (((s.setMode z .reset).retireAll .spoiled (s.piecesOf z)).station a).orders ⊆ (s.station a).orders := by
      intro a
      rw [hr.station a]
      cases z <;> exact List.filter_subset_self _
    unfold State.enterReset
    rw [if_neg hz]
    generalize (s.setMode z .reset).retireAll .spoiled (s.piecesOf z) = w at *
    refine ⟨_, rfl, ?_⟩
    cases z with
    | z5 =>
      refine ⟨rfl, State.occupants_congr (fun z => by cases z <;> rfl) rfl rfl rfl rfl rfl rfl, hmode, hlink,
        fun a => ?_, fun _ => noGateOrder_withdraw w⟩
      obtain ⟨os, hos, hwst⟩ := (Trimmed.withdrawGateOrders w fun _ _ => true).station a
      dsimp only
      rw [hwst]
      exact List.Subset.trans hos.subset (hst a)
    | _ =>
      exact ⟨rfl, State.occupants_congr (fun z => by cases z <;> rfl) rfl rfl rfl rfl rfl rfl, hmode, hlink,
        hst, by simp⟩
  obtain ⟨w, e, hpool, hocc, hmode, hlink, horders, hnone⟩ := hframe
  rw [e]
  have hpiece : (s.setMode z .reset).piece = s.piece := State.piece_congr (by cases z <;> rfl)
  have hsocc : (s.setMode z .reset).occupants = s.occupants :=
    State.occupants_congr (fun y => by cases z <;> cases y <;> rfl) (by cases z <;> rfl) (by cases z <;> rfl)
      (by cases z <;> rfl) (by cases z <;> rfl) (by cases z <;> rfl) (by cases z <;> rfl)
  have hwocc : ∀ pl, w.occupants pl = (s.occupants pl).filter (· ∉ s.piecesOf z) := fun pl => by
    rw [hocc, hr.thinnedBy.occupants, hsocc]
  refine ⟨fun v => ?_, hwocc, fun y hy => ?_, by rw [hlink]; omega, fun a o v h => horders a h⟩
  · rw [State.piece_congr hpool, hr.piece, hpiece]
    split <;> rfl
  · rw [hmode, State.mode_setMode] at hy
    split at hy
    · next hyz =>
      subst hyz
      refine .inr ⟨fun pl hpl => ?_, hnone⟩
      rw [hwocc]
      exact List.filter_eq_nil_iff.2 fun v hv => by simpa using mem_piecesOf.2 ⟨pl, hpl, hv⟩
    · exact .inl hy

end Sys2Proof.Machine
end

section
/-! SUPPORT. O56: laws of the line over every command and every step. -/

namespace Sys2Proof.Machine

open Sys2Proof.Safety

/-- The states agree in their places, records, modes, orders and the receiver's buffer. -/
def SamePlaces (s u : State) : Prop :=
  u = { s with
    timeBase := u.timeBase
    admissionCounter := u.admissionCounter
    jobs := u.jobs
    copyTables := u.copyTables
    classTable := u.classTable
    filter := u.filter
    press := { u.press with positions := s.press.positions }
    z1 := { u.z1 with queue := s.z1.queue, mode := s.z1.mode }
    z2 := { u.z2 with queue := s.z2.queue, mode := s.z2.mode }
    z4 := { u.z4 with queue := s.z4.queue, mode := s.z4.mode }
    z5 := { u.z5 with queue := s.z5.queue, mode := s.z5.mode }
    casingMismatch := u.casingMismatch
    jacketingMismatch := u.jacketingMismatch
    gateInFlight := u.gateInFlight
    link := { u.link with buffer := s.link.buffer }
    check := u.check
    flags := u.flags
    enables := u.enables
    lamps := u.lamps
    response := u.response
    clockedOut := u.clockedOut
    pending := u.pending }

theorem SamePlaces.thinnedBy {s u : State} (h : SamePlaces s u) : ThinnedBy [] s u :=
  .of_same (by rw [h])
    (State.occupants_congr (fun z => by rw [h]; cases z <;> rfl) (by rw [h]) (by rw [h]) (by rw [h]) (by rw [h])
      (by rw [h]) (by rw [h]))
    (by rw [h]; funext z; cases z <;> rfl) (by rw [h]) (by rw [h])

namespace LineLaw

variable {Q : List Tag → State → Prop} (law : LineLaw Q) {s u : State} {t : Tag}

include law

/-! ### Reports -/

theorem leaveCasing (hc : s.casing = some t) (h : Q [] s) : Q [] (s.leaveCasing t) :=
  law.handOver (law.take (takenFrom_casing hc) h) .z2

theorem leaveJacketing (hc : s.jacketing = some t) (h : Q [] s) : Q [] (s.leaveJacketing t) :=
  law.handOver (law.take (takenFrom_jacketing hc) h) .z5

theorem settleCasing (hc : s.casing = some t) {f : Piece → Piece} (hf : ∀ p, (f p).spot = p.spot) (h : Q [] s) :
    Q [] ((s.updatePiece t f).leaveCasing t) :=
  law.leaveCasing (by simpa using hc) (law.same (ThinnedBy.updatePiece s t hf) h)

theorem settleJacketing (hc : s.jacketing = some t) {f : Piece → Piece} (hf : ∀ p, (f p).spot = p.spot) (h : Q [] s) :
    Q [] ((s.updatePiece t f).leaveJacketing t) :=
  law.leaveJacketing (by simpa using hc) (law.same (ThinnedBy.updatePiece s t hf) h)

theorem passCaseMismatch (hc : s.casing = some t) (h : Q [] s) : Q [] (s.passCaseMismatch t) :=
  law.leaveCasing (by simpa using hc) (law.same (ThinnedBy.raise _ _) (law.same
    (ThinnedBy.updatePiece s t fun p => (p.addFault .caseMismatch).spot_settleCase _) h))

theorem passJacketMismatch (hc : s.jacketing = some t) (h : Q [] s) : Q [] (s.passJacketMismatch t) :=
  law.leaveJacketing (by simpa using hc) (law.same (ThinnedBy.raise _ _) (law.same
    (ThinnedBy.updatePiece s t fun p => (p.addFault .jacketMismatch).spot_settleJacket _) h))

theorem caseScan (h : Q [] s) (code : Word24) (refeed : Bool) : Q [] (s.caseScan code refeed).2 := by
  unfold State.caseScan
  split
  · exact h
  · next t ht =>
    split
    · exact h
    · split
      · exact h
      · split
        · exact law.settleCasing ht (fun p => p.spot_settleCase _) h
        · unfold State.judgeCase
          split
          · exact law.passCaseMismatch ht h
          · split
            · exact law.settleCasing ht (fun p => p.spot_settleCase _) h
            · split
              · exact law.same (ThinnedBy.of_inert rfl) h
              · exact law.passCaseMismatch ht h

theorem jacketScan (h : Q [] s) (code : Word24) (copy : Word16) (refeed copyRead : Bool) :
    Q [] (s.jacketScan code copy refeed copyRead).2 := by
  unfold State.jacketScan
  split
  · exact h
  · next t ht =>
    split
    · exact h
    · split
      · exact h
      · split
        · exact law.leaveJacketing ht h
        · split
          · exact law.settleJacketing ht (fun p => p.spot_settleJacket _) h
          · unfold State.judgeJacket
            split
            · exact law.passJacketMismatch ht h
            · split
              · exact law.settleJacketing ht (fun p => p.spot_acceptJacket _) h
              · split
                · exact law.same (ThinnedBy.of_inert rfl) h
                · exact law.passJacketMismatch ht h

theorem admitted {p : Piece} (found : Option (JobSlot × Job)) (hopen : OpenPlace s (.conveyor .z1))
    (ht : s.piece t = none) (hp : p.limits = none) (h : Q [] s) : Q [] (s.admitted t p found) := by
  have hadmit := law.newRecord ht hp h
  unfold State.admitted
  have hframe : ThinnedBy [] (s.setPiece t (some p))
      (State.enterJob { s.setPiece t (some p) with admissionCounter := s.admissionCounter + 1 } found p) := by
    rw [State.enterJob_frame]
    exact .of_same rfl (State.occupants_congr (fun z => by cases z <;> rfl) rfl rfl rfl rfl rfl rfl)
      (by funext z; cases z <;> rfl) rfl rfl
  refine law.put (putInto_joinQueue _ .z1 t) ?_ (law.same hframe hadmit)
  rw [State.enterJob_frame]
  exact hopen

theorem blockScan (h : Q [] s) (measured : Bool) (key : Word32) (copy thickness : Word16) :
    Q [] (s.blockScan measured key copy thickness).2 := by
  unfold State.blockScan
  split
  · exact h
  · next hmode =>
    split
    · exact h
    · next hroom =>
      split
      · exact law.same (ThinnedBy.raise s _) h
      · next t ht =>
        split
        · exact h
        · refine law.admitted _ ⟨?_, by simp only [Roomy, State.conveyor]; omega⟩ (State.lowestFree_some ht) rfl h
          rintro _ ⟨⟩
          have hrun : s.z1.mode = .run := by simpa using hmode
          change s.z1.mode ≠ .reset
          rw [hrun]
          decide

theorem keptByReports : KeptByReports (Q []) (Q []) where
  weaken h := h
  announce _ _ _ h := law.of_thinned (roleMoves_thinned.announce _ _ _ _) h
  blockScan _ _ _ _ h := law.blockScan h _ _ _ _
  caseScan _ _ h := law.caseScan h _ _
  jacketScan _ _ _ _ h := law.jacketScan h _ _ _ _
  takeTemp _ h := law.of_thinned (roleMoves_thinned.filter _ _) h
  sendFrame _ _ _ h := law.of_thinned (roleMoves_thinned.sendFrame _ _ _ _) h

theorem confirmFlight (h : Q [] s) : Q [] s.confirmFlight := by
  have hend : Q [] { s with gateInFlight := none } := law.of_thinned (roleMoves_thinned.endFlight s) h
  unfold State.confirmFlight
  split
  · exact h
  · dsimp only
    split
    · exact law.of_thinned (Removed.retire _ _ _).thinned hend
    · exact hend

theorem keptByLink : KeptByLink (Q []) (Q []) :=
  roleMoves_thinned.keptByLink law.of_thinned id (fun hi => law.of_thinned (roleMoves_thinned.inert hi))
    (fun hl => law.of_thinned (roleMoves_thinned.setLink hl)) (fun a => law.of_thinned (roleMoves_thinned.markPresent _ a))
    law.confirmFlight law.keptByReports

/-! ### Commands and events -/

theorem samePlaces (h : Q [] s) (hu : SamePlaces s u) : Q [] u := law.same hu.thinnedBy h

theorem keptByOps : KeptByOps (Q []) where
  inert hi h := law.same (.of_inert hi) h
  checkEnds _ _ h := law.samePlaces h rfl
  powerOn {s} time asserted h := by
    obtain ⟨press, hpositions, e⟩ := s.poweredOn_eq time asserted
    rw [e]
    refine law.start (fun v => by simp [State.piece, State.reset]) (fun pl => ?_) (fun a o t => ?_) rfl h
    · cases pl with
      | conveyor z => cases z <;> rfl
      | press i => simp [State.occupants, hpositions, State.reset, Press.powerOn]
      | _ => rfl
    · simp [State.station, State.reset, Station.powerOn]
  bindJob r _ _ _ _ _ h := law.samePlaces h (by rcases r with - | ⟨_, _, _⟩ <;> rfl)
  restateJob _ _ h := law.samePlaces h rfl
  emptyJob _ _ h := by
    rw [State.emptyJob_frame]
    exact law.samePlaces h rfl
  filter _ h := law.of_thinned (roleMoves_thinned.filter _ _) h
  timers hpr h := law.samePlaces h (by unfold SamePlaces; rw [← hpr])
  heated hf h := law.same (ThinnedBy.updatePieces _ _ hf.spot) h
  offerJawRelease {s} h := by
    unfold State.offerJawRelease
    split
    · exact h
    · next a _ =>
      dsimp only
      split
      · have hoffer : ThinnedBy [] s (s.setStation a
            { s.station a with orders := (s.station a).orders ++ [Order.jawRelease] }) := by
          refine .of_frame (fun _ => rfl)
            (State.occupants_congr (fun z => by cases z <;> rfl) rfl rfl rfl rfl rfl rfl)
            (fun z hz => by cases z <;> exact hz) (le_max_right _ _) fun b o v hin => ?_
          rw [State.station_setStation] at hin
          split at hin
          · next hb =>
            subst hb
            simpa using hin
          · exact hin
        exact law.same hoffer h
      · exact h
  discharge h := law.discharge h
  shiftPress h0 h := law.shift h0 h
  enterPress h0 h := law.enterPress h0 h
  travel {s z c} hm hq h := law.samePlaces h (by
    unfold SamePlaces
    cases z <;> simp only [State.conveyor] at hm hq <;> rw [← hm, ← hq] <;> rfl)
  setMode hm h := law.same (.setMode _ _ hm) h
  enterReset {s} z h := by
    by_cases hz : s.mode z = .reset
    · rwa [State.enterReset, if_pos hz]
    · exact law.of_thinned ⟨_, .enterReset s hz⟩ h
  spoil t h := law.of_thinned (Removed.retire _ _ _).thinned h
  loseHead hq h := law.lose (law.take (takenFrom_head hq) h)
  arrive {s z t rest} hm hq h := by
    refine law.arrive (law.take (takenFrom_head hq) h) z ?_
    rwa [State.conveyor_setConveyor, if_pos rfl]
  returnTo hlost _ hmode hroom h := law.returnTo hlost hmode hroom h
  latch a _ h := law.of_thinned (roleMoves_thinned.setStation (by exact .refl _)) h
  sendPoll {s} hc hex h := by
    unfold State.sendPoll
    rw [if_pos ⟨hc, hex⟩]
    have hcarried := law.of_thinned (roleMoves_thinned.setStation (s := s) (a := s.link.next)
      (st := { s.station s.link.next with orders := (s.station s.link.next).orders.tail }) (List.tail_sublist _)) h
    have hflight := law.samePlaces (u := { s.setStation s.link.next { s.station s.link.next with
      orders := (s.station s.link.next).orders.tail } with
        gateInFlight := s.flightOf (s.station s.link.next).orders.head? }) hcarried rfl
    have hsent := law.of_thinned (roleMoves_thinned.sendFrame _ s.link.next kindPoll
      (pollPayload (s.station s.link.next) (s.station s.link.next).orders.head?)) hflight
    exact law.samePlaces hsent rfl

end LineLaw

end Sys2Proof.Machine
end

section
/-! SUPPORT. O56: places, empty RESET zones, capacities and limits meet the law of the line. -/

namespace Sys2Proof.Machine

open Sys2Proof.Safety

/-! ### The shift of the press -/

theorem toList_shiftedPositions (v : Vector (Option Tag) 12) :
    (shiftedPositions v).toList = none :: v.toList.dropLast := by
  apply List.ext_getElem
  · simp
  · intro i h1 h2
    cases i with
    | zero => simp [shiftedPositions]
    | succ n => simp [shiftedPositions]

theorem filterMap_shiftedPositions {v : Vector (Option Tag) 12} (h : v[11] = none) :
    (shiftedPositions v).toList.filterMap id = v.toList.filterMap id := by
  have hlast : v.toList = v.toList.dropLast ++ [none] := by
    have hne : v.toList ≠ [] := by simp
    have := List.dropLast_append_getLast hne
    rw [List.getLast_eq_getElem] at this
    simpa [h] using this.symm
  rw [toList_shiftedPositions]
  conv_rhs => rw [hlast]
  simp

theorem State.piece_shiftPress (s : State) (t : Tag) :
    s.shiftPress.piece t = if t ∈ s.press.positions.toList.filterMap id then (s.piece t).map Piece.shifted
      else s.piece t := by
  have hpool : s.shiftPress.pool = (s.updatePieces (s.press.positions.toList.filterMap id) Piece.shifted).pool := by
    simp only [State.shiftPress]
  rw [State.piece_congr hpool, State.piece_updatePieces]

theorem State.positions_shiftPress (s : State) : s.shiftPress.press.positions = shiftedPositions s.press.positions := by
  simp [State.shiftPress]

theorem State.occupants_shiftPress {s : State} {pl : Place} (hpl : ∀ i, pl ≠ .press i) :
    s.shiftPress.occupants pl = s.occupants pl := by
  cases pl with
  | press i => exact absurd rfl (hpl i)
  | conveyor z => cases z <;> simp [State.occupants, State.conveyor]
  | _ => simp [State.occupants]

theorem Piece.shifted_frame (p : Piece) : p.shifted = { p with place := p.shifted.place } := by
  unfold Piece.shifted
  split <;> rfl

theorem Piece.place_shifted {p : Piece} {i : Fin 12} (h : p.place = .press i) (hi : i.val < 11) :
    p.shifted.place = .press (i + 1) := by
  simp [Piece.shifted, h, hi]

theorem mem_positions {s : State} {t : Tag} {i : Fin 12} :
    t ∈ s.occupants (.press i) → t ∈ s.press.positions.toList.filterMap id := by
  intro h
  have : s.press.positions[i] = some t := by simpa [State.occupants] using h
  simp only [List.mem_filterMap, id, exists_eq_right, Vector.mem_toList_iff]
  exact this ▸ Vector.getElem_mem i.isLt

theorem exists_of_mem_positions {s : State} {t : Tag} (h : t ∈ s.press.positions.toList.filterMap id) :
    ∃ i, t ∈ s.occupants (.press i) := by
  simp only [List.mem_filterMap, id, exists_eq_right, Vector.mem_toList_iff] at h
  obtain ⟨i, hi, e⟩ := Vector.mem_iff_getElem.1 h
  exact ⟨⟨i, hi⟩, by simp [State.occupants, e]⟩

theorem InHand.shiftPress {s : State} (h11 : s.press.positions[11] = none) (h : InHand [] s) :
    InHand [] s.shiftPress := by
  have hpiece := s.piece_shiftPress
  have hpositions := s.positions_shiftPress
  have hocc : ∀ {pl}, (∀ i, pl ≠ .press i) → s.shiftPress.occupants pl = s.occupants pl := State.occupants_shiftPress
  have htimes : ∀ t, timesPlaced s.shiftPress t = timesPlaced s t := fun t => by
    simp only [timesPlaced, State.positions_shiftPress, filterMap_shiftedPositions h11]
    simp
  generalize s.shiftPress = u at *
  rw [inHand_nil_iff, placesAgree_iff] at h ⊢
  intro t
  cases hp : s.piece t with
  | none =>
    have h0 := h t
    simp only [PlaceAgrees, hp] at h0
    exact placeAgrees_of_none (by rw [hpiece, hp]; simp) ((htimes t).trans h0)
  | some p =>
    obtain ⟨h1, hin, hcount, hlim⟩ := PlaceAgrees.elim (h t) hp
    by_cases hpress : ∃ i, p.place = .press i
    · obtain ⟨i, hi⟩ := hpress
      rw [hi] at hin
      have hne : i.val < 11 := by
        by_contra hge
        have : i = 11 := Fin.ext (by have := i.isLt; simp; omega)
        subst this
        have h11' : s.press.positions[(11 : Fin 12)] = none := h11
        simp [State.occupants, h11'] at hin
      have hmoved : u.piece t = some p.shifted := by
        rw [hpiece, if_pos (mem_positions hin), hp]
        rfl
      have hplace := Piece.place_shifted hi hne
      refine placeAgrees_of_some hmoved ((htimes t).trans h1) ?_ ?_ fun _ => ?_
      · have hsucc : (i + 1 : Fin 12).val = i.val + 1 := by
          rw [Fin.val_add]
          exact Nat.mod_eq_of_lt (by simp; omega)
        rw [hplace]
        simp only [State.occupants, hpositions, Fin.getElem_fin, hsucc]
        simpa [shiftedPositions, State.occupants] using hin
      · rw [Piece.shifted_frame]
        simpa [hplace, hi] using hcount
      · rw [Piece.shifted_frame]
        exact hlim ⟨i, hi⟩
    · have hout : t ∉ s.press.positions.toList.filterMap id := fun hmem => by
        obtain ⟨i, hi⟩ := exists_of_mem_positions hmem
        exact hpress ⟨i, (eq_of_mem_occupants h1.le hin hi).symm⟩
      refine placeAgrees_of_some (p := p) (by rw [hpiece, if_neg hout, hp]) ((htimes t).trans h1) ?_ hcount hlim
      rw [hocc fun i hi => hpress ⟨i, hi⟩]
      exact hin

/-! ### Places alone -/

theorem InHand.newRecord {s : State} {t : Tag} (p : Piece) (ht : s.piece t = none) (h : InHand [] s) :
    InHand [t] (s.setPiece t (some p)) where
  nodup := List.nodup_singleton t
  inUse v hv := by
    obtain rfl : v = t := by simpa using hv
    simp [State.piece_setPiece]
  nowhere v hv := by
    obtain rfl : v = t := by simpa using hv
    have h0 := h.others v (by simp)
    simp only [PlaceAgrees, ht] at h0
    exact h0
  others v hv := by
    have hvt : v ≠ t := by simpa using hv
    exact (h.others v (by simp)).congr (by rw [State.piece_setPiece, if_neg hvt]) fun pl => by
      rw [State.occupants_setPiece]

theorem placesAgree_of_empty {u : State} (hp : ∀ v, u.piece v = none) (ho : ∀ pl, u.occupants pl = []) :
    PlacesAgree u :=
  (placesAgree_iff u).2 fun t => placeAgrees_of_none (hp t) (by simp [timesPlaced_eq_sum, ho])

theorem lineLaw_inHand : LineLaw InHand where
  inHand h := h
  thinned g h := h.thinnedBy g
  take g h := h.take g
  put g _ h := h.put g
  shift h11 h := h.shiftPress h11
  newRecord ht _ h := h.newRecord _ ht
  start hp ho _ _ _ := (inHand_nil_iff _).2 (placesAgree_of_empty hp ho)

/-! ### Places with RESET zones, capacities and limits -/

theorem resetZonesEmpty_iff (s : State) :
    ResetZonesEmpty s ↔ (∀ z, s.mode z = .reset → Emptied s z) ∧ (s.mode .z5 = .reset → NoGateOrder s) := by
  simp only [ResetZonesEmpty, emptied_iff]
  exact Iff.rfl

theorem ResetZonesEmpty.thinnedBy {ks : List Tag} {s u : State} (g : ThinnedBy ks s u) (h : ResetZonesEmpty s) :
    ResetZonesEmpty u := by
  obtain ⟨hempty, hnone⟩ := (resetZonesEmpty_iff s).1 h
  refine (resetZonesEmpty_iff u).2 ⟨fun z hz => ?_, fun hz => ?_⟩
  · rcases g.mode z hz with hs | he
    · intro pl hpl
      rw [g.occupants, hempty z hs pl hpl]
      rfl
    · exact he.1
  · rcases g.mode .z5 hz with hs | he
    · exact fun a o t hin => hnone hs a o t (g.orders a o t hin)
    · exact he.2 rfl

theorem ResetZonesEmpty.of_elsewhere {s u : State} {pl : Place} (h : ResetZonesEmpty s) (hmode : u.mode = s.mode)
    (helse : ∀ q, q ≠ pl → u.occupants q = s.occupants q) (hhere : u.occupants pl ⊆ s.occupants pl ∨
      ∀ z, pl.owner = some z → s.mode z ≠ .reset)
    (horders : ∀ a o v, Order.gate o v ∈ (u.station a).orders → Order.gate o v ∈ (s.station a).orders ∨
      s.mode .z5 ≠ .reset) : ResetZonesEmpty u := by
  obtain ⟨hempty, hnone⟩ := (resetZonesEmpty_iff s).1 h
  refine (resetZonesEmpty_iff u).2 ⟨fun z hz q hq => ?_, fun hz a o v hin => ?_⟩
  · rw [hmode] at hz
    by_cases hqp : q = pl
    · subst hqp
      rcases hhere with hsub | hopen
      · rw [hempty z hz q hq] at hsub
        exact List.subset_nil.1 hsub
      · exact absurd hz (hopen z hq)
    · rw [helse q hqp, hempty z hz q hq]
  · rw [hmode] at hz
    rcases horders a o v hin with hs | hopen
    · exact hnone hz a o v hs
    · exact hopen hz

/-- R39, R147: how many pieces a place may hold. -/
def Place.room : Place → Option Nat
  | .conveyor z => some z.capacity
  | .gateQueue => some gateCapacity
  | _ => none

theorem withinCapacity_iff (s : State) :
    WithinCapacity s ↔ (∀ pl n, pl.room = some n → (s.occupants pl).length ≤ n) ∧ s.link.buffer.length ≤ 38 := by
  constructor
  · rintro ⟨hz, hg, hb⟩
    refine ⟨fun pl n hn => ?_, hb⟩
    cases pl <;> cases hn
    · exact hz _
    · exact hg
  · rintro ⟨hpl, hb⟩
    exact ⟨fun z => hpl (.conveyor z) _ rfl, hpl .gateQueue _ rfl, hb⟩

theorem roomy_iff (s : State) (pl : Place) : Roomy s pl ↔ ∀ n, pl.room = some n → (s.occupants pl).length < n := by
  cases pl <;> simp [Roomy, Place.room, State.occupants]

/-- R18, R39: pieces that go leave the queues within their capacities. -/
theorem WithinCapacity.thinnedBy {ks : List Tag} {s u : State} (g : ThinnedBy ks s u) (h : WithinCapacity s) :
    WithinCapacity u := by
  obtain ⟨hroom, hbuffer⟩ := (withinCapacity_iff s).1 h
  refine (withinCapacity_iff u).2 ⟨fun pl n hn => ?_, by have := g.buffer; omega⟩
  rw [g.occupants]
  exact (List.length_filter_le _ _).trans (hroom pl n hn)

theorem WithinCapacity.take {s u : State} {pl : Place} {t : Tag} (g : TakenFrom pl t s u) (h : WithinCapacity s) :
    WithinCapacity u := by
  obtain ⟨hroom, hbuffer⟩ := (withinCapacity_iff s).1 h
  refine (withinCapacity_iff u).2 ⟨fun q n hn => ?_, by rw [g.buffer]; exact hbuffer⟩
  by_cases hq : q = pl
  · subst hq
    have hperm : (s.occupants q).Perm (t :: u.occupants q) :=
      List.perm_iff_count.2 fun v => by rw [count_cons_ite]; exact g.here v
    have := hperm.length_eq
    have := hroom q n hn
    simp at *
    omega
  · rw [g.elsewhere q hq]
    exact hroom q n hn

theorem WithinCapacity.put {s u : State} {pl : Place} {t : Tag} (g : PutInto pl t s u) (hopen : Roomy s pl)
    (h : WithinCapacity s) : WithinCapacity u := by
  obtain ⟨hroom, hbuffer⟩ := (withinCapacity_iff s).1 h
  refine (withinCapacity_iff u).2 ⟨fun q n hn => ?_, by rw [g.buffer]; exact hbuffer⟩
  by_cases hq : q = pl
  · subst hq
    have hperm : (u.occupants q).Perm (t :: s.occupants q) :=
      List.perm_iff_count.2 fun v => by rw [count_cons_ite]; exact g.here v
    have := hperm.length_eq
    have := (roomy_iff s q).1 hopen n hn
    simp at *
    omega
  · rw [g.elsewhere q hq]
    exact hroom q n hn

theorem WithinCapacity.shiftPress {s : State} (h : WithinCapacity s) : WithinCapacity s.shiftPress := by
  obtain ⟨hroom, hbuffer⟩ := (withinCapacity_iff s).1 h
  refine (withinCapacity_iff _).2 ⟨fun pl n hn => ?_, by simpa using hbuffer⟩
  cases pl with
  | press i => cases hn
  | _ =>
    rw [State.occupants_shiftPress (by simp)]
    exact hroom _ n hn

theorem withinCapacity_of_empty {u : State} (ho : ∀ pl, u.occupants pl = []) (hb : u.link.buffer = []) :
    WithinCapacity u :=
  (withinCapacity_iff u).2 ⟨fun pl n _ => by simp [ho], by simp [hb]⟩

theorem dwellLimits_legal (f : Filter) (r : ClassRecord) (n : Nat) :
    100 ≤ (dwellLimits f r n).dmin ∧ (dwellLimits f r n).dmin ≤ 60000 ∧
      (dwellLimits f r n).dmin + 200 ≤ (dwellLimits f r n).dmax ∧ (dwellLimits f r n).dmax ≤ 65000 := by
  simp only [dwellLimits, minDwell, maxDwell]
  omega

theorem DwellLimitsLegal.of_limits {s u : State} (h : DwellLimitsLegal s)
    (hu : ∀ v q l, u.piece v = some q → q.limits = some l →
      (∃ p, s.piece v = some p ∧ p.limits = some l) ∨ ∃ f r n, l = dwellLimits f r n) : DwellLimitsLegal u := by
  intro v q l hq hl
  rcases hu v q l hq hl with ⟨p, hp, hpl⟩ | ⟨f, r, n, rfl⟩
  · exact h v p l hp hpl
  · exact dwellLimits_legal f r n

theorem limits_of_spot {o o' : Option Piece} (h : o'.map Piece.spot = o.map Piece.spot) {q : Piece}
    (hq : o' = some q) : ∃ p, o = some p ∧ p.limits = q.limits := by
  subst hq
  obtain ⟨p, hp, e⟩ := Option.map_eq_some_iff.1 h.symm
  exact ⟨p, hp, by simpa [Piece.spot] using congrArg (·.2.2) e⟩

/-- The line between moves: places, RESET zones, capacities and limits. -/
structure LineSound (ts : List Tag) (s : State) : Prop where
  inHand : InHand ts s
  resets : ResetZonesEmpty s
  capacity : WithinCapacity s
  limits : DwellLimitsLegal s

theorem lineSound_nil_iff (s : State) :
    LineSound [] s ↔ PlacesAgree s ∧ ResetZonesEmpty s ∧ WithinCapacity s ∧ DwellLimitsLegal s :=
  ⟨fun h => ⟨(inHand_nil_iff s).1 h.inHand, h.resets, h.capacity, h.limits⟩,
    fun ⟨h1, h2, h3, h4⟩ => ⟨(inHand_nil_iff s).2 h1, h2, h3, h4⟩⟩

theorem LineSound.thinnedBy {ts ks : List Tag} {s u : State} (g : ThinnedBy ks s u) (h : LineSound ts s) :
    LineSound (ts.filter (· ∉ ks)) u where
  inHand := h.inHand.thinnedBy g
  resets := ResetZonesEmpty.thinnedBy g h.resets
  capacity := WithinCapacity.thinnedBy g h.capacity
  limits := by
    refine DwellLimitsLegal.of_limits h.limits fun v q l hq hl => .inl ?_
    have hpiece := g.piece v
    split at hpiece
    · simp [hq] at hpiece
    · obtain ⟨p, hp, e⟩ := limits_of_spot hpiece hq
      exact ⟨p, hp, e.trans hl⟩

theorem LineSound.take {ts : List Tag} {s u : State} {pl : Place} {t : Tag} (g : TakenFrom pl t s u)
    (h : LineSound ts s) : LineSound (t :: ts) u where
  inHand := h.inHand.take g
  resets := by
    refine ResetZonesEmpty.of_elsewhere h.resets g.mode g.elsewhere (.inl fun v hv => ?_) fun a o v hin => .inl ?_
    · have := g.here v
      have := List.count_pos_iff.2 hv
      exact List.count_pos_iff.1 (by omega)
    · rwa [State.station, ← g.stations]
  capacity := WithinCapacity.take g h.capacity
  limits := DwellLimitsLegal.of_limits h.limits fun v q l hq hl => .inl <| by
    obtain ⟨p, hp, e⟩ := limits_of_spot (g.pool v) hq
    exact ⟨p, hp, e.trans hl⟩

theorem LineSound.put {ts : List Tag} {s u : State} {pl : Place} {t : Tag} (g : PutInto pl t s u)
    (hopen : OpenPlace s pl) (h : LineSound (t :: ts) s) : LineSound ts u where
  inHand := h.inHand.put g
  resets := by
    refine ResetZonesEmpty.of_elsewhere h.resets g.mode g.elsewhere (.inr hopen.1) fun a o v hin => ?_
    rcases g.orders a o v hin with hs | hpl
    · exact .inl hs
    · subst hpl
      exact .inr (hopen.1 .z5 rfl)
  capacity := WithinCapacity.put g hopen.2 h.capacity
  limits := by
    refine DwellLimitsLegal.of_limits h.limits fun v q l hq hl => ?_
    by_cases hv : v = t
    · subst hv
      obtain ⟨p₀, hp₀⟩ := Option.isSome_iff_exists.1 (h.inHand.inUse v List.mem_cons_self)
      obtain ⟨p, hp, -, -, -, hlim⟩ := g.record p₀ hp₀
      obtain rfl : p = q := Option.some.inj (hp.symm.trans hq)
      rcases hlim with e | ⟨f, r, n, e⟩
      · exact .inl ⟨p₀, hp₀, e.symm.trans hl⟩
      · exact .inr ⟨f, r, n, Option.some.inj (hl.symm.trans e)⟩
    · obtain ⟨p, hp, e⟩ := limits_of_spot (g.pool v hv) hq
      exact .inl ⟨p, hp, e.trans hl⟩

theorem LineSound.shiftPress {s : State} (h11 : s.press.positions[11] = none) (h : LineSound [] s) :
    LineSound [] s.shiftPress := by
  obtain ⟨hempty, hnone⟩ := (resetZonesEmpty_iff s).1 h.resets
  have hmode : s.shiftPress.mode = s.mode := by
    funext z
    cases z <;> simp [State.mode]
  refine ⟨lineLaw_inHand.shift h11 h.inHand, (resetZonesEmpty_iff _).2 ⟨fun z hz => ?_, fun hz => ?_⟩,
    WithinCapacity.shiftPress h.capacity, ?_⟩
  · rw [hmode] at hz
    rw [emptied_iff]
    have hold := (emptied_iff s z).1 (hempty z hz)
    cases z with
    | z3 =>
      change (s.shiftPress.press.positions.toList.filterMap id) = []
      rw [State.positions_shiftPress, filterMap_shiftedPositions h11]
      exact hold
    | _ => simpa [State.piecesOf] using hold
  · rw [hmode] at hz
    intro a o t hin
    exact hnone hz a o t (by simpa [State.station] using hin)
  · refine DwellLimitsLegal.of_limits h.limits fun v q l hq hl => .inl ?_
    rw [State.piece_shiftPress] at hq
    split at hq
    · obtain ⟨p, hp, rfl⟩ := Option.map_eq_some_iff.1 hq
      rw [Piece.shifted_frame] at hl
      exact ⟨p, hp, hl⟩
    · exact ⟨q, hq, hl⟩

theorem LineSound.newRecord {s : State} {t : Tag} {p : Piece} (ht : s.piece t = none) (hp : p.limits = none)
    (h : LineSound [] s) : LineSound [t] (s.setPiece t (some p)) where
  inHand := h.inHand.newRecord p ht
  resets := h.resets
  capacity := h.capacity
  limits := DwellLimitsLegal.of_limits h.limits fun v q l hq hl => .inl <| by
    rw [State.piece_setPiece] at hq
    split at hq
    · cases hq
      simp [hp] at hl
    · exact ⟨q, hq, hl⟩

theorem lineSound_of_empty {u : State} (hp : ∀ v, u.piece v = none) (ho : ∀ pl, u.occupants pl = [])
    (hn : NoGateOrder u) (hb : u.link.buffer = []) : LineSound [] u where
  inHand := (inHand_nil_iff u).2 (placesAgree_of_empty hp ho)
  resets := (resetZonesEmpty_iff u).2 ⟨fun z _ pl _ => ho pl, fun _ => hn⟩
  capacity := withinCapacity_of_empty ho hb
  limits v p l hv := by simp [hp] at hv

theorem lineLaw_lineSound : LineLaw LineSound where
  inHand h := h.inHand
  thinned g h := h.thinnedBy g
  take g h := h.take g
  put g hopen h := h.put g hopen
  shift h11 h := h.shiftPress h11
  newRecord ht hp h := h.newRecord ht hp
  start hp ho hn hb _ := lineSound_of_empty hp ho hn hb

/-- Places, with the capacities where they are asked for. -/
theorem lineLaw_capacity (capped : Prop) : LineLaw fun ts s => InHand ts s ∧ (capped → WithinCapacity s) where
  inHand h := h.1
  thinned g h := ⟨h.1.thinnedBy g, fun hc => WithinCapacity.thinnedBy g (h.2 hc)⟩
  take g h := ⟨h.1.take g, fun hc => WithinCapacity.take g (h.2 hc)⟩
  put g hopen h := ⟨h.1.put g, fun hc => WithinCapacity.put g hopen.2 (h.2 hc)⟩
  shift h11 h := ⟨h.1.shiftPress h11, fun hc => WithinCapacity.shiftPress (h.2 hc)⟩
  newRecord ht _ h := ⟨h.1.newRecord _ ht, fun hc => h.2 hc⟩
  start hp ho _ hb _ := ⟨(inHand_nil_iff _).2 (placesAgree_of_empty hp ho), fun _ => withinCapacity_of_empty ho hb⟩

theorem LineSound.setPending {ts : List Tag} {s : State} (h : LineSound ts s) (l : List Instr) :
    LineSound ts { s with pending := l } := by
  simpa using h.thinnedBy (SamePlaces.thinnedBy (u := { s with pending := l }) rfl)

/-- Settles O56: the law of the line over every step. -/
theorem stepKeepsPlaces : Obligations.StepKeepsPlaces := by
  intro s t hplaces hresets hcapacity hlimits ht
  have hs := (lineSound_nil_iff s).2 ⟨hplaces, hresets, hcapacity, hlimits⟩
  exact (lineSound_nil_iff t).1
    (step_keeps (fun l h => h.setPending l) lineLaw_lineSound.keptByOps lineLaw_lineSound.keptByLink hs ht)

end Sys2Proof.Machine
end

section
/-! SUPPORT. The books of the jobs (R24, R33, R36, R76, R77): the counts of the records of a job, and what the
operations on records, jobs and copy tables do to them. -/

namespace Sys2Proof.Machine

open Sys2Proof.Safety

/-! ### Counting records -/

/-- How many in-use records have a property. -/
def State.countPieces (s : State) (f : Piece → Bool) : Nat := (List.finRange 96).countP fun t => (s.piece t).any f

theorem livePieces_eq (s : State) (j : JobSlot) : livePieces s j = s.countPieces (·.job == some j) := by
  unfold livePieces State.countPieces
  congr 1
  funext t
  cases s.piece t <;> rfl

/-- R76: the record carries a copy of a job as a clean block of it. -/
def Piece.carries (j : JobSlot) (copy : Nat) (p : Piece) : Bool :=
  p.job == some j && p.copy == some copy && p.faults &&& 0x000C == 0

theorem cleanCarriers_eq (s : State) (j : JobSlot) (copy : Nat) :
    cleanCarriers s j copy = s.countPieces (Piece.carries j copy) := by
  unfold cleanCarriers State.countPieces
  congr 1
  funext t
  cases s.piece t <;> rfl

/-- R36: the record is of a job and was admitted without OVER_QUANTITY. -/
def Piece.countsFor (j : JobSlot) (p : Piece) : Bool := p.job == some j && p.faults &&& 0x0002 == 0

theorem withinLimit_eq (s : State) (j : JobSlot) : withinLimit s j = s.countPieces (Piece.countsFor j) := by
  unfold withinLimit State.countPieces
  congr 1
  funext t
  cases s.piece t <;> rfl

theorem countP_of_eq_off {α : Type} {l : List α} (hl : l.Nodup) {a : α} (ha : a ∈ l) {f g : α → Bool}
    (hfg : ∀ b, b ≠ a → g b = f b) (hg : g a = false) : l.countP f = l.countP g + if f a then 1 else 0 := by
  induction l with
  | nil => simp at ha
  | cons b l ih =>
    obtain ⟨hb, hl⟩ := List.nodup_cons.1 hl
    by_cases hab : b = a
    · subst hab
      have : l.countP g = l.countP f := List.countP_congr fun c hc => by rw [hfg c (by rintro rfl; exact hb hc)]
      simp [List.countP_cons, this, hg]
    · have ha : a ∈ l := by simpa [Ne.symm hab] using ha
      simp only [List.countP_cons, hfg b hab, ih hl ha]
      omega

/-- A record that comes, or goes, counts once. -/
theorem State.countPieces_without {s u : State} {t : Tag} {p : Piece} (hs : s.piece t = some p)
    (hu : ∀ v, u.piece v = if v = t then none else s.piece v) (f : Piece → Bool) :
    s.countPieces f = u.countPieces f + if f p then 1 else 0 := by
  have h := countP_of_eq_off (List.nodup_finRange 96) (List.mem_finRange t) (f := fun v => (s.piece v).any f)
    (g := fun v => (u.piece v).any f) (fun v hv => by simp only [hu, if_neg hv]) (by simp [hu])
  simpa [State.countPieces, hs] using h

theorem State.countPieces_pos {s : State} {t : Tag} {p : Piece} (hs : s.piece t = some p) {f : Piece → Bool}
    (hf : f p = true) : 1 ≤ s.countPieces f :=
  List.countP_pos_iff.2 ⟨t, List.mem_finRange t, by simp [hs, hf]⟩

theorem State.countPieces_le (s : State) {f g : Piece → Bool} (h : ∀ p, f p = true → g p = true) :
    s.countPieces f ≤ s.countPieces g :=
  List.countP_mono_left fun t _ ht => by
    cases hp : s.piece t with
    | none => simp [hp] at ht
    | some p => simpa [hp] using h p (by simpa [hp] using ht)

theorem State.countPieces_none {s : State} (h : ∀ v, s.piece v = none) (f : Piece → Bool) : s.countPieces f = 0 := by
  simp [State.countPieces, h]

/-! ### What the books hold of a record -/

/-- The job of a record, its copy, and its faults of the copy and the quantity. -/
def Piece.tally (p : Piece) : Option JobSlot × Option Nat × FaultSet := (p.job, p.copy, p.faults &&& 0x000E)

theorem faults_of_tally {f g : FaultSet} (h : f &&& 0x000E = g &&& 0x000E) :
    f &&& 0x000C = g &&& 0x000C ∧ f &&& 0x0002 = g &&& 0x0002 := by
  constructor
  · have hc : ∀ x : FaultSet, x &&& 0x000C = x &&& 0x000E &&& 0x000C := fun x => by rw [BitVec.and_assoc]; rfl
    rw [hc f, hc g, h]
  · have hc : ∀ x : FaultSet, x &&& 0x0002 = x &&& 0x000E &&& 0x0002 := fun x => by rw [BitVec.and_assoc]; rfl
    rw [hc f, hc g, h]

/-- The property is one of the books. -/
def Tallied (f : Piece → Bool) : Prop := ∀ p q : Piece, p.tally = q.tally → f p = f q

theorem tallied_live (j : JobSlot) : Tallied (·.job == some j) := fun p q h => by
  simp only [Piece.tally, Prod.mk.injEq] at h
  simp only [h.1]

theorem tallied_carries (j : JobSlot) (copy : Nat) : Tallied (Piece.carries j copy) := fun p q h => by
  simp only [Piece.tally, Prod.mk.injEq] at h
  obtain ⟨hj, hc, hf⟩ := h
  simp only [Piece.carries, hj, hc, (faults_of_tally hf).1]

theorem tallied_countsFor (j : JobSlot) : Tallied (Piece.countsFor j) := fun p q h => by
  simp only [Piece.tally, Prod.mk.injEq] at h
  obtain ⟨hj, -, hf⟩ := h
  simp only [Piece.countsFor, hj, (faults_of_tally hf).2]

/-- The books of the states agree. -/
structure SameBooks (s u : State) : Prop where
  jobs : u.jobs = s.jobs
  copyTables : u.copyTables = s.copyTables
  tally : ∀ v, (u.piece v).map Piece.tally = (s.piece v).map Piece.tally

theorem SameBooks.refl (s : State) : SameBooks s s := ⟨rfl, rfl, fun _ => rfl⟩

theorem SameBooks.trans {s u w : State} (h : SameBooks s u) (g : SameBooks u w) : SameBooks s w :=
  ⟨g.jobs.trans h.jobs, g.copyTables.trans h.copyTables, fun v => (g.tally v).trans (h.tally v)⟩

theorem SameBooks.symm {s u : State} (h : SameBooks s u) : SameBooks u s :=
  ⟨h.jobs.symm, h.copyTables.symm, fun v => (h.tally v).symm⟩

theorem SameBooks.of_frame {s u : State} (hp : u.pool = s.pool) (hj : u.jobs = s.jobs)
    (hc : u.copyTables = s.copyTables) : SameBooks s u :=
  ⟨hj, hc, fun v => by rw [State.piece_congr hp]⟩

theorem SameBooks.job {s u : State} (h : SameBooks s u) : u.job = s.job := by
  funext j
  simp [State.job, h.jobs]

theorem SameBooks.countPieces {s u : State} (h : SameBooks s u) {f : Piece → Bool} (hf : Tallied f) :
    u.countPieces f = s.countPieces f := by
  unfold State.countPieces
  congr 1
  funext t
  have ht := h.tally t
  cases hs : s.piece t with
  | none =>
    rw [hs] at ht
    have hu : u.piece t = none := by simpa using ht
    simp [hu]
  | some p =>
    rw [hs] at ht
    obtain ⟨q, hq, e⟩ := Option.map_eq_some_iff.1 ht
    simp [hq, hf q p e]

/-! ### How a record changes -/

/-- R4, R5, R6, R8 to R11: what every change of a record in use keeps. -/
structure Evolved (p q : Piece) : Prop where
  admission : q.admission = p.admission
  job : q.job = p.job
  copy : q.copy = p.copy
  thickness : q.thickness = p.thickness
  cls : q.cls = p.cls
  limits : p.limits ≠ none → q.limits = p.limits
  accumulated : min 65535 p.accumulated ≤ q.accumulated
  caseStatus : p.caseStatus ≠ .pending → q.caseStatus = p.caseStatus
  jacketStatus : p.jacketStatus ≠ .pending → q.jacketStatus = p.jacketStatus
  jacketPending : p.jacketStatus = .pending → q.jacketStatus ≠ .notRequired
  copyVerified : p.copyVerified = true → q.copyVerified = true
  faults : p.faults &&& q.faults = p.faults
  copyFaults : q.faults &&& 0x000E = p.faults &&& 0x000E

theorem Evolved.refl (p : Piece) : Evolved p p :=
  ⟨rfl, rfl, rfl, rfl, rfl, fun _ => rfl, Nat.min_le_right _ _, fun _ => rfl, fun _ => rfl, fun h => by simp [h], id,
    BitVec.and_self, rfl⟩

theorem Evolved.trans {p q r : Piece} (h : Evolved p q) (g : Evolved q r) : Evolved p r where
  admission := g.admission.trans h.admission
  job := g.job.trans h.job
  copy := g.copy.trans h.copy
  thickness := g.thickness.trans h.thickness
  cls := g.cls.trans h.cls
  limits hl := (g.limits (h.limits hl ▸ hl)).trans (h.limits hl)
  accumulated := by
    have h1 := h.accumulated
    have h2 := g.accumulated
    omega
  caseStatus hc := (g.caseStatus (h.caseStatus hc ▸ hc)).trans (h.caseStatus hc)
  jacketStatus hj := (g.jacketStatus (h.jacketStatus hj ▸ hj)).trans (h.jacketStatus hj)
  jacketPending hj := by
    by_cases hq : q.jacketStatus = .pending
    · exact g.jacketPending hq
    · rw [g.jacketStatus hq]
      exact h.jacketPending hj
  copyVerified hv := g.copyVerified (h.copyVerified hv)
  faults := by rw [← h.faults, BitVec.and_assoc, g.faults]
  copyFaults := g.copyFaults.trans h.copyFaults

theorem Evolved.tally {p q : Piece} (h : Evolved p q) : q.tally = p.tally := by
  simp only [Piece.tally, h.job, h.copy, h.copyFaults]

theorem FaultSet.and_or_self (f g : FaultSet) : f &&& (f ||| g) = f := by
  ext i hi
  simp
  grind

theorem FaultSet.or_and_of_off {f g : FaultSet} (h : g &&& 0x000E = 0) : (f ||| g) &&& 0x000E = f &&& 0x000E := by
  rw [BitVec.and_or_distrib_right, h]
  exact BitVec.or_zero

/-- R11: a fault that is not of the copy or the quantity is added. -/
theorem Piece.evolved_addFault (p : Piece) {k : FaultKind} (hk : k.bit &&& 0x000E = 0) : Evolved p (p.addFault k) :=
  { Evolved.refl p with
    faults := FaultSet.and_or_self _ _
    copyFaults := FaultSet.or_and_of_off hk }

theorem Piece.evolved_settleCase (p : Piece) (c : CaseStatus) : Evolved p (p.settleCase c) := by
  unfold Piece.settleCase
  split
  · next h => exact { Evolved.refl p with caseStatus := fun hc => absurd h hc }
  · exact .refl p

theorem Piece.evolved_settleJacket (p : Piece) {c : JacketStatus} (hc : c ≠ .notRequired) :
    Evolved p (p.settleJacket c) := by
  unfold Piece.settleJacket
  split
  · next h => exact { Evolved.refl p with jacketStatus := fun hj => absurd h hj, jacketPending := fun _ => hc }
  · exact .refl p

theorem Piece.evolved_acceptJacket (p : Piece) (v : Bool) : Evolved p (p.acceptJacket v) := by
  have h := p.evolved_settleJacket (c := .married) (by decide)
  have hv : (p.settleJacket .married).copyVerified = p.copyVerified := by
    unfold Piece.settleJacket
    split <;> rfl
  exact { h with copyVerified := fun e => by simp [Piece.acceptJacket, e] }

theorem Piece.evolved_passCasing (p : Piece) : Evolved p p.passCasing :=
  (p.evolved_addFault rfl).trans ((p.addFault _).evolved_settleCase _)

theorem Piece.evolved_passJacketing (p : Piece) : Evolved p p.passJacketing := by
  unfold Piece.passJacketing
  split
  · exact .refl p
  · exact (p.evolved_addFault rfl).trans ((p.addFault _).evolved_settleJacket (by decide))

theorem Piece.evolved_caseMismatch (p : Piece) : Evolved p ((p.addFault .caseMismatch).settleCase .skipped) :=
  (p.evolved_addFault rfl).trans ((p.addFault _).evolved_settleCase _)

theorem Piece.evolved_jacketMismatch (p : Piece) : Evolved p ((p.addFault .jacketMismatch).settleJacket .skipped) :=
  (p.evolved_addFault rfl).trans ((p.addFault _).evolved_settleJacket (by decide))

theorem Piece.evolved_place (p : Piece) (place : Place) (count : Option Word16) :
    Evolved p { p with place := place, entryCount := count } := { Evolved.refl p with }

theorem Piece.evolved_lost (p : Piece) : Evolved p ((p.addFault .tracking).putIn .lost) :=
  (p.evolved_addFault rfl).trans ((p.addFault _).evolved_place _ _)

theorem Piece.evolved_dwell (p : Piece) (l : DwellLimits) (cold : Bool) : Evolved p { p with
    limits := some (p.limits.getD l)
    faults := if p.limits = none ∧ cold = true then p.faults ||| FaultKind.coldPress.bit else p.faults } := by
  refine { Evolved.refl p with limits := fun h => ?_, faults := ?_, copyFaults := ?_ }
  · obtain ⟨k, hk⟩ := Option.ne_none_iff_exists'.1 h
    simp [hk]
  · split
    · exact FaultSet.and_or_self _ _
    · exact BitVec.and_self
  · split
    · exact FaultSet.or_and_of_off rfl
    · rfl

theorem Piece.evolved_judged (p : Piece) : Evolved p p.judged.1 := by
  unfold Piece.judged
  split
  · exact .refl p
  · split
    · exact p.evolved_addFault rfl
    · split
      · exact p.evolved_addFault rfl
      · exact .refl p

theorem Piece.evolved_shifted (p : Piece) : Evolved p p.shifted := by
  rw [Piece.shifted_frame]
  exact p.evolved_place _ _

theorem PressMark.evolved {f : Piece → Piece} (hf : PressMark f) (p : Piece) : Evolved p (f p) := by
  obtain ⟨acc, faults, e⟩ := hf.shape p
  have hmem := hf.faults p
  have hgains := hf.gains p
  rw [e] at hmem hgains ⊢
  simp only [List.mem_cons, List.not_mem_nil, or_false] at hmem
  refine { Evolved.refl p with accumulated := hgains, faults := ?_, copyFaults := ?_ }
  · rcases hmem with rfl | rfl | rfl
    · exact BitVec.and_self
    · exact FaultSet.and_or_self _ _
    · exact FaultSet.and_or_self _ _
  · rcases hmem with rfl | rfl | rfl
    · rfl
    · exact FaultSet.or_and_of_off rfl
    · exact FaultSet.or_and_of_off rfl

/-- Records change, and jobs, copy tables, the admission counter and the queue of commands do not. -/
structure Evolution (s u : State) : Prop where
  jobs : u.jobs = s.jobs
  copyTables : u.copyTables = s.copyTables
  counter : u.admissionCounter = s.admissionCounter
  pending : u.pending = s.pending
  free : ∀ v, s.piece v = none → u.piece v = none
  piece : ∀ v p, s.piece v = some p → ∃ q, u.piece v = some q ∧ Evolved p q

theorem Evolution.of_piece {s u : State} (hp : u.piece = s.piece) (hj : u.jobs = s.jobs)
    (hc : u.copyTables = s.copyTables) (ha : u.admissionCounter = s.admissionCounter) (hl : u.pending = s.pending) :
    Evolution s u :=
  ⟨hj, hc, ha, hl, fun v h => by rwa [hp], fun v p h => ⟨p, by rwa [hp], .refl p⟩⟩

theorem Evolution.of_pool {s u : State} (hp : u.pool = s.pool) (hj : u.jobs = s.jobs)
    (hc : u.copyTables = s.copyTables) (ha : u.admissionCounter = s.admissionCounter) (hl : u.pending = s.pending) :
    Evolution s u :=
  .of_piece (State.piece_congr hp) hj hc ha hl

theorem Evolution.sameBooks {s u : State} (h : Evolution s u) : SameBooks s u where
  jobs := h.jobs
  copyTables := h.copyTables
  tally v := by
    cases hp : s.piece v with
    | none => rw [h.free v hp]
    | some p =>
      obtain ⟨q, hq, e⟩ := h.piece v p hp
      rw [hq]
      exact congrArg some e.tally

theorem Evolution.updatePiece (s : State) (t : Tag) {f : Piece → Piece} (hf : ∀ p, Evolved p (f p)) :
    Evolution s (s.updatePiece t f) where
  jobs := rfl
  copyTables := rfl
  counter := rfl
  pending := rfl
  free v h := by
    rw [State.piece_updatePiece]
    split
    · next e => subst e; rw [h]; rfl
    · exact h
  piece v p h := by
    rw [State.piece_updatePiece]
    split
    · next e => subst e; exact ⟨f p, by rw [h]; rfl, hf p⟩
    · exact ⟨p, h, .refl p⟩

theorem Evolution.updatePieces (s : State) (ts : List Tag) {f : Piece → Piece} (hf : ∀ p, Evolved p (f p)) :
    Evolution s (s.updatePieces ts f) where
  jobs := by simp
  copyTables := by simp
  counter := by simp
  pending := by simp
  free v h := by
    rw [State.piece_updatePieces]
    split
    · rw [h]; rfl
    · exact h
  piece v p h := by
    rw [State.piece_updatePieces]
    split
    · exact ⟨f p, by rw [h]; rfl, hf p⟩
    · exact ⟨p, h, .refl p⟩

/-! ### A retirement in the books -/

/-- R155, steps 1 to 3: a piece of a job is struck from the books. -/
def State.checkOut (s : State) (k : Retirement) (t : Tag) (p : Piece) (j : JobSlot) (b : Job) : State :=
  ((s.setJob j (some (b.settled k))).settleCopy k p b).setPiece t none

theorem State.jobs_checkOut (s : State) (k : Retirement) (t : Tag) (p : Piece) (j : JobSlot) (b : Job) (i : JobSlot) :
    (s.checkOut k t p j b).job i = if i = j then some (b.settled k) else s.job i := by
  have : (s.checkOut k t p j b).jobs = (s.setJob j (some (b.settled k))).jobs := by
    rw [State.checkOut, State.settleCopy_frame]
    rfl
  rw [← State.job_setJob]
  simp [State.job, this]

theorem State.piece_checkOut (s : State) (k : Retirement) (t : Tag) (p : Piece) (j : JobSlot) (b : Job) (v : Tag) :
    (s.checkOut k t p j b).piece v = if v = t then none else s.piece v := by
  rw [State.checkOut, State.piece_setPiece, State.settleCopy_frame]
  rfl

theorem settleCopy_congr {s u : State} (h : u.copyTables = s.copyTables) (k : Retirement) (p : Piece) (b : Job) :
    (u.settleCopy k p b).copyTables = (s.settleCopy k p b).copyTables := by
  unfold State.settleCopy State.setCopyEntry
  split
  · split
    · split
      · simp [h]
      · exact h
    · exact h
  · exact h

theorem State.retire_counters (s : State) (k : Retirement) (t : Tag) :
    (s.retire k t).admissionCounter = s.admissionCounter ∧ (s.retire k t).pending = s.pending := by
  rw [State.retire_frame]
  exact ⟨rfl, rfl⟩

theorem State.checkOut_frame (s : State) (k : Retirement) (t : Tag) (p : Piece) (j : JobSlot) (b : Job) :
    s.checkOut k t p j b = { s with
      pool := s.pool.set t none
      jobs := s.jobs.set j (some (b.settled k))
      copyTables := (s.checkOut k t p j b).copyTables } := by
  rw [State.checkOut, State.settleCopy_frame]
  rfl

/-- R18, R155: in the books a retirement of a job's piece strikes it out, and then completes or empties the job. -/
theorem State.retire_books {s : State} {k : Retirement} {t : Tag} {p : Piece} {j : JobSlot} {b : Job}
    (hp : s.piece t = some p) (hj : p.job = some j) (hb : s.job j = some b) :
    Evolution (s.checkOut k t p j b) (s.retire k t) ∨
      Evolution ((s.checkOut k t p j b).setJob j (some { b.settled k with state := .complete })) (s.retire k t) ∨
        ((b.settled k).live = 0 ∧ Evolution ((s.checkOut k t p j b).emptyJob j (b.settled k)) (s.retire k t)) := by
  obtain ⟨hcounter, hpending⟩ := s.retire_counters k t
  have hframe := s.checkOut_frame k t p j b
  have hpiece : (s.retire k t).piece = (s.checkOut k t p j b).piece := funext fun v => by
    rw [s.piece_retire k t v, State.piece_checkOut]
  have hjobs : (s.retire k t).jobs = ((s.takeOut t).settleJob k p).jobs := by
    simp only [State.retire, hp]
    rw [State.retirePulse_frame]
    rfl
  have htables : (s.retire k t).copyTables = ((s.takeOut t).settleJob k p).copyTables := by
    simp only [State.retire, hp]
    rw [State.retirePulse_frame]
    rfl
  have hb' : (s.takeOut t).job j = some b := hb
  have hcopy : (((s.takeOut t).setJob j (some (b.settled k))).settleCopy k p b).copyTables =
      (s.checkOut k t p j b).copyTables :=
    settleCopy_congr (s := s.setJob j (some (b.settled k))) (u := (s.takeOut t).setJob j (some (b.settled k))) rfl k p b
  have hjob : (((s.takeOut t).setJob j (some (b.settled k))).settleCopy k p b).jobs = (s.checkOut k t p j b).jobs := by
    rw [State.settleCopy_frame, hframe]
    rfl
  have hcounter' : (s.checkOut k t p j b).admissionCounter = s.admissionCounter := by rw [hframe]
  have hpending' : (s.checkOut k t p j b).pending = s.pending := by rw [hframe]
  simp only [State.settleJob, hj, hb'] at hjobs htables
  split at hjobs
  · next hdone =>
    rw [if_pos hdone] at htables
    refine .inr (.inl (.of_piece hpiece ?_ (htables.trans hcopy) (hcounter.trans hcounter'.symm)
      (hpending.trans hpending'.symm)))
    rw [hjobs]
    exact congrArg (fun js : Vector (Option Job) 32 => js.set j _) hjob
  · next hdone =>
    rw [if_neg hdone] at htables
    split at hjobs
    · next hempty =>
      rw [if_pos hempty] at htables
      refine .inr (.inr ⟨hempty.2, ?_⟩)
      rw [State.emptyJob_frame]
      refine .of_piece hpiece ?_ ?_ (hcounter.trans hcounter'.symm) (hpending.trans hpending'.symm)
      · rw [hjobs, State.emptyJob_frame]
        exact congrArg (fun js : Vector (Option Job) 32 => js.set j _) hjob
      · rw [htables]
        unfold State.emptyJob
        split
        · exact congrArg (fun ts : Vector (List CopyState) 4 => ts.set _ _) hcopy
        · exact hcopy
    · next hempty =>
      rw [if_neg hempty] at htables
      exact .inl (.of_piece hpiece (hjobs.trans hjob) (htables.trans hcopy) (hcounter.trans hcounter'.symm)
        (hpending.trans hpending'.symm))

theorem State.retire_books_of_jobless {s : State} {t : Tag} {p : Piece} (k : Retirement) (hp : s.piece t = some p)
    (hj : s.jobOf p = none) : Evolution (s.setPiece t none) (s.retire k t) := by
  obtain ⟨hcounter, hpending⟩ := s.retire_counters k t
  have hsettle : (s.takeOut t).settleJob k p = s.takeOut t := by
    unfold State.settleJob
    split
    · rfl
    · next j hpj =>
      have : (s.takeOut t).job j = none := by
        simp only [State.jobOf, hpj, Option.bind_some] at hj
        exact hj
      rw [this]
  refine .of_piece (funext fun v => by rw [s.piece_retire k t v, State.piece_setPiece]) ?_ ?_ hcounter hpending
  all_goals
    simp only [State.retire, hp, hsettle]
    rw [State.retirePulse_frame]
    rfl

theorem State.retire_books_of_free {s : State} {t : Tag} (k : Retirement) (hp : s.piece t = none) :
    Evolution s (s.retire k t) := by
  simp only [State.retire, hp]
  exact .of_pool rfl rfl rfl rfl rfl

end Sys2Proof.Machine
end

section
/-! SUPPORT. Laws of the books: what is kept while a piece of a job is struck from the books or enters them, and while
jobs are bound, restated and emptied, is kept by every command (R24, R33, R36, R76, R77). -/

namespace Sys2Proof.Machine

open Sys2Proof.Safety

/-- What is kept by the operations on the books of the jobs; where `limited` holds, only pieces admitted without
OVER_QUANTITY are delivered. -/
structure BookLaw (limited : Prop) (Q : State → Prop) : Prop where
  same : ∀ {s u}, Evolution s u → Q s → Q u
  strike : ∀ {s k t p j b}, s.piece t = some p → p.job = some j → s.job j = some b →
    (limited → k = .delivered → p.faults &&& 0x0002 = 0) → Q s → Q (s.checkOut k t p j b)
  strikeJobless : ∀ {s t p}, s.piece t = some p → s.jobOf p = none → Q s → Q (s.setPiece t none)
  restateJob : ∀ {s j b b'}, s.job j = some b → Restated b b' → Q s → Q (s.setJob j (some b'))
  emptyJob : ∀ {s j b}, s.job j = some b → b.live = 0 → Q s → Q (s.emptyJob j b)

/-- R24, R27: what is kept where a job is bound to an EMPTY slot. -/
def KeptByBinding (Q : State → Prop) : Prop :=
  ∀ {s : State} {j : JobSlot} {b : Job} {p : JobParams} {range : Option (Nat × Nat)}
    (r : Option (Nat × Nat × CopyTableId)), s.job j = none → jobOfParams p = some (b, range) →
    s.findJob p.key = none → r.map (fun x => (x.1, x.2.1)) = range → (∀ x ∈ r, s.freeTable = some x.2.2) → Q s →
    Q (s.bindJob j b r)

/-- R66: what an admission takes from `P` to `Q`, before its piece joins the queue of Z1. -/
def Enters (P Q : State → Prop) : Prop :=
  ∀ {s : State} {t : Tag} {key : Word32} (measured : Bool) (copy thickness : Nat), s.piece t = none →
    s.jobWaits key = false → P s →
    Q (State.enterJob
      { s.setPiece t (some (s.newPiece measured (s.admittingJob key) copy thickness)) with
        admissionCounter := s.admissionCounter + 1 }
      (s.admittingJob key) (s.newPiece measured (s.admittingJob key) copy thickness))

namespace BookLaw

variable {limited : Prop} {Q : State → Prop} (law : BookLaw limited Q) {s u : State} {t : Tag}

include law

theorem frame (h : Q s) (hp : u.pool = s.pool) (hj : u.jobs = s.jobs) (hc : u.copyTables = s.copyTables)
    (ha : u.admissionCounter = s.admissionCounter) (hl : u.pending = s.pending) : Q u :=
  law.same (.of_pool hp hj hc ha hl) h

/-- R18, R155: a retirement. -/
theorem retire {k : Retirement}
    (hk : limited → ∀ p, s.piece t = some p → k = .delivered → p.faults &&& 0x0002 = 0) (h : Q s) :
    Q (s.retire k t) := by
  cases hp : s.piece t with
  | none => exact law.same (State.retire_books_of_free k hp) h
  | some p =>
    cases hb : s.jobOf p with
    | none => exact law.same (State.retire_books_of_jobless k hp hb) (law.strikeJobless hp hb h)
    | some b =>
      obtain ⟨j, hj, hb⟩ := Option.bind_eq_some_iff.1 hb
      have hstruck := law.strike hp hj hb (fun hl => hk hl p hp) h
      have hb' : (s.checkOut k t p j b).job j = some (b.settled k) := by
        rw [State.jobs_checkOut, if_pos rfl]
      rcases State.retire_books (k := k) hp hj hb with e | e | ⟨hlive, e⟩
      · exact law.same e hstruck
      · exact law.same e (law.restateJob hb' ⟨rfl, .inl ⟨rfl, rfl⟩⟩ hstruck)
      · exact law.same e (law.emptyJob hb' hlive hstruck)

theorem retireOther {k : Retirement} (hk : k ≠ .delivered) (h : Q s) : Q (s.retire k t) :=
  law.retire (fun _ _ _ e => absurd e hk) h

theorem retireAll {k : Retirement} (hk : k ≠ .delivered) (ts : List Tag) (h : Q s) : Q (s.retireAll k ts) := by
  induction ts generalizing s with
  | nil => exact h
  | cons t rest ih => exact ih (law.retireOther hk h)

theorem divert (h : Q s) : Q (s.divertUnconfirmed t) :=
  law.retireOther (by decide) (law.same (.updatePiece s t fun p => p.evolved_addFault rfl) h)

theorem roleMoves : RoleMoves fun s u => Q s → Q u where
  refl _ h := h
  trans h g hs := g (h hs)
  inert hi h := law.frame h (by rw [hi]) (by rw [hi]) (by rw [hi]) (by rw [hi]) (by rw [hi])
  filter s f h := law.frame h rfl rfl rfl rfl rfl
  divert s t h := law.divert h
  withdraw s which h := law.frame h rfl rfl rfl rfl rfl
  setStation _ h := law.frame h rfl rfl rfl rfl rfl
  setLink _ h := law.frame h rfl rfl rfl rfl rfl
  endFlight s h := law.frame h rfl rfl rfl rfl rfl

/-! ### Moves of a piece -/

theorem lose (h : Q s) : Q (s.lose t) := by
  have hs : Q { s with lost := s.lost ++ [t] } := law.frame h rfl rfl rfl rfl rfl
  have hmoved := law.same (.updatePiece _ t (f := fun p => (p.addFault .tracking).putIn .lost)
    Piece.evolved_lost) hs
  exact law.frame hmoved rfl rfl rfl rfl rfl

theorem joinQueue (h : Q s) (z : ConveyorZone) : Q (s.joinQueue z t) := by
  unfold State.joinQueue
  exact law.same (.updatePiece _ t fun p => p.evolved_place _ _) (law.frame h (by simp) (by simp) (by simp) (by simp) (by simp))

theorem handOver (h : Q s) (z : ConveyorZone) : Q (s.handOver z t) := by
  unfold State.handOver
  split
  · exact law.retireOther (by decide) h
  · split
    · exact law.lose h
    · exact law.joinQueue h z

theorem enterPlace (h : Q s) (place : Place) (hu : Evolution s u) : Q (u.updatePiece t (·.putIn place)) :=
  law.same (.updatePiece _ t fun p => p.evolved_place _ _) (law.same hu h)

theorem setMode (h : Q s) (z : Zone) (m : ZoneMode) : Q (s.setMode z m) :=
  law.frame h (by cases z <;> rfl) (by cases z <;> rfl) (by cases z <;> rfl) (by cases z <;> rfl) (by cases z <;> rfl)

theorem arrive (h : Q s) (z : ConveyorZone) : Q (s.arrive z t) := by
  cases z with
  | z1 =>
    change Q (s.arriveCasing t)
    unfold State.arriveCasing
    split
    · exact law.enterPlace h _ (.of_pool rfl rfl rfl rfl rfl)
    · next o _ =>
      have hcleared : Q { s with casing := none } := law.frame h rfl rfl rfl rfl rfl
      have hover := law.handOver (t := o) (law.same (.updatePiece _ o Piece.evolved_passCasing) hcleared) .z2
      exact law.roleMoves.raise _ _ (law.enterPlace hover _ (.of_pool rfl rfl rfl rfl rfl))
  | z2 =>
    change Q (s.arriveHold t)
    unfold State.arriveHold
    split
    · exact law.enterPlace h _ (.of_pool rfl rfl rfl rfl rfl)
    · next o _ =>
      have hcleared : Q { s with pressEntry := none } := law.frame h rfl rfl rfl rfl rfl
      have hhalt := law.setMode (law.lose (t := o) hcleared) ConveyorZone.z2.zone .halt
      exact law.roleMoves.raise _ _ (law.enterPlace hhalt _ (.of_pool rfl rfl rfl rfl rfl))
  | z4 =>
    change Q (s.arriveJacketing t)
    unfold State.arriveJacketing
    split
    · exact law.enterPlace h _ (.of_pool rfl rfl rfl rfl rfl)
    · next o _ =>
      have hcleared : Q { s with jacketing := none } := law.frame h rfl rfl rfl rfl rfl
      have hover := law.handOver (t := o) (law.same (.updatePiece _ o Piece.evolved_passJacketing) hcleared) .z5
      exact law.roleMoves.raise _ _ (law.enterPlace hover _ (.of_pool rfl rfl rfl rfl rfl))
  | z5 =>
    change Q (s.gateArrival t)
    unfold State.gateArrival
    split
    · exact h
    · split
      · exact law.divert h
      · split
        · exact law.divert h
        · exact law.enterPlace h _ (.of_pool rfl rfl rfl rfl rfl)

theorem discharge (h : Q s) : Q s.discharge := by
  unfold State.discharge
  split
  · exact h
  · next t _ =>
    have hjudged : Evolution s (s.judgeDischarge t) := by
      cases hp : s.piece t with
      | none => simp only [State.judgeDischarge, hp]; exact .of_pool rfl rfl rfl rfl rfl
      | some p =>
        refine ⟨by simp, by simp, by simp, by simp, fun v h => ?_, fun v q h => ?_⟩ <;>
          simp only [State.judgeDischarge, hp, State.piece_congr (State.raiseIf_pool _ _ _), State.piece_setPiece] <;>
          split
        · next hv => simp [hv, hp] at h
        · exact h
        · next hv =>
          obtain rfl : p = q := by simpa [hv, hp] using h
          exact ⟨_, rfl, p.evolved_judged⟩
        · exact ⟨q, h, .refl q⟩
    dsimp only
    refine law.handOver ?_ .z4
    exact law.frame (law.same hjudged h) rfl rfl rfl rfl rfl

theorem shiftPress (h : Q s) : Q s.shiftPress :=
  law.frame (law.same (.updatePieces s (s.press.positions.toList.filterMap id) Piece.evolved_shifted) h)
    (by simp only [State.shiftPress]) (by simp only [State.shiftPress]) (by simp only [State.shiftPress])
    (by simp only [State.shiftPress]) (by simp only [State.shiftPress])

theorem computeDwell (h : Q s) : Q (s.computeDwell t) := by
  have hframe := s.computeDwell_frame t
  refine law.same ⟨by rw [hframe], by rw [hframe], by rw [hframe], by rw [hframe], fun v hv => ?_, fun v p hp => ?_⟩ h
  · by_cases hvt : v = t
    · subst hvt
      simp [State.computeDwell, hv]
    · rw [State.piece_computeDwell_of_ne s hvt, hv]
  · by_cases hvt : v = t
    · subst hvt
      exact ⟨_, State.piece_computeDwell s hp, p.evolved_dwell _ _⟩
    · exact ⟨p, by rw [State.piece_computeDwell_of_ne s hvt, hp], .refl p⟩

theorem enterPress (h : Q s) : Q s.enterPress := by
  unfold State.enterPress
  split
  · exact h
  · next t _ =>
    have hcleared : Q { s with pressEntry := none } := law.frame h rfl rfl rfl rfl rfl
    dsimp only
    split
    · exact law.retireOther (by decide) hcleared
    · exact law.computeDwell (law.enterPlace hcleared _ (.of_pool rfl rfl rfl rfl rfl))

theorem enterReset (h : Q s) (z : Zone) : Q (s.enterReset z) := by
  unfold State.enterReset
  split
  · exact h
  · have hall := law.retireAll (by decide : Retirement.spoiled ≠ .delivered) (s.piecesOf z) (law.setMode h z .reset)
    cases z
    case z2 => exact hall
    all_goals exact law.frame hall rfl rfl rfl rfl rfl

/-! ### Reports -/

theorem leaveCasing (h : Q s) : Q (s.leaveCasing t) := by
  refine law.handOver ?_ .z2
  exact law.frame h rfl rfl rfl rfl rfl

theorem leaveJacketing (h : Q s) : Q (s.leaveJacketing t) := by
  refine law.handOver ?_ .z5
  exact law.frame h rfl rfl rfl rfl rfl

theorem settleAndLeave (h : Q s) {f : Piece → Piece} (hf : ∀ p, Evolved p (f p)) :
    Q ((s.updatePiece t f).leaveCasing t) ∧ Q ((s.updatePiece t f).leaveJacketing t) := by
  have hs := law.same (.updatePiece s t hf) h
  exact ⟨law.leaveCasing hs, law.leaveJacketing hs⟩

theorem passMismatch (h : Q s) : Q (s.passCaseMismatch t) ∧ Q (s.passJacketMismatch t) := by
  have hcase := law.same (.updatePiece s t Piece.evolved_caseMismatch) h
  have hjacket := law.same (.updatePiece s t Piece.evolved_jacketMismatch) h
  exact ⟨law.leaveCasing (law.roleMoves.raise _ _ hcase), law.leaveJacketing (law.roleMoves.raise _ _ hjacket)⟩

theorem caseScan (h : Q s) (code : Word24) (refeed : Bool) : Q (s.caseScan code refeed).2 := by
  unfold State.caseScan
  split
  · exact h
  · split
    · exact h
    · split
      · exact h
      · split
        · exact (law.settleAndLeave h fun p => p.evolved_settleCase _).1
        · unfold State.judgeCase
          split
          · exact (law.passMismatch h).1
          · split
            · exact (law.settleAndLeave h fun p => p.evolved_settleCase _).1
            · split
              · exact law.frame h rfl rfl rfl rfl rfl
              · exact (law.passMismatch h).1

theorem jacketScan (h : Q s) (code : Word24) (copy : Word16) (refeed copyRead : Bool) :
    Q (s.jacketScan code copy refeed copyRead).2 := by
  unfold State.jacketScan
  split
  · exact h
  · split
    · exact h
    · split
      · exact h
      · split
        · exact law.leaveJacketing h
        · split
          · exact (law.settleAndLeave h fun p => p.evolved_settleJacket (by decide)).2
          · unfold State.judgeJacket
            split
            · exact (law.passMismatch h).2
            · split
              · exact (law.settleAndLeave h fun p => p.evolved_acceptJacket _).2
              · split
                · exact law.frame h rfl rfl rfl rfl rfl
                · exact (law.passMismatch h).2

theorem blockScan {P : State → Prop} (weaken : P s → Q s) (enter : Enters P Q) (h : P s) (measured : Bool)
    (key : Word32) (copy thickness : Word16) : Q (s.blockScan measured key copy thickness).2 := by
  unfold State.blockScan
  split
  · exact weaken h
  · split
    · exact weaken h
    · split
      · exact law.roleMoves.raise _ _ (weaken h)
      · next t ht =>
        split
        · exact weaken h
        · next hwaits =>
          exact law.joinQueue (enter measured copy.toNat thickness.toNat (State.lowestFree_some ht)
            (by simpa using hwaits) h) .z1

theorem keptByReports {P : State → Prop} (weaken : ∀ {s}, P s → Q s) (enter : Enters P Q) : KeptByReports P Q where
  weaken := weaken
  announce _ _ _ h := law.roleMoves.announce _ _ _ _ (weaken h)
  blockScan _ _ _ _ h := law.blockScan weaken enter h _ _ _ _
  caseScan _ _ h := law.caseScan (weaken h) _ _
  jacketScan _ _ _ _ h := law.jacketScan (weaken h) _ _ _ _
  takeTemp _ h := law.frame (weaken h) rfl rfl rfl rfl rfl
  sendFrame _ _ _ h := law.roleMoves.sendFrame _ _ _ _ h

/-- R151: a confirmation, where the order in flight delivers only a piece admitted without OVER_QUANTITY. -/
theorem confirmFlight (hf : limited → ∀ f p, s.gateInFlight = some f → s.piece f.tag = some p → p.admission = f.admission →
    f.tag ∈ s.gateQueue → f.order ≠ .divert → p.faults &&& 0x0002 = 0) (h : Q s) : Q s.confirmFlight := by
  have hend : Q { s with gateInFlight := none } := law.frame h rfl rfl rfl rfl rfl
  unfold State.confirmFlight
  split
  · exact h
  · next f hflight =>
    dsimp only
    split
    · next hpresent =>
      refine law.retire (fun hl p hp hk => ?_) hend
      have hp : s.piece f.tag = some p := hp
      have hpresent : s.flightPresent f = true := hpresent
      simp only [State.flightPresent, hp, Bool.and_eq_true, List.contains_iff_mem, beq_iff_eq] at hpresent
      refine hf hl f p hflight hp hpresent.2 hpresent.1 fun e => ?_
      rw [e] at hk
      cases hk
    · exact hend

/-! ### Commands and events -/

theorem keptByOps (binding : KeptByBinding Q)
    (start : ∀ {s u}, (∀ v, u.piece v = none) → (∀ j, u.job j = none) → u.pending = s.pending → Q s → Q u) :
    KeptByOps Q where
  inert hi h := law.roleMoves.inert hi h
  checkEnds _ _ h := law.frame h rfl rfl rfl rfl rfl
  powerOn {s} time asserted h := by
    obtain ⟨press, -, e⟩ := s.poweredOn_eq time asserted
    rw [e]
    exact start (s := s) (u := { State.reset with timeBase := time, pending := s.pending, press := press }) (fun v => by simp [State.piece, State.reset]) (fun j => by simp [State.job, State.reset]) rfl h
  bindJob r h1 h2 h3 h4 h5 h := binding r h1 h2 h3 h4 h5 h
  restateJob hb hr h := law.restateJob hb hr h
  emptyJob hb hl h := law.emptyJob hb hl h
  filter _ h := law.frame h rfl rfl rfl rfl rfl
  timers _ h := law.frame h rfl rfl rfl rfl rfl
  heated hf h := law.same (.updatePieces _ _ hf.evolved) h
  offerJawRelease {s} h := by
    unfold State.offerJawRelease
    split
    · exact h
    · dsimp only
      split
      · exact law.frame h rfl rfl rfl rfl rfl
      · exact h
  discharge h := law.discharge h
  shiftPress _ h := law.shiftPress h
  enterPress _ h := law.enterPress h
  travel _ _ h := law.frame h (by simp) (by simp) (by simp) (by simp) (by simp)
  setMode _ h := law.setMode h _ _
  enterReset z h := law.enterReset h z
  spoil t h := law.retireOther (by decide) h
  loseHead _ h := law.lose (law.frame h (by simp) (by simp) (by simp) (by simp) (by simp))
  arrive {_ z _ _} _ _ h := law.arrive (law.frame h (by simp) (by simp) (by simp) (by simp) (by simp)) z
  returnTo {_ z _} _ _ _ _ h := by
    refine law.joinQueue ?_ z
    exact law.frame h rfl rfl rfl rfl rfl
  latch a _ h := law.frame h rfl rfl rfl rfl rfl
  sendPoll {s} hc hex h := by
    unfold State.sendPoll
    rw [if_pos ⟨hc, hex⟩]
    dsimp only
    rw [State.sendFrame_eq]
    exact law.frame h rfl rfl rfl rfl rfl

end BookLaw

end Sys2Proof.Machine
end

section
/-! SUPPORT. O57: the laws of the jobs, their copy tables and their counts meet the law of the books. -/

namespace Sys2Proof.Machine

open Sys2Proof.Safety

/-! ### Entries of the copy tables -/

theorem State.tables_setCopyEntry (s : State) (n : Numbering) (copy : Nat) (c : CopyState) (m : CopyTableId) :
    (s.setCopyEntry n copy c).copyTables[m] =
      if (n.first ≤ copy ∧ copy ≤ n.last) ∧ m = n.table then (s.copyTables[m]).set (copy - n.first) c
      else s.copyTables[m] := by
  unfold State.setCopyEntry
  split
  · next hin =>
    by_cases hm : m = n.table
    · subst hm
      simp [hin]
    · have : n.table.val ≠ m.val := fun e => hm (Fin.ext e.symm)
      simp [hm, this]
  · next hin => simp [hin]

theorem State.length_setCopyEntry (s : State) (n : Numbering) (copy : Nat) (c : CopyState) (m : CopyTableId) :
    ((s.setCopyEntry n copy c).copyTables[m]).length = (s.copyTables[m]).length := by
  rw [State.tables_setCopyEntry]
  split <;> simp

/-- The entry of another copy stays. -/
theorem State.entry_setCopyEntry_ne (s : State) {n : Numbering} {copy c : Nat} (hc : n.first ≤ c) (hne : c ≠ copy)
    (x : CopyState) (m : CopyTableId) :
    ((s.setCopyEntry n copy x).copyTables[m])[c - n.first]? = (s.copyTables[m])[c - n.first]? := by
  rw [State.tables_setCopyEntry]
  split
  · next h =>
    obtain ⟨⟨h1, -⟩, -⟩ := h
    rw [List.getElem?_set_ne (by omega)]
  · rfl

theorem State.entry_setCopyEntry_self (s : State) {n : Numbering} {copy : Nat} (h1 : n.first ≤ copy) (h2 : copy ≤ n.last)
    (hlen : (s.copyTables[n.table]).length = n.last - n.first + 1) (x : CopyState) :
    ((s.setCopyEntry n copy x).copyTables[n.table])[copy - n.first]? = some x := by
  rw [State.tables_setCopyEntry, if_pos ⟨⟨h1, h2⟩, rfl⟩, List.getElem?_set_self (by omega)]

theorem FaultSet.cleanCopy_iff (f : FaultSet) : f.cleanCopy = true ↔ f &&& 0x000C = 0 := by
  have hsplit : f &&& 0x000C = (f &&& 0x0008) ||| (f &&& 0x0004) := by
    rw [← BitVec.and_or_distrib_left]
    rfl
  have hor : f.cleanCopy = true ↔ f &&& 0x0008 = 0 ∧ f &&& 0x0004 = 0 := by
    simp [FaultSet.cleanCopy, FaultSet.has, FaultKind.bit]
  rw [hor, hsplit]
  exact BitVec.or_eq_zero_iff.symm

theorem Piece.carries_iff (j : JobSlot) (copy : Nat) (p : Piece) :
    p.carries j copy = true ↔ p.job = some j ∧ p.copy = some copy ∧ p.faults.cleanCopy = true := by
  simp [Piece.carries, FaultSet.cleanCopy_iff, and_assoc]

/-! ### What jobs are bound as -/

theorem jobOfParams_some {p : JobParams} {b : Job} {range : Option (Nat × Nat)} (h : jobOfParams p = some (b, range)) :
    b.key = p.key ∧ b.numbered = none ∧ b.good = 0 ∧ b.live = 0 ∧
      ∀ x ∈ range, 1 ≤ x.1 ∧ x.1 ≤ x.2 ∧ x.2 ≤ 65535 ∧ x.2 - x.1 + 1 ≤ 2048 := by
  unfold jobOfParams at h
  split at h
  · split at h
    · next range' _ _ _ _ hrange _ _ _ _ =>
      cases h
      refine ⟨rfl, rfl, rfl, rfl, fun x hx => ?_⟩
      unfold copyRangeOf at hrange
      split at hrange
      · cases hrange
        simp at hx
      · split at hrange
        · next hlegal =>
          cases hrange
          cases hx
          obtain ⟨h1, -, h3, h4⟩ := hlegal
          have hpos : p.firstCopy.toNat ≠ 0 := fun e => h1 (BitVec.eq_of_toNat_eq e)
          have hlast := p.lastCopy.isLt
          simp only
          omega
        · cases hrange
    · cases h
  · cases h

theorem State.freeTable_notMem {s : State} {t : CopyTableId} (h : s.freeTable = some t) {j : JobSlot} {b : Job}
    {n : Numbering} (hb : s.job j = some b) (hn : b.numbered = some n) : n.table ≠ t := by
  have hfree := State.freeTable_some h
  intro e
  simp only [State.tableInUse, List.any_eq_false] at hfree
  have := hfree j (List.mem_finRange j)
  simp [hb, hn, e] at this

theorem State.admittingJob_some {s : State} {key : Word32} {j : JobSlot} {b : Job}
    (h : s.admittingJob key = some (j, b)) : s.job j = some b ∧ b.state ≠ .closing := by
  unfold State.admittingJob at h
  split at h
  · cases h
  · split at h
    · next hf =>
      split at h
      · cases h
      · next hc =>
        cases h
        exact ⟨(State.findJob_some hf).1, hc⟩
    · cases h

/-! ### Jobs after each operation -/

theorem State.jobs_bindJob (s : State) (j : JobSlot) (b : Job) (r : Option (Nat × Nat × CopyTableId)) (i : JobSlot) :
    (s.bindJob j b r).job i = if i = j then some { b with numbered := match r with
      | none => b.numbered
      | some (first, last, t) => some { first := first, last := last, table := t } } else s.job i := by
  rcases r with - | ⟨first, last, t⟩
  · exact s.job_setJob j i (some b)
  · exact s.job_setJob j i _

theorem State.pool_bindJob (s : State) (j : JobSlot) (b : Job) (r : Option (Nat × Nat × CopyTableId)) :
    (s.bindJob j b r).pool = s.pool := by
  rcases r with - | ⟨first, last, t⟩ <;> rfl

theorem State.jobs_emptyJob (s : State) (j : JobSlot) (b : Job) (i : JobSlot) :
    (s.emptyJob j b).job i = if i = j then none else s.job i := by
  rw [State.emptyJob_frame]
  exact s.job_setJob j i none

theorem State.pool_emptyJob (s : State) (j : JobSlot) (b : Job) : (s.emptyJob j b).pool = s.pool := by
  rw [State.emptyJob_frame]

/-- R23: an emptied job releases its own copy table and no other. -/
theorem State.tables_emptyJob (s : State) (j : JobSlot) (b : Job) (m : CopyTableId)
    (hm : ∀ n, b.numbered = some n → m ≠ n.table) : (s.emptyJob j b).copyTables[m] = s.copyTables[m] := by
  unfold State.emptyJob
  split
  · next n hn =>
    have : n.table.val ≠ m.val := fun e => hm n hn (Fin.ext e.symm)
    simp [this]
  · rfl

theorem State.jobs_enterJob (s : State) (j : JobSlot) (b : Job) (p : Piece) (i : JobSlot) :
    (s.enterJob (some (j, b)) p).job i = if i = j then some { b with live := b.live + 1 } else s.job i := by
  rw [← State.job_setJob]
  unfold State.enterJob
  dsimp only
  split
  · split
    · rw [State.setCopyEntry_frame]; rfl
    · rfl
  · rfl

theorem State.piece_enterJob (s : State) (found : Option (JobSlot × Job)) (p : Piece) :
    (s.enterJob found p).piece = s.piece := by
  rw [State.enterJob_frame]
  rfl

/-- A record that comes to a free tag counts once. -/
theorem State.countPieces_setPiece {s : State} {t : Tag} (ht : s.piece t = none) (p : Piece) (f : Piece → Bool) :
    (s.setPiece t (some p)).countPieces f = s.countPieces f + if f p then 1 else 0 := by
  refine State.countPieces_without (by rw [State.piece_setPiece, if_pos rfl]) (fun v => ?_) f
  by_cases hv : v = t
  · rw [if_pos hv, hv, ht]
  · rw [if_neg hv, State.piece_setPiece, if_neg hv]

theorem State.countPieces_congr {s u : State} (h : u.piece = s.piece) (f : Piece → Bool) :
    u.countPieces f = s.countPieces f := by
  simp only [State.countPieces, h]

theorem State.countPieces_checkOut {s : State} {k : Retirement} {t : Tag} {p : Piece} {j : JobSlot} {b : Job}
    (hp : s.piece t = some p) (f : Piece → Bool) :
    s.countPieces f = (s.checkOut k t p j b).countPieces f + if f p then 1 else 0 :=
  State.countPieces_without hp (s.piece_checkOut k t p j b) f

theorem State.countPieces_gone {s : State} {t : Tag} {p : Piece} (hp : s.piece t = some p) (f : Piece → Bool) :
    s.countPieces f = (s.setPiece t none).countPieces f + if f p then 1 else 0 :=
  State.countPieces_without hp (fun v => by rw [State.piece_setPiece]) f

/-! ### Live counts alone -/

/-- R33, R38: the live count of a slot, 0 when it is EMPTY. -/
def State.liveOf (s : State) (j : JobSlot) : Nat := ((s.job j).map Job.live).getD 0

theorem liveCountsExact_iff (s : State) :
    LiveCountsExact s ↔ ∀ j, s.countPieces (·.job == some j) = s.liveOf j := by
  refine forall_congr' fun j => ?_
  rw [← livePieces_eq, State.liveOf]
  cases s.job j
  · rfl
  · exact eq_comm

theorem LiveCountsExact.bound {s : State} (h : LiveCountsExact s) {t : Tag} {p : Piece} {j : JobSlot}
    (hp : s.piece t = some p) (hj : p.job = some j) : ∃ b, s.job j = some b := by
  have hpos := State.countPieces_pos hp (f := (·.job == some j)) (by simp [hj])
  rw [(liveCountsExact_iff s).1 h, State.liveOf] at hpos
  cases hb : s.job j with
  | none => simp [hb] at hpos
  | some b => exact ⟨b, rfl⟩

theorem LiveCountsExact.jobless {s : State} (h : LiveCountsExact s) {t : Tag} {p : Piece} (hp : s.piece t = some p)
    (hj : s.jobOf p = none) : p.job = none := by
  cases hpj : p.job with
  | none => rfl
  | some j =>
    obtain ⟨b, hb⟩ := LiveCountsExact.bound h hp hpj
    simp [State.jobOf, hpj, hb] at hj

theorem LiveCountsExact.live {s : State} (h : LiveCountsExact s) {j : JobSlot} {b : Job} (hb : s.job j = some b) :
    s.countPieces (·.job == some j) = b.live := by
  rw [(liveCountsExact_iff s).1 h, State.liveOf, hb]
  rfl

theorem LiveCountsExact.empty {s : State} (h : LiveCountsExact s) {j : JobSlot} (hb : s.job j = none) :
    s.countPieces (·.job == some j) = 0 := by
  rw [(liveCountsExact_iff s).1 h, State.liveOf, hb]
  rfl

theorem LiveCountsExact.setOne {s u : State} (h : LiveCountsExact s) {j : JobSlot} {o : Option Job}
    (hjob : ∀ i, u.job i = if i = j then o else s.job i)
    (hj : u.countPieces (·.job == some j) = (o.map Job.live).getD 0)
    (hi : ∀ i, i ≠ j → u.countPieces (·.job == some i) = s.countPieces (·.job == some i)) : LiveCountsExact u := by
  refine (liveCountsExact_iff u).2 fun i => ?_
  rw [State.liveOf, hjob]
  by_cases hij : i = j
  · rw [if_pos hij, hij, hj]
  · rw [if_neg hij, hi i hij, (liveCountsExact_iff s).1 h, State.liveOf]

theorem Job.settled_live (b : Job) (k : Retirement) : (b.settled k).live = b.live - 1 := by cases k <;> rfl

theorem Job.settled_key (b : Job) (k : Retirement) : (b.settled k).key = b.key := by cases k <;> rfl

theorem Job.settled_numbered (b : Job) (k : Retirement) : (b.settled k).numbered = b.numbered := by cases k <;> rfl

theorem LiveCountsExact.same {s u : State} (hu : SameBooks s u) (h : LiveCountsExact s) : LiveCountsExact u :=
  (liveCountsExact_iff u).2 fun j => by
    rw [hu.countPieces (tallied_live j), (liveCountsExact_iff s).1 h, State.liveOf, State.liveOf, hu.job]

theorem bookLaw_live {limited : Prop} : BookLaw limited LiveCountsExact where
  same hu h := LiveCountsExact.same hu.sameBooks h
  strike {s k t p j b} hp hj hb _ h := by
    have hcount := fun i => State.countPieces_checkOut (k := k) (j := j) (b := b) hp (·.job == some i)
    refine LiveCountsExact.setOne h (State.jobs_checkOut s k t p j b) ?_ fun i hi => ?_
    · have := hcount j
      rw [LiveCountsExact.live h hb] at this
      simp only [hj, beq_self_eq_true, if_true] at this
      simp only [Option.map_some, Option.getD_some, Job.settled_live]
      omega
    · have := hcount i
      simp only [hj, Option.some_beq_some, beq_iff_eq, Ne.symm hi, if_false] at this
      omega
  strikeJobless {s t p} hp hj h := (liveCountsExact_iff _).2 fun i => by
    have hj := LiveCountsExact.jobless h hp hj
    have := State.countPieces_gone hp (·.job == some i)
    simp only [hj] at this
    rw [(liveCountsExact_iff s).1 h] at this
    exact this.symm
  restateJob {s j b b'} hb hr h := by
    refine LiveCountsExact.setOne h (fun i => s.job_setJob j i _) ?_ fun i _ => State.countPieces_congr rfl _
    rw [State.countPieces_congr (s := s) (u := s.setJob j (some b')) rfl, LiveCountsExact.live h hb, hr.1]
    rfl
  emptyJob {s j b} hb hl h := by
    have hpiece := State.piece_congr (s.pool_emptyJob j b)
    refine LiveCountsExact.setOne h (s.jobs_emptyJob j b) ?_ fun i _ => State.countPieces_congr hpiece _
    rw [State.countPieces_congr hpiece, LiveCountsExact.live h hb, hl]
    rfl

theorem LiveCountsExact.enter {s : State} {t : Tag} {key : Word32} (measured : Bool) (copy thickness : Nat)
    (ht : s.piece t = none) (h : LiveCountsExact s) :
    LiveCountsExact ((s.setPiece t (some (s.newPiece measured (s.admittingJob key) copy thickness))).enterJob
      (s.admittingJob key) (s.newPiece measured (s.admittingJob key) copy thickness)) := by
  have hcount := fun i => (State.countPieces_congr (State.piece_enterJob (s.setPiece t (some (s.newPiece measured
    (s.admittingJob key) copy thickness))) (s.admittingJob key) (s.newPiece measured (s.admittingJob key) copy
      thickness)) (·.job == some i)).trans (State.countPieces_setPiece ht _ (·.job == some i))
  cases hfound : s.admittingJob key with
  | none =>
    rw [hfound] at hcount
    refine (liveCountsExact_iff _).2 fun i => (hcount i).trans ?_
    rw [(liveCountsExact_iff s).1 h]
    simp [State.newPiece]
    rfl
  | some jb =>
    obtain ⟨j, b⟩ := jb
    rw [hfound] at hcount
    have hb := (State.admittingJob_some hfound).1
    refine LiveCountsExact.setOne h (State.jobs_enterJob _ j b _) ?_ fun i hi => ?_
    · rw [hcount j, LiveCountsExact.live h hb]
      simp [State.newPiece]
    · rw [hcount i]
      simp [State.newPiece, Ne.symm hi]

theorem liveCountsExact_of_empty {u : State} (hp : ∀ v, u.piece v = none) (hj : ∀ j, u.job j = none) :
    LiveCountsExact u :=
  (liveCountsExact_iff _).2 fun j => by rw [State.countPieces_none hp, State.liveOf, hj]; rfl

theorem liveCountsExact_keptByBinding : KeptByBinding LiveCountsExact := by
  intro s j b p range r hj hp _ _ _ h
  refine LiveCountsExact.setOne h (State.jobs_bindJob s j b r) ?_ fun i _ => State.countPieces_congr (State.piece_congr (s.pool_bindJob j b r)) _
  rw [State.countPieces_congr (State.piece_congr (s.pool_bindJob j b r)), LiveCountsExact.empty h hj]
  exact (jobOfParams_some hp).2.2.2.1.symm

/-! ### Keys and copy tables -/

/-- A job's slot keeps its key, and its copy table keeps its length. -/
theorem JobTableSound.sub {s u : State} (h : JobTableSound s) (hu : ∀ i c, u.job i = some c →
    ∃ b, s.job i = some b ∧ c.key = b.key ∧ c.numbered = b.numbered ∧
      ∀ n, c.numbered = some n → (u.copyTables[n.table]).length = (s.copyTables[n.table]).length) : JobTableSound u := by
  obtain ⟨hkey, hrange, htable⟩ := h
  refine ⟨fun j k b c hb hc e => ?_, fun j b n hb hn => ?_, fun j k b c n m hb hc hn hm e => ?_⟩
  · obtain ⟨b', hb', hkb, -⟩ := hu j b hb
    obtain ⟨c', hc', hkc, -⟩ := hu k c hc
    exact hkey j k b' c' hb' hc' (hkb.symm.trans (e.trans hkc))
  · obtain ⟨b', hb', -, hnb, hlen⟩ := hu j b hb
    rw [hlen n hn]
    exact hrange j b' n hb' (hnb.symm.trans hn)
  · obtain ⟨b', hb', -, hnb, -⟩ := hu j b hb
    obtain ⟨c', hc', -, hnc, -⟩ := hu k c hc
    exact htable j k b' c' n m hb' hc' (hnb.symm.trans hn) (hnc.symm.trans hm) e

/-- One slot's job changes, its key and numbering apart, and the tables keep their lengths. -/
theorem JobTableSound.setOne {s u : State} (h : JobTableSound s) {j : JobSlot} {b b' : Job} (hb : s.job j = some b)
    (hkey : b'.key = b.key) (hnum : b'.numbered = b.numbered)
    (hjob : ∀ i, u.job i = if i = j then some b' else s.job i)
    (hlen : ∀ m : CopyTableId, (u.copyTables[m]).length = (s.copyTables[m]).length) : JobTableSound u := by
  refine JobTableSound.sub h fun i c hc => ?_
  rw [hjob] at hc
  split at hc
  · next hij =>
    subst hij
    cases hc
    exact ⟨b, hb, hkey, hnum, fun n _ => hlen _⟩
  · exact ⟨c, hc, rfl, rfl, fun n _ => hlen _⟩

theorem State.length_checkOut (s : State) (k : Retirement) (t : Tag) (p : Piece) (j : JobSlot) (b : Job) (m : CopyTableId) :
    ((s.checkOut k t p j b).copyTables[m]).length = (s.copyTables[m]).length := by
  unfold State.checkOut State.settleCopy
  split
  · split
    · exact State.length_setCopyEntry (s.setJob j (some (b.settled k))) _ _ _ m
    · rfl
  · rfl

theorem State.length_enterJob (s : State) (found : Option (JobSlot × Job)) (p : Piece) (m : CopyTableId) :
    ((s.enterJob found p).copyTables[m]).length = (s.copyTables[m]).length := by
  unfold State.enterJob
  split
  · rfl
  · dsimp only
    split
    · split
      · exact State.length_setCopyEntry (s.setJob _ _) _ _ _ m
      · rfl
    · rfl

/-! ### Copy entries -/

/-- R77: the entry of a copy and the records that carry it. -/
def CopyAgrees (s : State) (j : JobSlot) (n : Numbering) (copy : Nat) : Prop :=
  s.countPieces (Piece.carries j copy) ≤ 1 ∧
    ((s.copyTables[n.table])[copy - n.first]? = some .inLine ↔ s.countPieces (Piece.carries j copy) = 1)

theorem copiesAgree_iff (s : State) :
    CopiesAgree s ↔ ∀ j b n, s.job j = some b → b.numbered = some n → ∀ copy, n.first ≤ copy → copy ≤ n.last →
      CopyAgrees s j n copy := by
  simp only [CopiesAgree, CopyAgrees, cleanCarriers_eq]

theorem CopyAgrees.congr {s u : State} {j : JobSlot} {n : Numbering} {copy : Nat} (h : CopyAgrees s j n copy)
    (hcount : s.countPieces (Piece.carries j copy) = u.countPieces (Piece.carries j copy))
    (htable : u.copyTables[n.table] = s.copyTables[n.table]) : CopyAgrees u j n copy := by
  rwa [CopyAgrees, htable, ← hcount]

/-- Records, numberings and entries that stay. -/
theorem CopiesAgree.sub {s u : State} (h : CopiesAgree s) (hpiece : u.piece = s.piece)
    (hu : ∀ i c n, u.job i = some c → c.numbered = some n →
      (∃ b, s.job i = some b ∧ b.numbered = some n) ∧ u.copyTables[n.table] = s.copyTables[n.table]) :
    CopiesAgree u := by
  refine (copiesAgree_iff u).2 fun i c n hc hn copy h1 h2 => ?_
  obtain ⟨⟨b, hb, hbn⟩, htable⟩ := hu i c n hc hn
  have := (copiesAgree_iff s).1 h i b n hb hbn copy h1 h2
  rwa [CopyAgrees, htable, State.countPieces_congr hpiece]

theorem Retirement.copyState_ne (k : Retirement) (v : Bool) : k.copyState v ≠ .inLine := by
  cases k <;> cases v <;> decide

/-- R76: what a piece that is struck out does to the entries of its job. -/
theorem CopyAgrees.checkOut {s : State} {k : Retirement} {t : Tag} {p : Piece} {j : JobSlot} {b : Job} {n : Numbering}
    {copy : Nat} (hp : s.piece t = some p) (hj : p.job = some j) (hn : b.numbered = some n) (h1 : n.first ≤ copy)
    (h2 : copy ≤ n.last) (hlen : (s.copyTables[n.table]).length = n.last - n.first + 1) (h : CopyAgrees s j n copy) :
    CopyAgrees (s.checkOut k t p j b) j n copy := by
  have hcount := State.countPieces_checkOut (k := k) (j := j) (b := b) hp (Piece.carries j copy)
  obtain ⟨hle, hiff⟩ := h
  by_cases hcarry : p.carries j copy = true
  · obtain ⟨-, hc, hclean⟩ := (Piece.carries_iff j copy p).1 hcarry
    rw [if_pos hcarry] at hcount
    have hentry : ((s.checkOut k t p j b).copyTables[n.table])[copy - n.first]? = some (k.copyState p.copyVerified) := by
      simp only [State.checkOut, State.settleCopy, hn, hc, hclean, if_true]
      exact State.entry_setCopyEntry_self (s.setJob j (some (b.settled k))) h1 h2 hlen _
    refine ⟨by omega, ?_⟩
    rw [hentry]
    have := k.copyState_ne p.copyVerified
    simp only [Option.some.injEq, this, false_iff]
    omega
  · rw [if_neg hcarry] at hcount
    have hentry : ((s.checkOut k t p j b).copyTables[n.table])[copy - n.first]? =
        (s.copyTables[n.table])[copy - n.first]? := by
      unfold State.checkOut State.settleCopy
      split
      · next n' c hn' hc =>
        obtain rfl : n = n' := Option.some.inj (hn.symm.trans hn')
        split
        · next hclean =>
          exact State.entry_setCopyEntry_ne (s.setJob j (some (b.settled k))) h1
            (fun e => hcarry ((Piece.carries_iff j copy p).2 ⟨hj, e ▸ hc, hclean⟩)) _ _
        · rfl
      · rfl
    have hcount : s.countPieces (Piece.carries j copy) = (s.checkOut k t p j b).countPieces (Piece.carries j copy) := by
      simpa using hcount
    rw [CopyAgrees, hentry, ← hcount]
    exact ⟨hle, hiff⟩

/-- The tables of other jobs are not those of a piece's job. -/
theorem State.tables_checkOut {s : State} {k : Retirement} {t : Tag} {p : Piece} {j : JobSlot} {b : Job}
    {m : CopyTableId} (hm : ∀ n, b.numbered = some n → m ≠ n.table) :
    (s.checkOut k t p j b).copyTables[m] = s.copyTables[m] := by
  unfold State.checkOut State.settleCopy
  split
  · next n c hn _ =>
    split
    · refine (State.tables_setCopyEntry (s.setJob j (some (b.settled k))) n c _ m).trans (if_neg ?_)
      exact fun h => hm n hn h.2
    · rfl
  · rfl

theorem State.tables_enterJob {s : State} {j : JobSlot} {b : Job} {p : Piece}
    {m : CopyTableId} (hm : ∀ n, b.numbered = some n → m ≠ n.table) :
    (s.enterJob (some (j, b)) p).copyTables[m] = s.copyTables[m] := by
  unfold State.enterJob
  dsimp only
  split
  · next n c hn _ =>
    split
    · refine (State.tables_setCopyEntry (s.setJob j _) n c _ m).trans (if_neg ?_)
      exact fun h => hm n hn h.2
    · rfl
  · rfl

/-! ### Faults of an admission -/

theorem State.newPiece_copyFaults (s : State) (measured : Bool) (j : JobSlot) (b : Job) (copy thickness : Nat) :
    (s.newPiece measured (some (j, b)) copy thickness).faults &&& 0x000C = s.copyFaults b copy &&& 0x000C := by
  simp only [State.newPiece, Option.map_some, State.admissionFaults, FaultSet.addIf, FaultSet.add]
  split <;> split <;> simp [BitVec.and_or_distrib_right, FaultKind.bit]

/-- R70: a piece admitted without OVER_QUANTITY found its job short of its quantity. -/
theorem State.newPiece_overQuantity {s : State} {measured : Bool} {j : JobSlot} {b : Job} {copy thickness : Nat}
    (h : (s.newPiece measured (some (j, b)) copy thickness).faults &&& 0x0002 = 0) : overQuantity b = false := by
  by_contra hover
  have hover : overQuantity b = true := by simpa using hover
  have hbit : (s.newPiece measured (some (j, b)) copy thickness).faults &&& 0x0002 = 0x0002 := by
    have hself : ∀ x : FaultSet, (x ||| 0x0002) &&& 0x0002 = 0x0002 := fun x => by
      rw [BitVec.and_or_distrib_right]
      ext i hi
      simp
    simp only [State.newPiece, Option.map_some, State.admissionFaults, FaultSet.addIf, FaultSet.add, hover, if_true,
      FaultKind.bit]
    split
    · rw [BitVec.or_assoc, BitVec.or_comm 0x0002, ← BitVec.or_assoc]
      exact hself _
    · exact hself _
  rw [hbit] at h
  exact absurd h (by decide)

/-- R71, R73: a clean copy of a numbered job lies in its range, and its entry shows no copy in line. -/
theorem State.newPiece_clean {s : State} {measured : Bool} {j : JobSlot} {b : Job} {n : Numbering} {copy thickness : Nat}
    (hn : b.numbered = some n)
    (h : (s.newPiece measured (some (j, b)) copy thickness).faults.cleanCopy = true) :
    (s.newPiece measured (some (j, b)) copy thickness).copy = some copy ∧ n.first ≤ copy ∧ copy ≤ n.last ∧
      (s.copyTables[n.table])[copy - n.first]? ≠ some .inLine := by
  rw [FaultSet.cleanCopy_iff, State.newPiece_copyFaults] at h
  simp only [State.copyFaults, hn] at h
  split at h
  · exact absurd h (by decide)
  · next hin =>
    obtain ⟨h0, hrange⟩ := not_or.1 hin
    have hrange : n.first ≤ copy ∧ copy ≤ n.last := by
      simpa [Numbering.inRange] using hrange
    refine ⟨by simp [State.newPiece, admittedCopy, hn, h0], hrange.1, hrange.2, fun he => ?_⟩
    have hentry : s.copyEntry n copy = some .inLine := by rw [State.copyEntry, if_pos hrange, he]
    simp only [hentry, takenCopy, FaultSet.addIf, if_true] at h
    exact absurd h (by decide)

/-- R66, R76: what an admitted piece does to the entries of its job. -/
theorem CopyAgrees.enterJob {s : State} {t : Tag} {measured : Bool} {j : JobSlot} {b : Job} {n : Numbering}
    {copy : Nat} {c thickness : Nat} (ht : s.piece t = none) (hn : b.numbered = some n) (h1 : n.first ≤ copy)
    (h2 : copy ≤ n.last) (hlen : (s.copyTables[n.table]).length = n.last - n.first + 1) (h : CopyAgrees s j n copy) :
    CopyAgrees ((s.setPiece t (some (s.newPiece measured (some (j, b)) c thickness))).enterJob (some (j, b))
      (s.newPiece measured (some (j, b)) c thickness)) j n copy := by
  have hjob : (s.newPiece measured (some (j, b)) c thickness).job = some j := rfl
  have hclean := fun h => State.newPiece_clean (s := s) (measured := measured) (j := j) (b := b) (copy := c)
    (thickness := thickness) hn h
  generalize s.newPiece measured (some (j, b)) c thickness = p at *
  have hcount := (State.countPieces_congr (State.piece_enterJob (s.setPiece t (some p)) (some (j, b)) p)
    (Piece.carries j copy)).trans (State.countPieces_setPiece ht p (Piece.carries j copy))
  obtain ⟨hle, hiff⟩ := h
  by_cases hcarry : p.carries j copy = true
  · obtain ⟨-, hc, hcl⟩ := (Piece.carries_iff j copy p).1 hcarry
    obtain ⟨hcopy, -, -, hnot⟩ := hclean hcl
    obtain rfl : c = copy := Option.some.inj (hcopy.symm.trans hc)
    rw [if_pos hcarry] at hcount
    have hentry : (((s.setPiece t (some p)).enterJob (some (j, b)) p).copyTables[n.table])[c - n.first]? =
        some .inLine := by
      simp only [State.enterJob, hn, hc, hcl, if_true]
      exact State.entry_setCopyEntry_self ((s.setPiece t (some p)).setJob j _) h1 h2 hlen _
    have hzero : s.countPieces (Piece.carries j c) ≠ 1 := fun e => hnot (hiff.2 e)
    rw [CopyAgrees, hentry]
    exact ⟨by omega, by simp; omega⟩
  · rw [if_neg hcarry] at hcount
    have hentry : (((s.setPiece t (some p)).enterJob (some (j, b)) p).copyTables[n.table])[copy - n.first]? =
        (s.copyTables[n.table])[copy - n.first]? := by
      unfold State.enterJob
      dsimp only
      split
      · next n' c' hn' hc' =>
        obtain rfl : n = n' := Option.some.inj (hn.symm.trans hn')
        split
        · next hcl =>
          exact State.entry_setCopyEntry_ne ((s.setPiece t (some p)).setJob j _) h1
            (fun e => hcarry ((Piece.carries_iff j copy p).2 ⟨hjob, e ▸ hc', hcl⟩)) _ _
        · rfl
      · rfl
    rw [CopyAgrees, hentry, hcount]
    exact ⟨hle, hiff⟩

/-! ### The laws of the jobs -/

/-- The laws of the jobs; the last only where `limited` holds. -/
structure BooksSound (limited : Prop) (s : State) : Prop where
  table : JobTableSound s
  live : LiveCountsExact s
  copies : CopiesAgree s
  good : limited → GoodWithinLimit s

theorem goodWithinLimit_iff (s : State) : GoodWithinLimit s ↔
    ∀ j b, s.job j = some b → b.good + s.countPieces (Piece.countsFor j) ≤ b.ordered + b.allowance := by
  simp only [GoodWithinLimit, withinLimit_eq]

theorem LiveCountsExact.countsFor_le {s : State} (h : LiveCountsExact s) {j : JobSlot} {b : Job}
    (hb : s.job j = some b) : s.countPieces (Piece.countsFor j) ≤ b.live := by
  rw [← LiveCountsExact.live h hb]
  exact s.countPieces_le fun p hp => by
    simp only [Piece.countsFor, Bool.and_eq_true] at hp
    exact hp.1

variable {limited : Prop} {s u : State}

theorem BooksSound.same (hu : SameBooks s u) (h : BooksSound limited s) : BooksSound limited u where
  table := JobTableSound.sub h.table fun i c hc => ⟨c, by rwa [← hu.job], rfl, rfl, fun n _ => by rw [hu.copyTables]⟩
  live := LiveCountsExact.same hu h.live
  copies := by
    refine (copiesAgree_iff u).2 fun j b n hb hn copy h1 h2 => ?_
    rw [hu.job] at hb
    have := (copiesAgree_iff s).1 h.copies j b n hb hn copy h1 h2
    rwa [CopyAgrees, hu.countPieces (tallied_carries j copy), hu.copyTables]
  good hl := (goodWithinLimit_iff u).2 fun j b hb => by
    rw [hu.job] at hb
    rw [hu.countPieces (tallied_countsFor j)]
    exact (goodWithinLimit_iff s).1 (h.good hl) j b hb

theorem Piece.carries_of_ne {i j : JobSlot} {p : Piece} (hj : p.job = some j) (hij : i ≠ j) (copy : Nat) :
    p.carries i copy = false := by
  simp [Piece.carries, hj, Ne.symm hij]

theorem Piece.countsFor_of_ne {i j : JobSlot} {p : Piece} (hj : p.job = some j) (hij : i ≠ j) :
    p.countsFor i = false := by
  simp [Piece.countsFor, hj, Ne.symm hij]

theorem BooksSound.strike {k : Retirement} {t : Tag} {p : Piece} {j : JobSlot} {b : Job} (hp : s.piece t = some p)
    (hj : p.job = some j) (hb : s.job j = some b) (hk : limited → k = .delivered → p.faults &&& 0x0002 = 0)
    (h : BooksSound limited s) : BooksSound limited (s.checkOut k t p j b) where
  table := JobTableSound.setOne h.table hb (b.settled_key k) (b.settled_numbered k) (s.jobs_checkOut k t p j b)
    (s.length_checkOut k t p j b)
  live := bookLaw_live.strike hp hj hb hk h.live
  copies := by
    refine (copiesAgree_iff _).2 fun i c n hc hn copy h1 h2 => ?_
    rw [State.jobs_checkOut] at hc
    split at hc
    · next hij =>
      subst hij
      cases hc
      rw [Job.settled_numbered] at hn
      obtain ⟨-, -, -, -, hlen⟩ := h.table.2.1 i b n hb hn
      exact CopyAgrees.checkOut hp hj hn h1 h2 hlen ((copiesAgree_iff s).1 h.copies i b n hb hn copy h1 h2)
    · next hij =>
      have hold := (copiesAgree_iff s).1 h.copies i c n hc hn copy h1 h2
      have hcount := State.countPieces_checkOut (k := k) (j := j) (b := b) hp (Piece.carries i copy)
      rw [Piece.carries_of_ne hj hij] at hcount
      exact hold.congr (by simpa using hcount)
        (State.tables_checkOut fun m hm e => hij (h.table.2.2 i j c b n m hc hb hn hm e))
  good hl := by
    refine (goodWithinLimit_iff _).2 fun i c hc => ?_
    have hcount := State.countPieces_checkOut (k := k) (j := j) (b := b) hp (Piece.countsFor i)
    have hold := (goodWithinLimit_iff s).1 (h.good hl)
    rw [State.jobs_checkOut] at hc
    split at hc
    · next hij =>
      subst hij
      cases hc
      have := hold i b hb
      cases k with
      | delivered =>
        have hcounts : p.countsFor i = true := by
          have := hk hl rfl
          simpa [Piece.countsFor, hj] using this
        rw [hcounts, if_pos rfl] at hcount
        simp only [Job.settled]
        omega
      | _ =>
        simp only [Job.settled]
        omega
    · next hij =>
      have := hold i c hc
      omega

theorem BooksSound.strikeJobless {t : Tag} {p : Piece} (hp : s.piece t = some p) (hb : s.jobOf p = none)
    (h : BooksSound limited s) : BooksSound limited (s.setPiece t none) where
  table := h.table
  live := (bookLaw_live (limited := limited)).strikeJobless hp hb h.live
  copies := by
    refine (copiesAgree_iff _).2 fun i c n hc hn copy h1 h2 => ?_
    have hold := (copiesAgree_iff s).1 h.copies i c n hc hn copy h1 h2
    have hcount := State.countPieces_gone hp (Piece.carries i copy)
    have hj := LiveCountsExact.jobless h.live hp hb
    have hcarry : p.carries i copy = false := by simp [Piece.carries, hj]
    exact hold.congr (by simpa [hcarry] using hcount) rfl
  good hl := by
    refine (goodWithinLimit_iff _).2 fun i c hc => ?_
    have hcount := State.countPieces_gone hp (Piece.countsFor i)
    have := (goodWithinLimit_iff s).1 (h.good hl) i c hc
    omega

theorem Restated.same_key {b b' : Job} (h : Restated b b') :
    b'.key = b.key ∧ b'.numbered = b.numbered ∧ b'.good = b.good ∧ b'.live = b.live := by
  obtain ⟨h, -⟩ := h
  rw [h]
  exact ⟨rfl, rfl, rfl, rfl⟩

theorem BooksSound.restateJob {j : JobSlot} {b b' : Job} (hb : s.job j = some b) (hr : Restated b b')
    (h : BooksSound limited s) : BooksSound limited (s.setJob j (some b')) := by
  obtain ⟨hkey, hnum, hgood, -⟩ := hr.same_key
  refine ⟨JobTableSound.setOne h.table hb hkey hnum (fun i => s.job_setJob j i _) fun m => rfl,
    (bookLaw_live (limited := limited)).restateJob hb hr h.live, CopiesAgree.sub h.copies rfl fun i c n hc hn => ⟨?_, rfl⟩, fun hl => ?_⟩
  · rw [State.job_setJob] at hc
    split at hc
    · next hij =>
      subst hij
      cases hc
      exact ⟨b, hb, hnum ▸ hn⟩
    · exact ⟨c, hc, hn⟩
  · refine (goodWithinLimit_iff _).2 fun i c hc => ?_
    rw [State.countPieces_congr (s := s) (u := s.setJob j (some b')) rfl]
    rw [State.job_setJob] at hc
    split at hc
    · next hij =>
      subst hij
      cases hc
      have hold := (goodWithinLimit_iff s).1 (h.good hl) i b hb
      have hle := LiveCountsExact.countsFor_le h.live hb
      rcases hr.2 with ⟨ho, ha⟩ | hcover
      · omega
      · omega
    · exact (goodWithinLimit_iff s).1 (h.good hl) i c hc

theorem BooksSound.emptyJob {j : JobSlot} {b : Job} (hb : s.job j = some b) (hl : b.live = 0)
    (h : BooksSound limited s) : BooksSound limited (s.emptyJob j b) := by
  have hpiece := State.piece_congr (s.pool_emptyJob j b)
  have hjob : ∀ i c, (s.emptyJob j b).job i = some c → i ≠ j ∧ s.job i = some c := fun i c hc => by
    rw [State.jobs_emptyJob] at hc
    split at hc
    · cases hc
    · next hij => exact ⟨hij, hc⟩
  have htable : ∀ i c n, (s.emptyJob j b).job i = some c → c.numbered = some n →
      (s.emptyJob j b).copyTables[n.table] = s.copyTables[n.table] := fun i c n hc hn => by
    obtain ⟨hij, hc⟩ := hjob i c hc
    exact s.tables_emptyJob j b n.table fun m hm e => hij (h.table.2.2 i j c b n m hc hb hn hm e)
  refine ⟨JobTableSound.sub h.table fun i c hc => ⟨c, (hjob i c hc).2, rfl, rfl, fun n hn => by rw [htable i c n hc hn]⟩,
    (bookLaw_live (limited := limited)).emptyJob hb hl h.live,
    CopiesAgree.sub h.copies hpiece fun i c n hc hn => ⟨⟨c, (hjob i c hc).2, hn⟩, htable i c n hc hn⟩, fun hg => ?_⟩
  refine (goodWithinLimit_iff _).2 fun i c hc => ?_
  rw [State.countPieces_congr hpiece]
  exact (goodWithinLimit_iff s).1 (h.good hg) i c (hjob i c hc).2

theorem BooksSound.bindJob {j : JobSlot} {b : Job} {p : JobParams} {range : Option (Nat × Nat)}
    (r : Option (Nat × Nat × CopyTableId)) (hj : s.job j = none) (hp : jobOfParams p = some (b, range))
    (hkey : s.findJob p.key = none) (hr : r.map (fun x => (x.1, x.2.1)) = range)
    (hfree : ∀ x ∈ r, s.freeTable = some x.2.2) (h : BooksSound limited s) : BooksSound limited (s.bindJob j b r) := by
  obtain ⟨hbk, hbn, hbg, -, hrange⟩ := jobOfParams_some hp
  have hpiece := State.piece_congr (s.pool_bindJob j b r)
  have hnew : ∀ n, (match r with
      | none => b.numbered
      | some (first, last, t) => some { first := first, last := last, table := t }) = some n →
      ∃ x ∈ r, n = { first := x.1, last := x.2.1, table := x.2.2 } ∧ (1 ≤ n.first ∧ n.first ≤ n.last ∧ n.last ≤ 65535 ∧
        n.last - n.first + 1 ≤ 2048) ∧ s.freeTable = some n.table ∧
        (s.bindJob j b r).copyTables[n.table] = List.replicate (n.last - n.first + 1) .unseen := fun n hn => by
    rcases r with - | ⟨first, last, t⟩
    · rw [hbn] at hn
      cases hn
    · cases hn
      refine ⟨_, rfl, rfl, ?_, hfree _ rfl, by simp [State.bindJob]⟩
      exact hrange (first, last) (by rw [← hr]; rfl)
  have htable : ∀ i c n, i ≠ j → s.job i = some c → c.numbered = some n →
      (s.bindJob j b r).copyTables[n.table] = s.copyTables[n.table] := fun i c n hij hc hn => by
    rcases r with - | ⟨first, last, t⟩
    · rfl
    · have hne := State.freeTable_notMem (hfree _ rfl) hc hn
      have : t.val ≠ n.table.val := fun e => hne (Fin.ext e.symm)
      simp [State.bindJob, this]
  obtain ⟨hkeys, hranges, htables⟩ := h.table
  have hzero : s.countPieces (·.job == some j) = 0 := LiveCountsExact.empty h.live hj
  refine ⟨⟨fun i k c d hc hd e => ?_, fun i c n hc hn => ?_, fun i k c d n m hc hd hn hm e => ?_⟩,
    liveCountsExact_keptByBinding r hj hp hkey hr hfree h.live, ?_, fun hl => ?_⟩
  · rw [State.jobs_bindJob] at hc hd
    split at hc <;> split at hd
    · next hi hk => rw [hi, hk]
    · cases hc
      exact absurd (e.symm.trans hbk) (State.findJob_none hkey k d hd)
    · cases hd
      exact absurd (e.trans hbk) (State.findJob_none hkey i c hc)
    · exact hkeys i k c d hc hd e
  · rw [State.jobs_bindJob] at hc
    split at hc
    · cases hc
      obtain ⟨x, -, -, ⟨h1, h2, h3, h4⟩, -, htab⟩ := hnew n hn
      exact ⟨h1, h2, h3, h4, by rw [htab, List.length_replicate]⟩
    · next hij =>
      rw [htable i c n hij hc hn]
      exact hranges i c n hc hn
  · rw [State.jobs_bindJob] at hc hd
    split at hc <;> split at hd
    · next hi hk => rw [hi, hk]
    · next hk =>
      cases hc
      obtain ⟨x, -, -, -, hf, -⟩ := hnew n hn
      exact absurd e.symm (State.freeTable_notMem hf hd hm)
    · next hi _ =>
      cases hd
      obtain ⟨x, -, -, -, hf, -⟩ := hnew m hm
      exact absurd e (State.freeTable_notMem hf hc hn)
    · exact htables i k c d n m hc hd hn hm e
  · refine (copiesAgree_iff _).2 fun i c n hc hn copy h1 h2 => ?_
    rw [State.jobs_bindJob] at hc
    split at hc
    · next hij =>
      subst hij
      cases hc
      obtain ⟨x, -, -, -, -, htab⟩ := hnew n hn
      have hnone : (s.bindJob i b r).countPieces (Piece.carries i copy) = 0 := by
        rw [State.countPieces_congr hpiece]
        have hle : s.countPieces (Piece.carries i copy) ≤ s.countPieces (·.job == some i) :=
          s.countPieces_le fun p hp => by simp [((Piece.carries_iff i copy p).1 hp).1]
        omega
      rw [CopyAgrees, hnone, htab]
      refine ⟨by omega, ?_⟩
      simp only [List.getElem?_replicate]
      split <;> simp
    · next hij =>
      exact ((copiesAgree_iff s).1 h.copies i c n hc hn copy h1 h2).congr (State.countPieces_congr hpiece _).symm
        (htable i c n hij hc hn)
  · refine (goodWithinLimit_iff _).2 fun i c hc => ?_
    rw [State.countPieces_congr hpiece]
    rw [State.jobs_bindJob] at hc
    split at hc
    · next hij =>
      subst hij
      cases hc
      have hle : s.countPieces (Piece.countsFor i) ≤ s.countPieces (·.job == some i) :=
        s.countPieces_le fun p hp => by
          simp only [Piece.countsFor, Bool.and_eq_true] at hp
          exact hp.1
      simp only
      omega
    · exact (goodWithinLimit_iff s).1 (h.good hl) i c hc

/-- R65, R70: a job that admits a piece without OVER_QUANTITY is RUNNING and short of its quantity. -/
theorem State.short_of_admitting {key : Word32} {j : JobSlot} {b : Job} (hfound : s.admittingJob key = some (j, b))
    (hwaits : s.jobWaits key = false) (hover : overQuantity b = false) : b.good + b.live < b.ordered + b.allowance := by
  have hclosing := (State.admittingJob_some hfound).2
  simp only [State.jobWaits, hfound] at hwaits
  simp only [overQuantity] at hover
  cases hst : b.state <;> simp_all

theorem BooksSound.enter {t : Tag} {key : Word32} (measured : Bool) (copy thickness : Nat) (ht : s.piece t = none)
    (hwaits : s.jobWaits key = false) (h : BooksSound limited s) :
    BooksSound limited ((s.setPiece t (some (s.newPiece measured (s.admittingJob key) copy thickness))).enterJob
      (s.admittingJob key) (s.newPiece measured (s.admittingJob key) copy thickness)) := by
  have hlive := LiveCountsExact.enter (key := key) measured copy thickness ht h.live
  cases hfound : s.admittingJob key with
  | none =>
    rw [hfound] at hlive
    have hcount := fun f => State.countPieces_setPiece ht (s.newPiece measured none copy thickness) f
    refine ⟨h.table, hlive, (copiesAgree_iff _).2 fun i c n hc hn d h1 h2 => ?_,
      fun hl => (goodWithinLimit_iff _).2 fun i c hc => ?_⟩
    · have hnot : (s.newPiece measured none copy thickness).carries i d = false := by
        simp [Piece.carries, State.newPiece]
      exact ((copiesAgree_iff s).1 h.copies i c n hc hn d h1 h2).congr
        ((hcount (Piece.carries i d)).trans (by simp [hnot])).symm rfl
    · have hnot : (s.newPiece measured none copy thickness).countsFor i = false := by
        simp [Piece.countsFor, State.newPiece]
      have := (goodWithinLimit_iff s).1 (h.good hl) i c hc
      have heq := hcount (Piece.countsFor i)
      rw [hnot] at heq
      simp only [Bool.false_eq_true, if_false, Nat.add_zero] at heq
      change c.good + (s.setPiece t _).countPieces _ ≤ _
      rwa [heq]
  | some jb =>
    obtain ⟨j, b⟩ := jb
    rw [hfound] at hlive
    have hb := (State.admittingJob_some hfound).1
    have hover := fun h => State.short_of_admitting hfound hwaits (State.newPiece_overQuantity (s := s)
      (measured := measured) (j := j) (b := b) (copy := copy) (thickness := thickness) h)
    have hjob : (s.newPiece measured (some (j, b)) copy thickness).job = some j := rfl
    have hcopies := fun n hn d h1 h2 hlen h => CopyAgrees.enterJob (s := s) (t := t) (measured := measured) (j := j)
      (b := b) (n := n) (copy := d) (c := copy) (thickness := thickness) ht hn h1 h2 hlen h
    generalize s.newPiece measured (some (j, b)) copy thickness = p at *
    have hcount := fun f => (State.countPieces_congr (State.piece_enterJob (s.setPiece t (some p)) (some (j, b)) p)
      f).trans (State.countPieces_setPiece ht p f)
    have hjobs := State.jobs_enterJob (s.setPiece t (some p)) j b p
    refine ⟨JobTableSound.setOne h.table (j := j) (b := b) (b' := { b with live := b.live + 1 }) hb rfl rfl hjobs
      fun m => (s.setPiece t (some p)).length_enterJob (some (j, b)) p m, hlive, ?_, fun hl => ?_⟩
    · refine (copiesAgree_iff _).2 fun i c n hc hn d h1 h2 => ?_
      rw [hjobs] at hc
      split at hc
      · next hij =>
        subst hij
        cases hc
        obtain ⟨-, -, -, -, hlen⟩ := h.table.2.1 i b n hb hn
        exact hcopies n hn d h1 h2 hlen ((copiesAgree_iff s).1 h.copies i b n hb hn d h1 h2)
      · next hij =>
        have hnot := Piece.carries_of_ne hjob hij d
        exact ((copiesAgree_iff s).1 h.copies i c n hc hn d h1 h2).congr
          (by simpa [hnot] using (hcount (Piece.carries i d)).symm)
          (State.tables_enterJob fun m hm e => hij (h.table.2.2 i j c b n m hc hb hn hm e))
    · refine (goodWithinLimit_iff _).2 fun i c hc => ?_
      have hold := (goodWithinLimit_iff s).1 (h.good hl)
      have heq := hcount (Piece.countsFor i)
      rw [hjobs] at hc
      split at hc
      · next hij =>
        subst hij
        cases hc
        have hle := LiveCountsExact.countsFor_le h.live hb
        have := hold i b hb
        by_cases hcounts : p.countsFor i = true
        · have hshort := hover (by simpa [Piece.countsFor, hjob] using hcounts)
          rw [heq, if_pos hcounts]
          simp only
          omega
        · rw [heq, if_neg hcounts]
          exact this
      · next hij =>
        rw [heq, Piece.countsFor_of_ne hjob hij]
        exact hold i c hc

theorem bookLaw_booksSound (limited : Prop) : BookLaw limited (BooksSound limited) where
  same hu h := h.same hu.sameBooks
  strike hp hj hb hk h := h.strike hp hj hb hk
  strikeJobless hp hj h := h.strikeJobless hp hj
  restateJob hb hr h := h.restateJob hb hr
  emptyJob hb hl h := h.emptyJob hb hl

theorem State.enterJob_counter (s : State) (n : Word16) (found : Option (JobSlot × Job)) (p : Piece) :
    SameBooks (s.enterJob found p) (State.enterJob { s with admissionCounter := n } found p) := by
  unfold State.enterJob State.setCopyEntry
  dsimp only
  split
  · exact .of_frame rfl rfl rfl
  · split
    · split
      · split <;> exact .of_frame rfl rfl rfl
      · exact .of_frame rfl rfl rfl
    · exact .of_frame rfl rfl rfl

theorem booksSound_keptByBinding (limited : Prop) : KeptByBinding (BooksSound limited) :=
  fun r hj hp hkey hr hfree h => h.bindJob r hj hp hkey hr hfree

theorem booksSound_enters (limited : Prop) : Enters (BooksSound limited) (BooksSound limited) :=
  fun measured copy thickness ht hwaits h =>
    (h.enter measured copy thickness ht hwaits).same (State.enterJob_counter _ _ _ _)

theorem liveCountsExact_enters : Enters LiveCountsExact LiveCountsExact :=
  fun measured copy thickness ht _ h =>
    LiveCountsExact.same (State.enterJob_counter _ _ _ _) (LiveCountsExact.enter measured copy thickness ht h)

theorem booksSound_of_empty {limited : Prop} {u : State} (hp : ∀ v, u.piece v = none) (hj : ∀ j, u.job j = none) :
    BooksSound limited u :=
  ⟨⟨by simp [hj], by simp [hj], by simp [hj]⟩, liveCountsExact_of_empty hp hj, by simp [CopiesAgree, hj],
    fun _ => by simp [GoodWithinLimit, hj]⟩

end Sys2Proof.Machine
end

section
/-! SUPPORT. O57: the laws of the jobs over every command and every step. -/

namespace Sys2Proof.Machine

open Sys2Proof.Safety

/-- The states agree in what the gate's orders rest on. -/
structure SameGate (s u : State) : Prop where
  piece : u.piece = s.piece
  job : u.job = s.job
  gateQueue : u.gateQueue = s.gateQueue
  gateInFlight : u.gateInFlight = s.gateInFlight
  station : ∀ a, (u.station a).orders = (s.station a).orders ∧ (u.station a).role = (s.station a).role ∧
    (u.station a).standing = (s.station a).standing ∧ (u.station a).abilities = (s.station a).abilities

theorem State.holder_congr {s u : State} (h : ∀ a, (u.station a).role = (s.station a).role ∧
    (u.station a).standing = (s.station a).standing) (r : Role) : u.holder r = s.holder r := by
  unfold State.holder
  congr 1
  funext a
  rw [(h a).1, (h a).2]

theorem SameGate.holder {s u : State} (h : SameGate s u) (r : Role) : u.holder r = s.holder r :=
  State.holder_congr (fun a => ⟨(h.station a).2.1, (h.station a).2.2.1⟩) r

theorem SameGate.of_stations {s u : State} (hp : u.pool = s.pool) (hj : u.jobs = s.jobs) (hq : u.gateQueue = s.gateQueue)
    (hf : u.gateInFlight = s.gateInFlight) (hs : u.stations = s.stations) : SameGate s u :=
  ⟨State.piece_congr hp, by funext j; simp [State.job, hj], hq, hf, fun a => by simp [State.station, hs]⟩

theorem SameGate.deliverable {s u : State} (h : SameGate s u) (o : Disposition) (p : Piece) :
    Deliverable u o p ↔ Deliverable s o p := by
  simp only [Deliverable, h.job, h.holder, (h.station _).2.2.2]

theorem SameGate.deliveriesSound {s u : State} (h : SameGate s u) (hs : DeliveriesSound s) : DeliveriesSound u := by
  obtain ⟨hwait, hflight⟩ := hs
  refine ⟨fun a o t p hin ho hp => ?_, fun f p hf hp hadm => ?_⟩
  · rw [(h.station a).1] at hin
    rw [h.piece] at hp
    exact (h.deliverable o p).2 (hwait a o t p hin ho hp)
  · rw [h.gateInFlight] at hf
    rw [h.piece] at hp
    obtain ⟨hq, hd⟩ := hflight f p hf hp hadm
    exact ⟨h.gateQueue ▸ hq, fun ho => (h.deliverable f.order p).2 (hd ho)⟩

theorem SameGate.inert {s u : State} (h : Inert s u) : SameGate s u :=
  .of_stations (by rw [h]) (by rw [h]) (by rw [h]) (by rw [h]) (by rw [h])

theorem SameGate.setLink (s : State) (l : Link) : SameGate s { s with link := l } := .of_stations rfl rfl rfl rfl rfl

theorem SameGate.markPresent (s : State) (a : Address) : SameGate s (s.markPresent a) := by
  have hst : (s.markPresent a).stations = (s.setStation a { s.station a with present := true, silent := 0 }).stations := by
    simp [State.markPresent]
  refine ⟨State.piece_congr (by simp [State.markPresent]), ?_, by simp [State.markPresent], by simp [State.markPresent],
    fun b => ?_⟩
  · funext j
    simp [State.job, State.markPresent]
  · rw [State.station_congr hst, State.station_setStation]
    split
    · next h => rw [h]; exact ⟨rfl, rfl, rfl, rfl⟩
    · exact ⟨rfl, rfl, rfl, rfl⟩

/-- R157: a piece that an order would deliver was admitted without OVER_QUANTITY. -/
theorem Deliverable.withinQuantity {s : State} {o : Disposition} {p : Piece} (h : Deliverable s o p) :
    p.faults &&& 0x0002 = 0 := by
  obtain ⟨-, -, h⟩ := h
  split at h
  · rw [h]; rfl
  · rw [h.1]; rfl

/-- The laws of the jobs, with the deliveries on which the last rests. -/
def JobsSound (limited : Prop) (s : State) : Prop := BooksSound limited s ∧ (limited → DeliveriesSound s)

theorem JobsSound.of_same {limited : Prop} {s u : State} (hb : SameBooks s u) (hg : SameGate s u)
    (h : JobsSound limited s) : JobsSound limited u :=
  ⟨h.1.same hb, fun hl => hg.deliveriesSound (h.2 hl)⟩

/-- R36, R151: a confirmed delivery keeps a job's limit: its piece was counted. -/
theorem JobsSound.confirmFlight {limited : Prop} {s : State} (h : JobsSound limited s) :
    BooksSound limited s.confirmFlight := by
  refine (bookLaw_booksSound limited).confirmFlight (fun hl f p hf hp hadm _ ho => ?_) h.1
  exact Deliverable.withinQuantity (((h.2 hl).2 f p hf hp hadm).2 ho)

theorem jobsSound_keptByLink (limited : Prop) : KeptByLink (JobsSound limited) (BooksSound limited) :=
  (bookLaw_booksSound limited).roleMoves.keptByLink (fun h => h) (fun h => h.1)
    (fun hi h => h.of_same (.of_frame (by rw [hi]) (by rw [hi]) (by rw [hi])) (.inert hi))
    (fun {s l} _ h => h.of_same (s := s) (.of_frame rfl rfl rfl) (.setLink s l))
    (fun a h => h.of_same (.of_frame (by simp [State.markPresent]) (by simp [State.markPresent])
      (by simp [State.markPresent])) (.markPresent _ a))
    (fun h => h.confirmFlight) ((bookLaw_booksSound limited).keptByReports id (booksSound_enters limited))

/-- Settles O57: the law of the books over every step. -/
theorem stepKeepsJobCounts : Obligations.StepKeepsJobCounts := by
  intro s t htable hlive hcopies ht
  have hs : JobsSound (DeliveriesSound s ∧ GoodWithinLimit s) s :=
    ⟨⟨htable, hlive, hcopies, fun h => h.2⟩, fun h => h.1⟩
  obtain ⟨h1, h2, h3, h4⟩ := step_keeps (fun {s} _ h => h.of_same (s := s) (.of_frame rfl rfl rfl) (.of_stations rfl rfl rfl rfl rfl))
    ((bookLaw_booksSound _).keptByOps (booksSound_keptByBinding _) fun hp hj _ _ => booksSound_of_empty hp hj) (jobsSound_keptByLink _) hs ht
  exact ⟨h1, h2, h3, fun hd hg => h4 ⟨hd, hg⟩⟩

end Sys2Proof.Machine
end

section
/-! SUPPORT. O3 and O55: what every command leaves of the queue and of the records in use. -/

namespace Sys2Proof.Machine

open Sys2Proof.Safety

theorem State.jobs_bindJob_frame (s : State) (j : JobSlot) (b : Job) (r : Option (Nat × Nat × CopyTableId)) :
    s.bindJob j b r = { s with jobs := (s.bindJob j b r).jobs, copyTables := (s.bindJob j b r).copyTables } := by
  rcases r with - | ⟨first, last, t⟩ <;> rfl

/-- The queue of commands is in none of the books. -/
theorem bookLaw_pending (l : List Instr) : BookLaw False fun s => s.pending = l where
  same hu h := hu.pending.trans h
  strike _ _ _ _ h := by rw [State.checkOut_frame]; exact h
  strikeJobless _ _ h := h
  restateJob _ _ h := h
  emptyJob _ _ h := by rw [State.emptyJob_frame]; exact h

theorem pending_keptByBinding (l : List Instr) : KeptByBinding fun s => s.pending = l :=
  fun r _ _ _ _ _ h => by rw [State.jobs_bindJob_frame]; exact h

theorem pending_enters (l : List Instr) : Enters (fun s => s.pending = l) fun s => s.pending = l :=
  fun _ _ _ _ _ h => by rw [State.enterJob_frame]; exact h

/-- Settles O3: no operation of a command touches the queue. -/
theorem everyCommandAnswersAndLeavesQueue : Obligations.EveryCommandAnswersAndLeavesQueue := by
  intro c s
  obtain ⟨t, ht⟩ := exec_next c s
  have law := bookLaw_pending s.pending
  have hlink : KeptByLink (fun x => x.pending = s.pending) fun x => x.pending = s.pending :=
    law.roleMoves.keptByLink (fun h => h) id law.roleMoves.inert law.roleMoves.setLink
      (fun a => law.roleMoves.markPresent _ a) (law.confirmFlight False.elim)
      (law.keptByReports id (pending_enters s.pending))
  exact ⟨t, ht, exec_keeps (law.keptByOps (pending_keptByBinding _) fun _ _ hu h => hu.trans h) hlink rfl ht⟩

/-! ### Records in use -/

/-- Each record in use was in use in the earlier state, and no piece has been admitted since. -/
def OnlyEvolved (s x : State) : Prop :=
  x.admissionCounter = s.admissionCounter ∧ ∀ v q, x.piece v = some q → ∃ p, s.piece v = some p ∧ Evolved p q

/-- Each record in use was in use in the earlier state, but for that of the one piece that has been admitted since. -/
def EvolvedOrAdmitted (s x : State) : Prop :=
  ∀ v q, x.piece v = some q → (∃ p, s.piece v = some p ∧ Evolved p q) ∨
    (q.admission = s.admissionCounter ∧ x.admissionCounter = s.admissionCounter + 1)

theorem OnlyEvolved.refl (s : State) : OnlyEvolved s s := ⟨rfl, fun _ q hq => ⟨q, hq, .refl q⟩⟩

theorem OnlyEvolved.weaken {s x : State} (h : OnlyEvolved s x) : EvolvedOrAdmitted s x :=
  fun v q hq => .inl (h.2 v q hq)

/-- What a law of the records needs of the operations on the books: they free tags, and change records lawfully. -/
theorem bookLaw_of_records {Q : State → Prop}
    (sub : ∀ {x y : State}, Q x → y.admissionCounter = x.admissionCounter →
      (∀ v q, y.piece v = some q → ∃ p, x.piece v = some p ∧ Evolved p q) → Q y) : BookLaw False Q where
  same {x y} hu h := sub h hu.counter fun v q hq => by
    cases hp : x.piece v with
    | none => simp [hu.free v hp] at hq
    | some p =>
      obtain ⟨r, hr, e⟩ := hu.piece v p hp
      obtain rfl : r = q := Option.some.inj (hr.symm.trans hq)
      exact ⟨p, rfl, e⟩
  strike {x k t p j b} _ _ _ _ h := sub h (by rw [State.checkOut_frame]) fun v q hq => by
    rw [State.piece_checkOut] at hq
    split at hq
    · cases hq
    · exact ⟨q, hq, .refl q⟩
  strikeJobless _ _ h := sub h rfl fun v q hq => by
    rw [State.piece_setPiece] at hq
    split at hq
    · cases hq
    · exact ⟨q, hq, .refl q⟩
  restateJob _ _ h := sub h rfl fun v q hq => ⟨q, hq, .refl q⟩
  emptyJob _ _ h := by
    rw [State.emptyJob_frame]
    exact sub h rfl fun v q hq => ⟨q, hq, .refl q⟩

theorem bookLaw_onlyEvolved (s : State) : BookLaw False (OnlyEvolved s) :=
  bookLaw_of_records fun h hcounter hpiece => ⟨hcounter.trans h.1, fun v q hq => by
    obtain ⟨r, hr, e⟩ := hpiece v q hq
    obtain ⟨p, hp, e'⟩ := h.2 v r hr
    exact ⟨p, hp, e'.trans e⟩⟩

theorem bookLaw_evolvedOrAdmitted (s : State) : BookLaw False (EvolvedOrAdmitted s) :=
  bookLaw_of_records fun h hcounter hpiece v q hq => by
    obtain ⟨r, hr, e⟩ := hpiece v q hq
    rcases h v r hr with ⟨p, hp, e'⟩ | ⟨hadm, hc⟩
    · exact .inl ⟨p, hp, e'.trans e⟩
    · exact .inr ⟨e.admission.trans hadm, hcounter.trans hc⟩

theorem evolvedOrAdmitted_keptByBinding (s : State) : KeptByBinding (EvolvedOrAdmitted s) :=
  fun r _ _ _ _ _ h => by rw [State.jobs_bindJob_frame]; exact h

/-- R67: an admission makes one record, with the counter's value. -/
theorem evolved_enters (s : State) : Enters (OnlyEvolved s) (EvolvedOrAdmitted s) := by
  intro x t key measured copy thickness _ _ h v q hq
  rw [State.piece_enterJob] at hq
  have hq : (x.setPiece t (some (x.newPiece measured (x.admittingJob key) copy thickness))).piece v = some q := hq
  rw [State.piece_setPiece] at hq
  split at hq
  · cases hq
    refine .inr ⟨h.1, ?_⟩
    rw [State.enterJob_frame]
    exact congrArg (· + 1) h.1
  · exact .inl (h.2 v q hq)

theorem evolved_keptByLink (s : State) : KeptByLink (OnlyEvolved s) (EvolvedOrAdmitted s) :=
  have law := bookLaw_onlyEvolved s
  have moves := law.roleMoves
  have kept := bookLaw_evolvedOrAdmitted s
  kept.roleMoves.keptByLink (fun h => h) id moves.inert moves.setLink (fun a => moves.markPresent _ a)
    (law.confirmFlight False.elim) (kept.keptByReports OnlyEvolved.weaken (evolved_enters s))

/-- Settles O55: every change of a record in use is a lawful one, and a step admits at most one piece. -/
theorem recordFieldsStayFixed : Obligations.RecordFieldsStayFixed := by
  intro c s t u p q ht hp hq
  have hops := (bookLaw_evolvedOrAdmitted s).keptByOps (evolvedOrAdmitted_keptByBinding s) fun hnone _ _ _ v r hr => by simp [hnone] at hr
  rcases exec_keeps hops (evolved_keptByLink s) (OnlyEvolved.refl s) ht u q hq with ⟨r, hr, e⟩ | hnew
  · obtain rfl : r = p := Option.some.inj (hr.symm.trans hp)
    exact .inr ⟨e.admission, e.job, e.copy, e.thickness, e.cls, e.limits, e.accumulated, e.caseStatus, e.jacketStatus,
      e.jacketPending, e.copyVerified, e.faults⟩
  · exact .inl hnew

end Sys2Proof.Machine
end

section
/-! SUPPORT. O59: clean pieces are married from the casing slot on, over every command (R8, R145, R157). -/

namespace Sys2Proof.Machine

open Sys2Proof.Safety

/-! ### Clean pieces -/

/-- R145: the faults of a piece that may still be delivered: none, or OVERDWELL alone. -/
def Piece.isClean (p : Piece) : Prop := p.faults = 0 ∨ p.faults = 0x0200

/-- What a clean piece is by its place. -/
def CleanAt (p : Piece) : Prop :=
  p.isClean →
    match p.place with
    | .conveyor .z1 => p.faults = 0 ∧ p.caseStatus ≠ .skipped
    | .casingSlot => p.faults = 0 ∧ p.caseStatus ≠ .skipped
    | .lost => False
    | _ => p.caseStatus = .married

/-- A clean piece beyond the casing slot is MARRIED. -/
def Fit (p : Piece) : Prop := p.isClean → p.caseStatus = .married

/-- Whether the place lies before the case is married. -/
def Place.unmarried : Place → Bool
  | .conveyor .z1 => true
  | .casingSlot => true
  | _ => false

theorem cleanPiecesMarried_iff (s : State) : CleanPiecesMarried s ↔ ∀ t p, s.piece t = some p → CleanAt p := Iff.rfl

theorem CleanAt.fit {p : Piece} (h : CleanAt p) (hp : p.place.unmarried = false) : Fit p := by
  intro hc
  have := h hc
  unfold Place.unmarried at hp
  split at this
  · next hpl => simp [hpl] at hp
  · next hpl => simp [hpl] at hp
  · exact this.elim
  · exact this

theorem Fit.cleanAt {p : Piece} (h : Fit p) (hp : p.place.unmarried = false) (hl : p.place ≠ .lost) : CleanAt p := by
  intro hc
  have := h hc
  unfold Place.unmarried at hp
  split
  · next hpl => simp [hpl] at hp
  · next hpl => simp [hpl] at hp
  · next hpl => exact hl hpl
  · exact this

theorem and_overdwell_eq {f : FaultSet} (h : f &&& 0x0200 = f) : f = 0 ∨ f = 0x0200 := by
  have hbit : (0x0200 : FaultSet) = BitVec.twoPow 16 9 := rfl
  rw [hbit, BitVec.and_twoPow] at h
  split at h
  · exact .inr h.symm
  · exact .inl h.symm

/-- No change of a record makes it clean. -/
theorem Evolved.isClean {p q : Piece} (h : Evolved p q) (hq : q.isClean) : p.isClean := by
  have hf := h.faults
  rcases hq with hq | hq
  · rw [hq] at hf
    exact .inl (hf.symm.trans (by simp))
  · rw [hq] at hf
    exact and_overdwell_eq hf

theorem Evolved.fit {p q : Piece} (h : Evolved p q) (hp : Fit p) : Fit q := fun hc => by
  have hm := hp (h.isClean hc)
  rw [h.caseStatus (by rw [hm]; decide), hm]

theorem fit_of_fault {p : Piece} {k : FaultKind} (hk : k.bit ≠ 0x0200) (hk' : k.bit ≠ 0)
    (h : k.bit &&& p.faults = k.bit) : Fit p := by
  intro hc
  rcases hc with hc | hc
  · rw [hc] at h
    exact absurd (h.symm.trans (by simp)) hk'
  · rw [hc] at h
    rcases and_overdwell_eq h with h0 | h2
    · exact absurd h0 hk'
    · exact absurd h2 hk

theorem bit_and_addFault (p : Piece) (k : FaultKind) : k.bit &&& (p.addFault k).faults = k.bit := by
  rw [Piece.addFault, FaultSet.add, BitVec.or_comm]
  exact FaultSet.and_or_self _ _

theorem Piece.faults_settleCase (p : Piece) (c : CaseStatus) : (p.settleCase c).faults = p.faults := by
  unfold Piece.settleCase
  split <;> rfl

theorem Piece.fit_passCasing (p : Piece) : Fit p.passCasing := by
  refine fit_of_fault (k := .caseUnconfirmed) (by decide) (by decide) ?_
  rw [Piece.passCasing, Piece.faults_settleCase]
  exact bit_and_addFault p _

theorem Piece.fit_caseMismatch (p : Piece) : Fit ((p.addFault .caseMismatch).settleCase .skipped) := by
  refine fit_of_fault (k := .caseMismatch) (by decide) (by decide) ?_
  rw [Piece.faults_settleCase]
  exact bit_and_addFault p _

theorem Piece.notClean_lost (p : Piece) : ¬((p.addFault .tracking).putIn .lost).isClean := by
  have h := bit_and_addFault p .tracking
  rintro (hc | hc) <;> rw [show (p.addFault .tracking).faults = _ from hc] at h <;> exact absurd h (by decide)

/-! ### The pool -/

/-- The pieces but one are clean as their places want. -/
def CleanBut (t : Tag) (s : State) : Prop := ∀ v p, v ≠ t → s.piece v = some p → CleanAt p

theorem CleanPiecesMarried.but {s : State} (h : CleanPiecesMarried s) (t : Tag) : CleanBut t s :=
  fun v p _ hp => h v p hp

theorem CleanPiecesMarried.of_piece {s u : State} (h : CleanPiecesMarried s) (hp : u.piece = s.piece) :
    CleanPiecesMarried u := fun v p hv => h v p (by rwa [← hp])

theorem CleanPiecesMarried.of_pool {s u : State} (h : CleanPiecesMarried s) (hp : u.pool = s.pool) :
    CleanPiecesMarried u := CleanPiecesMarried.of_piece h (State.piece_congr hp)

theorem CleanPiecesMarried.of_removed {ts : List Tag} {s u : State} (h : CleanPiecesMarried s) (hr : Removed ts s u) :
    CleanPiecesMarried u := fun v p hv => by
  rw [hr.piece] at hv
  split at hv
  · cases hv
  · exact h v p hv

theorem CleanBut.of_piece {t : Tag} {s u : State} (h : CleanBut t s) (hp : ∀ v, v ≠ t → u.piece v = s.piece v) :
    CleanBut t u := fun v p hv hpv => h v p hv (by rwa [← hp v hv])

/-- A piece whose record is set right. -/
theorem CleanBut.updatePiece {t : Tag} {s : State} (h : CleanBut t s) {f : Piece → Piece}
    (hf : ∀ p, s.piece t = some p → CleanAt (f p)) : CleanPiecesMarried (s.updatePiece t f) := fun v p hv => by
  rw [State.piece_updatePiece] at hv
  split at hv
  · next e =>
    subst e
    obtain ⟨q, hq, rfl⟩ := Option.map_eq_some_iff.1 hv
    exact hf q hq
  · next e => exact h v p e hv

theorem CleanBut.lose {t : Tag} {s : State} (h : CleanBut t s) : CleanPiecesMarried (s.lose t) := by
  have hmoved : CleanPiecesMarried (({ s with lost := s.lost ++ [t] } : State).updatePiece t
      fun p => (p.addFault .tracking).putIn .lost) :=
    CleanBut.updatePiece (h.of_piece fun _ _ => rfl) fun p _ hc => absurd hc p.notClean_lost
  exact CleanPiecesMarried.of_pool hmoved rfl

theorem CleanBut.retire {t : Tag} {s : State} (h : CleanBut t s) (k : Retirement) : CleanPiecesMarried (s.retire k t) :=
  fun v p hv => by
    rw [s.piece_retire k t v] at hv
    split at hv
    · cases hv
    · next e => exact h v p e hv

theorem CleanBut.joinQueue {t : Tag} {s : State} (h : CleanBut t s) {z : ConveyorZone}
    (ht : ∀ p, s.piece t = some p → CleanAt { p with place := .conveyor z }) : CleanPiecesMarried (s.joinQueue z t) := by
  have hpiece := State.piece_congr (State.setConveyor_pool s z { s.conveyor z with queue := (s.conveyor z).queue ++ [t] })
  exact CleanBut.updatePiece (h.of_piece fun v _ => congrFun hpiece v) fun p hp =>
    ht p ((congrFun hpiece t).symm.trans hp)

/-- R134, R142, R124: a piece beyond the casing slot is handed into a zone. -/
theorem CleanBut.handOver {t : Tag} {s : State} (h : CleanBut t s) {z : ConveyorZone} (hz : z ≠ .z1)
    (ht : ∀ p, s.piece t = some p → Fit p) : CleanPiecesMarried (s.handOver z t) := by
  unfold State.handOver
  split
  · exact h.retire _
  · split
    · exact h.lose
    · refine h.joinQueue fun p hp => ?_
      have hfit : Fit { p with place := .conveyor z } := ht p hp
      exact hfit.cleanAt (by cases z <;> first | rfl | exact absurd rfl hz) (by simp)

/-- The piece in hand is brought beyond the casing slot. -/
theorem CleanBut.putIn {t : Tag} {s : State} (h : CleanBut t s) {place : Place} (hu : place.unmarried = false)
    (hl : place ≠ .lost) (ht : ∀ p, s.piece t = some p → Fit p) :
    CleanPiecesMarried (s.updatePiece t (·.putIn place)) :=
  h.updatePiece fun p hp => by
    have hfit : Fit (p.putIn place) := ht p hp
    exact hfit.cleanAt hu hl

/-- A piece that stands beyond the casing slot is fit. -/
theorem fit_of_occupant {s : State} (hplaces : InHand [] s) (hclean : CleanPiecesMarried s) {pl : Place} {t : Tag}
    (hin : t ∈ s.occupants pl) (hu : pl.unmarried = false) {p : Piece} (hp : s.piece t = some p) : Fit p := by
  obtain ⟨q, hq, hplace⟩ := (hplaces.others t (by simp)).isSome_of_mem hin
  obtain rfl : p = q := Option.some.inj (hp.symm.trans hq)
  exact CleanAt.fit (hclean t p hp) (hplace ▸ hu)

theorem InHand.place_eq {s : State} (h : InHand [] s) {pl : Place} {t : Tag} (hin : t ∈ s.occupants pl) {p : Piece}
    (hp : s.piece t = some p) : p.place = pl := by
  obtain ⟨q, hq, hplace⟩ := (h.others t (by simp)).isSome_of_mem hin
  obtain rfl : p = q := Option.some.inj (hp.symm.trans hq)
  exact hplace

/-! ### Operations -/

theorem CleanPiecesMarried.heated {s : State} (hplaces : InHand [] s) (h : CleanPiecesMarried s) {f : Piece → Piece}
    (hf : PressMark f) : CleanPiecesMarried (s.updatePieces s.heated f) := fun v q hv => by
  rw [State.piece_updatePieces] at hv
  split at hv
  · next hin =>
    obtain ⟨p, hp, rfl⟩ := Option.map_eq_some_iff.1 hv
    have hmem : v ∈ s.press.positions.toList.filterMap id := by
      unfold State.heated at hin
      refine List.Sublist.subset ?_ hin
      exact ((List.take_sublist _ _).trans (List.drop_sublist _ _)).filterMap _
    obtain ⟨i, hi⟩ := exists_of_mem_positions hmem
    have hplace : (f p).place = .press i := by
      obtain ⟨acc, faults, e⟩ := hf.shape p
      rw [e]
      exact hplaces.place_eq (p := p) hi hp
    refine ((hf.evolved p).fit (fit_of_occupant hplaces h hi rfl hp)).cleanAt ?_ ?_ <;> simp [hplace, Place.unmarried]
  · exact h v q hv

theorem CleanPiecesMarried.discharge {s : State} (hplaces : InHand [] s) (h : CleanPiecesMarried s) :
    CleanPiecesMarried s.discharge := by
  unfold State.discharge
  split
  · exact h
  · next t ht =>
    have hin : t ∈ s.occupants (.press 11) := by
      have : s.press.positions[(11 : Fin 12)] = some t := ht
      simp [State.occupants, this]
    have hpiece : ∀ v, (s.judgeDischarge t).piece v = if v = t then (s.piece t).map (·.judged.1) else s.piece v :=
      fun v => by
        unfold State.judgeDischarge
        split
        · next hp =>
          split
          · next e => rw [e, hp]; rfl
          · rfl
        · next p hp => rw [State.piece_congr (State.raiseIf_pool _ _ _), State.piece_setPiece, hp]; rfl
    refine CleanBut.handOver (s := { s.judgeDischarge t with press := _ }) (fun v p hv hp => ?_) (by decide) fun p hp => ?_
    · have hp : (s.judgeDischarge t).piece v = some p := hp
      rw [hpiece, if_neg hv] at hp
      exact h v p hp
    · have hp : (s.judgeDischarge t).piece t = some p := hp
      rw [hpiece, if_pos rfl] at hp
      obtain ⟨q, hq, rfl⟩ := Option.map_eq_some_iff.1 hp
      exact q.evolved_judged.fit (fit_of_occupant hplaces h hin rfl hq)

theorem CleanPiecesMarried.shiftPress {s : State} (h : CleanPiecesMarried s) : CleanPiecesMarried s.shiftPress :=
  fun v q hv => by
    rw [State.piece_shiftPress] at hv
    split at hv
    · obtain ⟨p, hp, rfl⟩ := Option.map_eq_some_iff.1 hv
      have hold := h v p hp
      by_cases hplace : ∃ i, p.place = .press i
      · obtain ⟨i, hi⟩ := hplace
        have hfit : Fit p := CleanAt.fit hold (by rw [hi]; rfl)
        refine (p.evolved_shifted.fit hfit).cleanAt ?_ ?_ <;> simp [Piece.shifted, hi, Place.unmarried]
      · have hsame : p.shifted = p := by
          unfold Piece.shifted
          split
          · next i hi => exact absurd ⟨i, hi⟩ hplace
          · rfl
        rw [hsame]
        exact hold
    · exact h v q hv

theorem CleanPiecesMarried.enterPress {s : State} (hplaces : InHand [] s) (h : CleanPiecesMarried s) :
    CleanPiecesMarried s.enterPress := by
  unfold State.enterPress
  split
  · exact h
  · next t ht =>
    have hin : t ∈ s.occupants .pressEntry := by simp [State.occupants, ht]
    have hbut : CleanBut t { s with pressEntry := none } := fun v p _ hp => h v p hp
    dsimp only
    split
    · exact hbut.retire _
    · intro v q hv
      by_cases hvt : v = t
      · subst hvt
        cases hp : s.piece v with
        | none =>
          have hnone : (State.updatePiece { s with
              pressEntry := none
              press := { s.press with positions := s.press.positions.set 0 (some v) } } v
              (·.putIn (.press 0))).piece v = none := by
            rw [State.piece_updatePiece, if_pos rfl]
            exact congrArg (Option.map _) hp
          simp [State.computeDwell, hnone] at hv
        | some p =>
          rw [State.piece_computeDwell _ (p := p.putIn (.press 0))
            (by rw [State.piece_updatePiece, if_pos rfl]; exact congrArg (Option.map _) hp)] at hv
          obtain rfl := Option.some.inj hv
          have hfit : Fit p := fit_of_occupant hplaces h hin rfl hp
          refine (((p.evolved_place (.press 0) none).trans
            ((p.putIn (.press 0)).evolved_dwell _ _)).fit hfit).cleanAt rfl (by simp [Piece.putIn])
      · rw [State.piece_computeDwell_of_ne _ hvt, State.piece_updatePiece, if_neg hvt] at hv
        exact h v q hv

theorem CleanPiecesMarried.arrive {s : State} (hplaces : InHand [] s) (h : CleanPiecesMarried s) {z : ConveyorZone}
    {t : Tag} (hin : t ∈ s.occupants (.conveyor z)) {u : State} (hu : u = s.setConveyor z (u.conveyor z)) :
    CleanPiecesMarried (u.arrive z t) := by
  have hpiece : u.piece = s.piece := by
    rw [hu]
    exact State.piece_congr (State.setConveyor_pool s z _)
  have hclean : CleanPiecesMarried u := CleanPiecesMarried.of_piece h hpiece
  have hfit : z ≠ .z1 → ∀ p, u.piece t = some p → Fit p := fun hz p hp =>
    fit_of_occupant hplaces h hin (by cases z <;> first | rfl | exact absurd rfl hz) (by rwa [← hpiece])
  have hslot : u.casing = s.casing ∧ u.pressEntry = s.pressEntry ∧ u.jacketing = s.jacketing := by
    rw [hu]
    simp
  have hcasing : z = .z1 → ∀ p, u.piece t = some p → CleanAt (p.putIn .casingSlot) := fun hz p hp => by
    have hold := h t p (by rwa [← hpiece])
    have hplace := hplaces.place_eq hin (by rwa [← hpiece])
    intro hc
    have := hold hc
    rw [hplace, hz] at this
    exact this
  -- handing the occupant on does not touch the piece that arrives
  have hkept : ∀ (w : State) (y : ConveyorZone) (o : Tag), o ≠ t → (w.handOver y o).piece t = w.piece t := fun w y o ho => by
    unfold State.handOver
    split
    · rw [State.piece_retire, if_neg ho.symm]
    · split
      · have : (w.lose o).piece = (State.updatePiece { w with lost := w.lost ++ [o] } o
            fun p => (p.addFault .tracking).putIn .lost).piece := State.piece_congr rfl
        rw [this, State.piece_updatePiece, if_neg ho.symm]
        rfl
      · rw [State.joinQueue, State.piece_updatePiece, if_neg ho.symm,
          State.piece_congr (State.setConveyor_pool w y _)]
  have hother : ∀ {pl : Place} {o : Tag}, o ∈ s.occupants pl → pl ≠ .conveyor z → o ≠ t := fun ho hpl e => by
    subst e
    exact hpl (eq_of_mem_occupants (hplaces.others _ (by simp)).timesPlaced_le hin ho)
  cases z with
  | z1 =>
    change CleanPiecesMarried (u.arriveCasing t)
    unfold State.arriveCasing
    split
    · exact CleanBut.updatePiece (fun v p _ hp => hclean v p hp) fun p hp => hcasing rfl p hp
    · next o ho =>
      have hot : o ≠ t := hother (pl := .casingSlot) (by simp [State.occupants, ← hslot.1, ho]) (by simp)
      have hover : CleanPiecesMarried ((State.updatePiece { u with casing := none } o Piece.passCasing).handOver .z2 o) := by
        refine CleanBut.handOver (fun v p hv hp => ?_) (by decide) fun p hp => ?_
        · rw [State.piece_updatePiece, if_neg hv] at hp
          exact hclean v p hp
        · rw [State.piece_updatePiece, if_pos rfl] at hp
          obtain ⟨q, -, rfl⟩ := Option.map_eq_some_iff.1 hp
          exact q.fit_passCasing
      have hent : CleanPiecesMarried
          (((State.updatePiece { u with casing := none } o Piece.passCasing).handOver .z2 o).enterCasing t) := by
        refine CleanBut.updatePiece (fun v p _ hp => hover v p hp) fun p hp => hcasing rfl p ?_
        have hp : ((State.updatePiece { u with casing := none } o Piece.passCasing).handOver .z2 o).piece t = some p := hp
        rwa [hkept _ _ _ hot, State.piece_updatePiece, if_neg hot.symm] at hp
      exact CleanPiecesMarried.of_pool hent rfl
  | z2 =>
    change CleanPiecesMarried (u.arriveHold t)
    unfold State.arriveHold
    split
    · exact CleanBut.putIn (fun v p _ hp => hclean v p hp) rfl (by simp) fun p hp => hfit (by decide) p hp
    · next o ho =>
      have hot : o ≠ t := hother (pl := .pressEntry) (by simp [State.occupants, ← hslot.2.1, ho]) (by simp)
      have hlost : CleanPiecesMarried (State.lose { u with pressEntry := none } o) :=
        CleanBut.lose fun v p _ hp => hclean v p hp
      have hent : CleanPiecesMarried (((State.lose { u with pressEntry := none } o).haltZone .z2).enterHold t) := by
        refine CleanBut.putIn (fun v p _ hp => hlost v p hp) rfl (by simp) fun p hp => hfit (by decide) p ?_
        have hp : (State.updatePiece { u with pressEntry := none, lost := u.lost ++ [o] } o
            fun p => (p.addFault .tracking).putIn .lost).piece t = some p := hp
        rwa [State.piece_updatePiece, if_neg hot.symm] at hp
      exact CleanPiecesMarried.of_pool hent rfl
  | z4 =>
    change CleanPiecesMarried (u.arriveJacketing t)
    unfold State.arriveJacketing
    split
    · exact CleanBut.putIn (fun v p _ hp => hclean v p hp) rfl (by simp) fun p hp => hfit (by decide) p hp
    · next o ho =>
      have hino : o ∈ s.occupants .jacketingSlot := by simp [State.occupants, ← hslot.2.2, ho]
      have hot : o ≠ t := hother hino (by simp)
      have hover : CleanPiecesMarried
          ((State.updatePiece { u with jacketing := none } o Piece.passJacketing).handOver .z5 o) := by
        refine CleanBut.handOver (fun v p hv hp => ?_) (by decide) fun p hp => ?_
        · rw [State.piece_updatePiece, if_neg hv] at hp
          exact hclean v p hp
        · rw [State.piece_updatePiece, if_pos rfl] at hp
          obtain ⟨q, hq, rfl⟩ := Option.map_eq_some_iff.1 hp
          have hq : u.piece o = some q := hq
          exact q.evolved_passJacketing.fit (fit_of_occupant hplaces h hino rfl (by rwa [← hpiece]))
      have hent : CleanPiecesMarried
          (((State.updatePiece { u with jacketing := none } o Piece.passJacketing).handOver .z5 o).enterJacketing t) := by
        refine CleanBut.putIn (fun v p _ hp => hover v p hp) rfl (by simp) fun p hp => hfit (by decide) p ?_
        have hp : ((State.updatePiece { u with jacketing := none } o Piece.passJacketing).handOver .z5 o).piece t =
          some p := hp
        rwa [hkept _ _ _ hot, State.piece_updatePiece, if_neg hot.symm] at hp
      exact CleanPiecesMarried.of_pool hent rfl
  | z5 =>
    change CleanPiecesMarried (u.gateArrival t)
    unfold State.gateArrival
    split
    · exact hclean
    · split
      · exact CleanPiecesMarried.of_removed hclean (.divertUnconfirmed u t)
      · split
        · exact CleanPiecesMarried.of_removed hclean (.divertUnconfirmed u t)
        · exact CleanBut.putIn (fun v p _ hp => hclean v p hp) rfl (by simp) fun p hp => hfit (by decide) p hp

theorem CleanPiecesMarried.returnTo {s : State} (hplaces : InHand [] s) (h : CleanPiecesMarried s) {z : ConveyorZone}
    {t : Tag} (hin : t ∈ s.lost) : CleanPiecesMarried (s.returnTo z t) := by
  refine CleanBut.joinQueue (s := { s with lost := s.lost.filter (· ≠ t) }) (fun v p _ hp => h v p hp) fun p hp hc => ?_
  have hp : s.piece t = some p := hp
  have hplace := hplaces.place_eq (pl := .lost) hin hp
  have := h t p hp hc
  rw [hplace] at this
  exact this.elim

/-! ### Reports -/

theorem roleMoves_piecesGo : RoleMoves fun s u => ∀ v p, u.piece v = some p → s.piece v = some p where
  refl _ _ _ h := h
  trans h g v p hp := h v p (g v p hp)
  inert hi v p hp := by rw [hi] at hp; exact hp
  filter _ _ _ _ h := h
  divert s t v p hp := by
    rw [(Removed.divertUnconfirmed s t).piece] at hp
    split at hp
    · cases hp
    · exact hp
  withdraw _ _ _ _ h := h
  setStation _ _ _ h := h
  setLink _ _ _ h := h
  endFlight _ _ _ h := h

theorem CleanPiecesMarried.of_piecesGo {s u : State} (hu : ∀ v p, u.piece v = some p → s.piece v = some p)
    (h : CleanPiecesMarried s) : CleanPiecesMarried u := fun v p hp => h v p (hu v p hp)

/-- R70 to R73: no fault of an admission is OVERDWELL. -/
theorem State.newPiece_overdwell (s : State) (measured : Bool) (found : Option (JobSlot × Job)) (copy thickness : Nat) :
    (s.newPiece measured found copy thickness).faults &&& 0x0200 = 0 := by
  have hcopies : ∀ b, s.copyFaults b copy &&& 0x0200 = 0 := fun b => by
    unfold State.copyFaults FaultSet.addIf
    (repeat' split) <;> decide
  cases found with
  | none =>
    simp only [State.newPiece, Option.map_none, State.admissionFaults]
    decide
  | some jb =>
    have hjob := hcopies jb.2
    simp only [State.newPiece, Option.map_some, State.admissionFaults, FaultSet.addIf, FaultSet.add]
    split <;> split <;> simpa [BitVec.and_or_distrib_right, FaultKind.bit] using hjob

theorem State.newPiece_cleanAt (s : State) (measured : Bool) (found : Option (JobSlot × Job)) (copy thickness : Nat) :
    CleanAt (s.newPiece measured found copy thickness) := by
  have hover := s.newPiece_overdwell measured found copy thickness
  rintro (hc | hc)
  · exact ⟨hc, by simp [State.newPiece]⟩
  · rw [hc] at hover
    exact absurd hover (by decide)

theorem CleanPiecesMarried.blockScan {s : State} (h : CleanPiecesMarried s) (measured : Bool) (key : Word32)
    (copy thickness : Word16) : CleanPiecesMarried (s.blockScan measured key copy thickness).2 := by
  unfold State.blockScan
  split
  · exact h
  · split
    · exact h
    · split
      · exact h
      · next t ht =>
        split
        · exact h
        · refine CleanBut.joinQueue (fun v p hv hp => ?_) fun p hp => ?_
          · rw [State.piece_enterJob] at hp
            have hp : (s.setPiece t _).piece v = some p := hp
            rw [State.piece_setPiece, if_neg hv] at hp
            exact h v p hp
          · rw [State.piece_enterJob] at hp
            have hp : (s.setPiece t _).piece t = some p := hp
            rw [State.piece_setPiece, if_pos rfl] at hp
            obtain rfl := Option.some.inj hp
            exact s.newPiece_cleanAt _ _ _ _

/-- The piece in a slot leaves it with a record that is fit. -/
theorem CleanPiecesMarried.leave {s : State} (h : CleanPiecesMarried s) {t : Tag} {f : Piece → Piece}
    (hf : ∀ p, s.piece t = some p → Fit (f p)) :
    CleanPiecesMarried ((s.updatePiece t f).leaveCasing t) ∧ CleanPiecesMarried ((s.updatePiece t f).leaveJacketing t) := by
  have hbut : CleanBut t (s.updatePiece t f) := fun v p hv hp => by
    rw [State.piece_updatePiece, if_neg hv] at hp
    exact h v p hp
  have hfit : ∀ p, (s.updatePiece t f).piece t = some p → Fit p := fun p hp => by
    rw [State.piece_updatePiece, if_pos rfl] at hp
    obtain ⟨q, hq, rfl⟩ := Option.map_eq_some_iff.1 hp
    exact hf q hq
  exact ⟨CleanBut.handOver (s := { s.updatePiece t f with casing := none }) hbut (by decide) hfit,
    CleanBut.handOver (s := { s.updatePiece t f with jacketing := none }) hbut (by decide) hfit⟩

theorem CleanPiecesMarried.passCaseMismatch {s : State} (h : CleanPiecesMarried s) (t : Tag) :
    CleanPiecesMarried (s.passCaseMismatch t) := by
  have hleave := (CleanPiecesMarried.leave (s := s.raise .mismatch) h
    (t := t) (f := fun p => (p.addFault .caseMismatch).settleCase .skipped) fun p _ => p.fit_caseMismatch).1
  exact hleave

theorem State.disposition_of_clean {s : State} {p : Piece} (h : p.faults = 0) : s.disposition p = .deliver := by
  simp [State.disposition, h]

theorem CleanPiecesMarried.caseScan {s : State} (hplaces : InHand [] s) (h : CleanPiecesMarried s) (code : Word24)
    (refeed : Bool) : CleanPiecesMarried (s.caseScan code refeed).2 := by
  unfold State.caseScan
  split
  · exact h
  · next t ht =>
    have hin : t ∈ s.occupants .casingSlot := by simp [State.occupants, ht]
    have hslot : ∀ p, s.piece t = some p → p.isClean → p.faults = 0 ∧ p.caseStatus ≠ .skipped := fun p hp hc => by
      have hplace := hplaces.place_eq hin hp
      have := h t p hp hc
      rw [hplace] at this
      exact this
    split
    · exact h
    · split
      · exact h
      · next p hp =>
        split
        · next hdivert =>
          refine (CleanPiecesMarried.leave h fun q hq hc => ?_).1
          obtain rfl : p = q := Option.some.inj (hp.symm.trans hq)
          have hc : p.isClean := (p.evolved_settleCase .skipped).isClean hc
          rw [State.disposition_of_clean (hslot p hp hc).1] at hdivert
          cases hdivert
        · unfold State.judgeCase
          split
          · exact CleanPiecesMarried.passCaseMismatch h t
          · split
            · refine (CleanPiecesMarried.leave h fun q hq hc => ?_).1
              have hc := (q.evolved_settleCase .married).isClean hc
              have hns := (hslot q hq hc).2
              unfold Piece.settleCase
              split
              · rfl
              · next hpend => cases hst : q.caseStatus <;> simp_all
            · split
              · exact h
              · exact CleanPiecesMarried.passCaseMismatch h t

theorem CleanPiecesMarried.jacketScan {s : State} (hplaces : InHand [] s) (h : CleanPiecesMarried s) (code : Word24)
    (copy : Word16) (refeed copyRead : Bool) : CleanPiecesMarried (s.jacketScan code copy refeed copyRead).2 := by
  unfold State.jacketScan
  split
  · exact h
  · next t ht =>
    have hin : t ∈ s.occupants .jacketingSlot := by simp [State.occupants, ht]
    have hfit : ∀ p, s.piece t = some p → Fit p := fun p hp => fit_of_occupant hplaces h hin rfl hp
    have hleave : ∀ {f : Piece → Piece}, (∀ p, Evolved p (f p)) →
        CleanPiecesMarried ((s.updatePiece t f).leaveJacketing t) := fun hf =>
      (CleanPiecesMarried.leave h fun p hp => (hf p).fit (hfit p hp)).2
    have hmismatch : CleanPiecesMarried (s.passJacketMismatch t) :=
      (CleanPiecesMarried.leave (s := s.raise .mismatch) h fun p hp => p.evolved_jacketMismatch.fit (hfit p hp)).2
    split
    · exact h
    · split
      · exact h
      · split
        · exact CleanBut.handOver (s := { s with jacketing := none }) (fun v p _ hp => h v p hp) (by decide) hfit
        · split
          · exact hleave fun p => p.evolved_settleJacket (by decide)
          · unfold State.judgeJacket
            split
            · exact hmismatch
            · split
              · exact hleave fun p => p.evolved_acceptJacket _
              · split
                · exact h
                · exact hmismatch

end Sys2Proof.Machine
end

section
/-! SUPPORT. O59: the gate order queue with its orders (R147 to R157): what keeps it sound between its own operations. -/

namespace Sys2Proof.Machine

open Sys2Proof.Safety

/-! ### The gate orders of a station -/

/-- What a waiting order asks of the gate unit. -/
def Order.forGate : Order → Option (Disposition × Tag)
  | .gate o t => some (o, t)
  | .jawRelease => none

/-- R175: the gate orders that wait at a station, oldest first. -/
def Station.gateOrders (st : Station) : List (Disposition × Tag) := st.orders.filterMap Order.forGate

theorem Station.mem_gateOrders {st : Station} {o : Disposition} {t : Tag} :
    (o, t) ∈ st.gateOrders ↔ Order.gate o t ∈ st.orders := by
  simp only [Station.gateOrders, List.mem_filterMap]
  constructor
  · rintro ⟨x, hx, e⟩
    cases x <;> cases e
    exact hx
  · exact fun h => ⟨_, h, rfl⟩

theorem Station.filterMap_gateTag (st : Station) : st.orders.filterMap gateTag = st.gateOrders.map Prod.snd := by
  rw [Station.gateOrders, List.map_filterMap]
  congr 1
  funext o
  cases o <;> rfl

theorem gateOrders_filter_spares (ts : List Tag) (os : List Order) :
    (os.filter (Order.spares ts)).filterMap Order.forGate = (os.filterMap Order.forGate).filter (·.2 ∉ ts) := by
  induction os with
  | nil => rfl
  | cons o os ih =>
    cases o with
    | jawRelease => simpa [Order.forGate, List.filter_cons, List.filterMap_cons] using ih
    | gate d t => by_cases h : t ∈ ts <;> simpa [Order.forGate, List.filter_cons, List.filterMap_cons, h] using ih

/-- R170, R175: gate orders wait only at the holder of GATE. -/
theorem StationsSound.holder_of_gateOrder {s : State} (h : StationsSound s) {a : Address} {o : Disposition} {t : Tag}
    (hin : Order.gate o t ∈ (s.station a).orders) : s.holder .gate = some a := by
  obtain ⟨hentry, hunique⟩ := (stationsSound_iff s).1 h
  obtain ⟨-, -, -, -, -, hidle, hgate, -⟩ := hentry a
  have hrole := hgate o t hin
  have hstanding : (s.station a).standing = some .assigned := by
    by_contra hne
    rw [hidle hne] at hin
    cases hin
  have hsome : (s.holder .gate).isSome := by
    rw [State.holder, List.find?_isSome]
    exact ⟨a, List.mem_finRange a, by simp [hrole, hstanding]⟩
  obtain ⟨b, hb⟩ := Option.isSome_iff_exists.1 hsome
  rw [hb, hunique b a .gate (State.holder_some hb) ⟨hrole, hstanding⟩]

/-- R147: the pieces whose orders wait are those of the orders of whichever station holds any. -/
theorem StationsSound.waitingTags {s : State} (h : StationsSound s) {a : Address} (ha : (s.station a).gateOrders ≠ []) :
    waitingTags s = (s.station a).gateOrders.map Prod.snd := by
  obtain ⟨⟨o, t⟩, hin⟩ := List.exists_mem_of_ne_nil _ ha
  simp only [Safety.waitingTags, StationsSound.holder_of_gateOrder h (Station.mem_gateOrders.1 hin), Station.filterMap_gateTag]

theorem waitingTags_nil {s : State} (h : ∀ a, (s.station a).gateOrders = []) : waitingTags s = [] := by
  unfold waitingTags
  split
  · rw [Station.filterMap_gateTag, h]
    rfl
  · rfl

theorem StationsSound.mem_waitingTags {s : State} (h : StationsSound s) {t : Tag} :
    t ∈ Safety.waitingTags s ↔ ∃ a o, Order.gate o t ∈ (s.station a).orders := by
  constructor
  · intro ht
    unfold Safety.waitingTags at ht
    split at ht
    · next a _ =>
      obtain ⟨o, ho, e⟩ := List.mem_filterMap.1 ht
      cases o <;> cases e
      exact ⟨a, _, ho⟩
    · cases ht
  · rintro ⟨a, o, hin⟩
    have hmem := Station.mem_gateOrders.2 hin
    rw [StationsSound.waitingTags h (List.ne_nil_of_mem hmem)]
    exact List.mem_map_of_mem hmem

/-! ### What keeps the gate's orders -/

/-- R150, R151: the order in flight is as it was, its piece in use no newer, and the gate's holder keeps its abilities. -/
structure FlightKept (ts : List Tag) (s u : State) : Prop where
  flight : u.gateInFlight = s.gateInFlight
  carried : u.link.exchange.map (·.carried) = s.link.exchange.map (·.carried)
  gone : ∀ t ∈ ts, u.piece t = none
  used : ∀ t, s.piece t = none → u.piece t = none
  holder : u.holder .gate = s.holder .gate
  abilities : ∀ a, (u.station a).abilities = (s.station a).abilities

/-- R147, R175: of the gate order queue and the gate orders just those of some pieces have gone, no piece has come into
the queue, and a station at which DELIVER_MARKED orders wait keeps MARK. -/
structure GateKeptBy (ts : List Tag) (s u : State) : Prop where
  queue : u.gateQueue = s.gateQueue.filter (· ∉ ts)
  orders : ∀ a, (u.station a).gateOrders = (s.station a).gateOrders.filter (·.2 ∉ ts)
  marks : ∀ a t, (Disposition.deliverMarked, t) ∈ (u.station a).gateOrders →
    (s.station a).abilities &&& 0x40 ≠ 0 → (u.station a).abilities &&& 0x40 ≠ 0
  held : ∀ t p, u.piece t = some p → p.place = .gateQueue → s.piece t = some p
  flight : (s.gateInFlight = none ∧ u.gateInFlight = none) ∨ FlightKept ts s u

def GateKept (s u : State) : Prop := ∃ ts, GateKeptBy ts s u

theorem FlightKept.trans {ts us : List Tag} {s u w : State} (h : FlightKept ts s u) (g : FlightKept us u w) :
    FlightKept (ts ++ us) s w where
  flight := g.flight.trans h.flight
  carried := g.carried.trans h.carried
  gone t ht := by
    rcases List.mem_append.1 ht with ht | ht
    · exact g.used t (h.gone t ht)
    · exact g.gone t ht
  used t ht := g.used t (h.used t ht)
  holder := g.holder.trans h.holder
  abilities a := (g.abilities a).trans (h.abilities a)

theorem GateKeptBy.trans {ts us : List Tag} {s u w : State} (h : GateKeptBy ts s u) (g : GateKeptBy us u w) :
    GateKeptBy (ts ++ us) s w where
  queue := by simp [g.queue, h.queue, List.filter_filter, Bool.and_comm]
  orders a := by simp [g.orders, h.orders, List.filter_filter, Bool.and_comm]
  marks a t hin hs := by
    refine g.marks a t hin (h.marks a t ?_ hs)
    rw [g.orders] at hin
    exact List.mem_of_mem_filter hin
  held t p hp hplace := h.held t p (g.held t p hp hplace) hplace
  flight := by
    rcases h.flight with ⟨hs, hu⟩ | hh
    · refine .inl ⟨hs, ?_⟩
      rcases g.flight with hn | hg
      · exact hn.2
      · exact hg.flight.trans hu
    · rcases g.flight with hn | hg
      · exact .inl ⟨hh.flight.symm.trans hn.1, hn.2⟩
      · exact .inr (hh.trans hg)

theorem GateKept.trans {s u w : State} (h : GateKept s u) (g : GateKept u w) : GateKept s w := by
  obtain ⟨ts, h⟩ := h
  obtain ⟨us, g⟩ := g
  exact ⟨_, h.trans g⟩

/-- The states agree in the gate order queue, the station table, and the order in flight with its exchange. -/
structure SameGateParts (s u : State) : Prop where
  queue : u.gateQueue = s.gateQueue
  stations : u.stations = s.stations
  flight : u.gateInFlight = s.gateInFlight
  carried : u.link.exchange.map (·.carried) = s.link.exchange.map (·.carried)

/-- Some records have changed, none of them that of a piece that is then in the gate order queue. -/
structure PoolKept (s u : State) : Prop where
  held : ∀ t p, u.piece t = some p → p.place = .gateQueue → s.piece t = some p
  used : ∀ t, s.piece t = none → u.piece t = none

theorem PoolKept.of_piece {s u : State} (h : u.piece = s.piece) : PoolKept s u :=
  ⟨fun _ _ hp _ => h ▸ hp, fun _ ht => h ▸ ht⟩

theorem GateKept.of_parts {s u : State} (h : SameGateParts s u) (hp : PoolKept s u) : GateKept s u := by
  have hst : ∀ a, u.station a = s.station a := fun a => congrFun (State.station_congr h.stations) a
  refine ⟨[], by simp [h.queue], fun a => by simp [hst], fun a t _ hs => by rwa [hst], hp.held, .inr ?_⟩
  exact ⟨h.flight, h.carried, by simp, hp.used,
    State.holder_congr (fun a => by rw [hst]; exact ⟨rfl, rfl⟩) _, fun a => by rw [hst]⟩

theorem GateKept.of_frame {s u : State} (h : SameGateParts s u) (hp : u.pool = s.pool) : GateKept s u :=
  .of_parts h (.of_piece (State.piece_congr hp))

theorem GateKept.refl (s : State) : GateKept s s := .of_frame ⟨rfl, rfl, rfl, rfl⟩ rfl

theorem GateKeptBy.of_removed {ts : List Tag} {s u : State} (h : Removed ts s u) : GateKeptBy ts s u where
  queue := h.gateQueue
  orders a := by
    rw [h.station a]
    exact gateOrders_filter_spares ts _
  marks a t _ hs := by
    rw [h.station a]
    exact hs
  held t p hp _ := by
    rw [h.piece] at hp
    split at hp
    · cases hp
    · exact hp
  flight := .inr
    { flight := by rw [h.frame]
      carried := by rw [h.frame]
      gone := fun t ht => by rw [h.piece, if_pos ht]
      used := fun t ht => by rw [h.piece, ht, ite_self]
      holder := State.holder_congr (fun a => by rw [h.station a]; exact ⟨rfl, rfl⟩) _
      abilities := fun a => by rw [h.station a] }

theorem GateKept.of_removed {ts : List Tag} {s u : State} (h : Removed ts s u) : GateKept s u := ⟨ts, .of_removed h⟩

/-- An entry of the station table changes in neither its gate orders, its role and standing, nor its abilities. -/
theorem GateKept.setStation {s : State} {a : Address} {st : Station} (ho : st.gateOrders = (s.station a).gateOrders)
    (hr : st.role = (s.station a).role) (hg : st.standing = (s.station a).standing)
    (hab : st.abilities = (s.station a).abilities) : GateKept s (s.setStation a st) := by
  have hst : ∀ b, ((s.setStation a st).station b).gateOrders = (s.station b).gateOrders ∧
      ((s.setStation a st).station b).role = (s.station b).role ∧
      ((s.setStation a st).station b).standing = (s.station b).standing ∧
      ((s.setStation a st).station b).abilities = (s.station b).abilities := fun b => by
    rw [State.station_setStation]
    split
    · next e => subst e; exact ⟨ho, hr, hg, hab⟩
    · exact ⟨rfl, rfl, rfl, rfl⟩
  refine ⟨[], by simp, fun b => by simp [(hst b).1], fun b t _ hs => by rwa [(hst b).2.2.2], fun t p hp _ => hp, .inr ?_⟩
  exact ⟨rfl, rfl, by simp, fun t ht => ht, State.holder_congr (fun b => ⟨(hst b).2.1, (hst b).2.2.1⟩) _,
    fun b => (hst b).2.2.2⟩

/-! ### Soundness -/

/-- R147 to R157: the gate order queue and its orders, and what they would deliver. -/
def GateSound (s : State) : Prop := GateQueueSound s ∧ DeliveriesSound s

/-- Every piece in the gate order queue has its record there. -/
def QueueRecorded (s : State) : Prop := ∀ t ∈ s.gateQueue, ∃ p, s.piece t = some p ∧ p.place = .gateQueue

theorem InHand.queueRecorded {ts : List Tag} {s : State} (h : InHand ts s) : QueueRecorded s := fun t ht => by
  have hin : t ∈ s.occupants .gateQueue := ht
  exact (h.others t (h.not_mem hin)).isSome_of_mem hin

/-- The jobs of the pieces in use keep their overdwell policies. -/
def PoliciesKept (s u : State) : Prop :=
  ∀ t p j c, u.piece t = some p → p.job = some j → u.job j = some c →
    ∃ b, s.job j = some b ∧ c.overdwellPolicy = b.overdwellPolicy

/-- R157: a piece stays deliverable while its job, its orders and the gate's holder with MARK stay. -/
theorem Deliverable.kept {s u : State} {o : Disposition} {p : Piece} {t : Tag} (h : Deliverable s o p) (hp : u.piece t = some p)
    (hlive : LiveCountsExact u) (hpol : PoliciesKept s u)
    (hmark : o ≠ .deliver → ∀ a, s.holder .gate = some a → (s.station a).abilities &&& 0x40 ≠ 0 →
      ∃ b, u.holder .gate = some b ∧ (u.station b).abilities &&& 0x40 ≠ 0) : Deliverable u o p := by
  obtain ⟨hcase, hjacket, h⟩ := h
  refine ⟨hcase, hjacket, ?_⟩
  split at h
  · next ho => rwa [if_pos ho]
  · next ho =>
    rw [if_neg ho]
    obtain ⟨hf, ⟨b, hb, hpass⟩, a, ha, hab⟩ := h
    obtain ⟨j, hj, hbj⟩ := Option.bind_eq_some_iff.1 hb
    obtain ⟨c, hc⟩ := LiveCountsExact.bound hlive hp hj
    obtain ⟨b', hb', hbc⟩ := hpol t p j c hp hj hc
    obtain rfl : b = b' := Option.some.inj (hbj.symm.trans hb')
    exact ⟨hf, ⟨c, by rw [hj]; exact hc, hbc.trans hpass⟩, hmark ho a ha hab⟩

theorem map_snd_filter (ts : List Tag) (l : List (Disposition × Tag)) :
    (l.filter (·.2 ∉ ts)).map Prod.snd = (l.map Prod.snd).filter (· ∉ ts) := by
  rw [List.filter_map]
  rfl

theorem GateKeptBy.waitingTags {ts : List Tag} {s u : State} (h : GateKeptBy ts s u) (hs : StationsSound s)
    (hu : StationsSound u) : Safety.waitingTags u = (Safety.waitingTags s).filter (· ∉ ts) := by
  by_cases hnone : ∀ a, (s.station a).gateOrders = []
  · rw [waitingTags_nil hnone, waitingTags_nil fun a => by rw [h.orders, hnone]; rfl]
    rfl
  · obtain ⟨a, ha⟩ := not_forall.1 hnone
    rw [StationsSound.waitingTags hs ha, ← map_snd_filter, ← h.orders]
    by_cases hall : ∀ b, (u.station b).gateOrders = []
    · rw [waitingTags_nil hall, hall]
      rfl
    · obtain ⟨b, hb⟩ := not_forall.1 hall
      have hsb : (s.station b).gateOrders ≠ [] := fun e => hb (by rw [h.orders, e]; rfl)
      obtain ⟨⟨o, t⟩, hin⟩ := List.exists_mem_of_ne_nil _ ha
      obtain ⟨⟨o', t'⟩, hin'⟩ := List.exists_mem_of_ne_nil _ hsb
      have e := (StationsSound.holder_of_gateOrder hs (Station.mem_gateOrders.1 hin)).symm.trans
        (StationsSound.holder_of_gateOrder hs (Station.mem_gateOrders.1 hin'))
      obtain rfl := Option.some.inj e
      exact StationsSound.waitingTags hu hb

/-- R147: the waiting pieces stand in the gate order queue. -/
theorem GateQueueSound.waiting_subset {s : State} (h : GateQueueSound s) : waitingTags s ⊆ s.gateQueue := by
  obtain ⟨-, -, hq | ⟨f, p, -, hq, -⟩⟩ := h <;> rw [hq]
  · exact List.Subset.refl _
  · exact List.subset_cons_self _ _

/-- What keeps the gate's orders keeps them sound. -/
theorem GateSound.kept {s u : State} (h : GateSound s) (hs : StationsSound s) (hu : StationsSound u)
    (hrec : QueueRecorded u) (hlive : LiveCountsExact u) (hpol : PoliciesKept s u)
    (hadm : ∀ t q, u.gateInFlight ≠ none → u.piece t = some q → ∃ p, s.piece t = some p ∧ q.admission = p.admission)
    (hk : GateKept s u) : GateSound u := by
  obtain ⟨⟨hholder, hcarried, hqueue⟩, hwait, hflight⟩ := h
  obtain ⟨ts, hk⟩ := hk
  have hwaiting := hk.waitingTags hs hu
  have hkept : ∀ f, u.gateInFlight = some f → FlightKept ts s u := fun f hf => by
    rcases hk.flight with hn | hfk
    · exact absurd (hn.2.symm.trans hf) (by simp)
    · exact hfk
  have huqueue : GateQueueSound u := by
    refine ⟨fun a o t hin => StationsSound.holder_of_gateOrder hu hin, fun f hf => ?_, ?_⟩
    · have hfk := hkept f hf
      obtain ⟨ex, hex, hc⟩ := hcarried f (hfk.flight ▸ hf)
      have hmap := hfk.carried
      rw [hex] at hmap
      obtain ⟨ex', hex', e⟩ := Option.map_eq_some_iff.1 hmap
      exact ⟨ex', hex', e.trans hc⟩
    · rcases hqueue with hq | ⟨f, p, hf, hq, hp, hpadm⟩
      · exact .inl (by rw [hk.queue, hq, hwaiting])
      · have huq : u.gateQueue = (f.tag :: waitingTags s).filter (· ∉ ts) := by rw [hk.queue, hq]
        by_cases hts : f.tag ∈ ts
        · exact .inl (by rw [huq, hwaiting]; simp [hts])
        · have huq : u.gateQueue = f.tag :: waitingTags u := by rw [huq, hwaiting]; simp [hts]
          obtain ⟨q, hq', hplace⟩ := hrec f.tag (by rw [huq]; exact List.mem_cons_self)
          have hqp : p = q := Option.some.inj (hp.symm.trans (hk.held _ q hq' hplace))
          subst hqp
          rcases hk.flight with hn | hfk
          · exact absurd (hn.1.symm.trans hf) (by simp)
          · exact .inr ⟨f, p, hfk.flight.trans hf, huq, hq', hpadm⟩
  refine ⟨huqueue, fun a o t p hin ho hp => ?_, fun f p hf hp hfadm => ?_⟩
  · have hmem : t ∈ u.gateQueue := GateQueueSound.waiting_subset huqueue ((StationsSound.mem_waitingTags hu).2 ⟨a, o, hin⟩)
    obtain ⟨q, hq, hplace⟩ := hrec t hmem
    obtain rfl : p = q := Option.some.inj (hp.symm.trans hq)
    have hgate := Station.mem_gateOrders.2 hin
    have hsin : Order.gate o t ∈ (s.station a).orders := by
      rw [hk.orders] at hgate
      exact Station.mem_gateOrders.1 (List.mem_of_mem_filter hgate)
    refine Deliverable.kept (hwait a o t p hsin ho (hk.held t p hp hplace)) hp hlive hpol fun hod b hb hmark => ?_
    obtain rfl : a = b := Option.some.inj ((hholder a o t hsin).symm.trans hb)
    obtain rfl : o = .deliverMarked := by cases o <;> simp_all
    exact ⟨a, StationsSound.holder_of_gateOrder hu hin, hk.marks a t hgate hmark⟩
  · have hfk := hkept f hf
    obtain ⟨q, hq, hqp⟩ := hadm f.tag p (by simp [hf]) hp
    obtain ⟨hin, hdel⟩ := hflight f q (hfk.flight ▸ hf) hq (hqp.symm.trans hfadm)
    have hts : f.tag ∉ ts := fun hts => by simp [hfk.gone _ hts] at hp
    have hmem : f.tag ∈ u.gateQueue := by
      rw [hk.queue]
      exact List.mem_filter.2 ⟨hin, by simpa using hts⟩
    refine ⟨hmem, fun ho => ?_⟩
    obtain ⟨r, hr, hplace⟩ := hrec f.tag hmem
    obtain rfl : p = r := Option.some.inj (hp.symm.trans hr)
    obtain rfl : q = p := Option.some.inj (hq.symm.trans (hk.held _ _ hp hplace))
    refine Deliverable.kept (hdel ho) hp hlive hpol fun _ b hb hmark => ⟨b, hfk.holder.trans hb, ?_⟩
    rw [hfk.abilities]
    exact hmark

end Sys2Proof.Machine
end

section
/-! SUPPORT. O59: the operations that leave the gate's orders to the gate unit (R147, R154, R157). -/

namespace Sys2Proof.Machine

open Sys2Proof.Safety

/-! ### Records outside the gate order queue -/

/-- The record of a piece that stands elsewhere changes. -/
theorem PoolKept.updatePiece {s : State} {t : Tag} {f : Piece → Piece}
    (hf : ∀ p, s.piece t = some p → (f p).place ≠ .gateQueue) : PoolKept s (s.updatePiece t f) where
  held v q hq hplace := by
    rw [State.piece_updatePiece] at hq
    split at hq
    · next e =>
      subst e
      obtain ⟨p, hp, rfl⟩ := Option.map_eq_some_iff.1 hq
      exact absurd hplace (hf p hp)
    · exact hq
  used v hv := by
    rw [State.piece_updatePiece]
    split
    · next e => rw [← e, hv]; rfl
    · exact hv

namespace GateKept

variable {s u : State} {t : Tag}

theorem updatePiece {f : Piece → Piece} (hf : ∀ p, s.piece t = some p → (f p).place ≠ .gateQueue) :
    GateKept s (s.updatePiece t f) :=
  .of_parts ⟨rfl, rfl, rfl, rfl⟩ (.updatePiece hf)

/-- The piece is brought to a place outside the gate. -/
theorem putIn (s : State) (t : Tag) {place : Place} (hp : place ≠ .gateQueue) : GateKept s (s.updatePiece t (·.putIn place)) :=
  updatePiece fun _ _ => hp

theorem lose (s : State) (t : Tag) : GateKept s (s.lose t) := by
  have hstart : GateKept s { s with lost := s.lost ++ [t] } := .of_frame ⟨rfl, rfl, rfl, rfl⟩ rfl
  have hmoved := updatePiece (s := { s with lost := s.lost ++ [t] }) (t := t)
    (f := fun p => (p.addFault .tracking).putIn .lost) fun _ _ => by simp [Piece.putIn]
  exact hstart.trans (hmoved.trans (.of_frame ⟨rfl, rfl, rfl, rfl⟩ rfl))

theorem setConveyor (s : State) (z : ConveyorZone) (c : Conveyor) : GateKept s (s.setConveyor z c) :=
  .of_frame ⟨by simp, by simp, by simp, by simp⟩ (by simp)

theorem setMode (s : State) (z : Zone) (m : ZoneMode) : GateKept s (s.setMode z m) :=
  .of_frame ⟨by simp, by simp, by simp, by simp⟩ (by simp)

theorem joinQueue (s : State) (z : ConveyorZone) (t : Tag) : GateKept s (s.joinQueue z t) :=
  (setConveyor s z _).trans (updatePiece fun _ _ => by simp)

theorem handOver (s : State) (z : ConveyorZone) (t : Tag) : GateKept s (s.handOver z t) := by
  unfold State.handOver
  split
  · exact .of_removed (.retire s _ t)
  · split
    · exact lose s t
    · exact joinQueue s z t

theorem raise (s : State) (a : Attention) : GateKept s (s.raise a) := .of_frame ⟨rfl, rfl, rfl, rfl⟩ rfl

/-- A piece leaves its place with another record, and is handed over. -/
theorem settleAndHandOver {f : Piece → Piece} {z : ConveyorZone} (hf : ∀ p, s.piece t = some p → (f p).place ≠ .gateQueue)
    (hu : SameGateParts (s.updatePiece t f) u) (hp : u.pool = (s.updatePiece t f).pool) : GateKept s (u.handOver z t) :=
  (updatePiece hf).trans ((GateKept.of_frame hu hp).trans (handOver u z t))

/-! ### The line -/

theorem heated (hplaces : InHand [] s) {f : Piece → Piece} (hf : PressMark f) : GateKept s (s.updatePieces s.heated f) := by
  refine .of_parts ⟨by simp, by simp, by simp, by simp⟩ ⟨fun v q hq hplace => ?_, fun v hv => ?_⟩
  · rw [State.piece_updatePieces] at hq
    split at hq
    · next hin =>
      obtain ⟨p, hp, rfl⟩ := Option.map_eq_some_iff.1 hq
      have hmem : v ∈ s.press.positions.toList.filterMap id := by
        unfold State.heated at hin
        exact ((List.take_sublist _ _).trans (List.drop_sublist _ _)).filterMap _ |>.subset hin
      obtain ⟨i, hi⟩ := exists_of_mem_positions hmem
      have hpl := hplaces.place_eq (p := p) hi hp
      obtain ⟨acc, faults, e⟩ := hf.shape p
      rw [e] at hplace
      cases hpl.symm.trans hplace
    · exact hq
  · rw [State.piece_updatePieces, hv]
    split <;> rfl

theorem judgeDischarge (hplaces : InHand [] s) (ht : s.press.positions[11] = some t) : GateKept s (s.judgeDischarge t) := by
  have hin : t ∈ s.occupants (.press 11) := by
    have : s.press.positions[(11 : Fin 12)] = some t := ht
    simp [State.occupants, this]
  cases hp : s.piece t with
  | none =>
    have e : s.judgeDischarge t = s := by simp [State.judgeDischarge, hp]
    rw [e]
    exact .refl s
  | some p =>
    have hpiece : ∀ v, (s.judgeDischarge t).piece v = if v = t then some p.judged.1 else s.piece v := fun v => by
      simp only [State.judgeDischarge, hp]
      rw [State.piece_congr (State.raiseIf_pool _ _ _), State.piece_setPiece]
    refine .of_parts ⟨by simp, by simp, by simp, by simp⟩ ⟨fun v q hq hplace => ?_, fun v hv => ?_⟩
    · rw [hpiece] at hq
      split at hq
      · cases hq
        have hspot := congrArg (·.1) p.spot_judged
        cases (hplaces.place_eq hin hp).symm.trans (hspot.symm.trans hplace)
      · exact hq
    · rw [hpiece]
      split
      · next e => simp [e, hp] at hv
      · exact hv

theorem discharge (hplaces : InHand [] s) : GateKept s s.discharge := by
  unfold State.discharge
  split
  · exact .refl s
  · next t ht =>
    have hjudged := judgeDischarge hplaces ht
    dsimp only
    generalize s.judgeDischarge t = w at *
    refine hjudged.trans (GateKept.trans (u := { w with press := { w.press with positions := w.press.positions.set 11 none } })
      (.of_frame ⟨rfl, rfl, rfl, rfl⟩ rfl) (handOver _ .z4 t))

theorem shiftPress (s : State) : GateKept s s.shiftPress := by
  have hpiece := s.piece_shiftPress
  have hparts : SameGateParts s s.shiftPress := ⟨by simp, by simp, by simp, by simp⟩
  generalize s.shiftPress = u at *
  refine .of_parts hparts ⟨fun v q hq hplace => ?_, fun v hv => ?_⟩
  · rw [hpiece] at hq
    split at hq
    · obtain ⟨p, hp, rfl⟩ := Option.map_eq_some_iff.1 hq
      unfold Piece.shifted at *
      split at hplace
      · simp at hplace
      · exact hp
    · exact hq
  · rw [hpiece, hv]
    split <;> rfl

theorem computeDwell {p : Piece} (hp : s.piece t = some p) (hplace : p.place ≠ .gateQueue) : GateKept s (s.computeDwell t) := by
  refine .of_parts ⟨by simp, by simp, by simp, by simp⟩ ⟨fun v q hq hq' => ?_, fun v hv => ?_⟩
  · by_cases hvt : v = t
    · subst hvt
      rw [State.piece_computeDwell s hp] at hq
      cases hq
      exact absurd hq' hplace
    · rwa [State.piece_computeDwell_of_ne s hvt] at hq
  · by_cases hvt : v = t
    · subst hvt
      cases hv.symm.trans hp
    · rwa [State.piece_computeDwell_of_ne s hvt]

theorem enterPress (hplaces : InHand [] s) : GateKept s s.enterPress := by
  unfold State.enterPress
  split
  · exact .refl s
  · next t ht =>
    have hin : t ∈ s.occupants .pressEntry := by simp [State.occupants, ht]
    obtain ⟨p, hp, -⟩ := (hplaces.others t (by simp)).isSome_of_mem hin
    have hcleared : GateKept s { s with pressEntry := none } := .of_frame ⟨rfl, rfl, rfl, rfl⟩ rfl
    dsimp only
    split
    · exact hcleared.trans (.of_removed (.retire _ _ t))
    · have hset : GateKept s { s with
          pressEntry := none
          press := { s.press with positions := s.press.positions.set 0 (some t) } } := .of_frame ⟨rfl, rfl, rfl, rfl⟩ rfl
      refine (hset.trans (putIn _ t (place := .press 0) (by simp))).trans (computeDwell (p := p.putIn (.press 0)) ?_ (by simp [Piece.putIn]))
      rw [State.piece_updatePiece, if_pos rfl]
      exact congrArg (Option.map _) hp

theorem enterCasing (s : State) (t : Tag) : GateKept s (s.enterCasing t) :=
  GateKept.trans (u := { s with casing := some t, casingMismatch := 0 }) (.of_frame ⟨rfl, rfl, rfl, rfl⟩ rfl)
    (putIn _ t (place := .casingSlot) (by simp))

theorem enterHold (s : State) (t : Tag) : GateKept s (s.enterHold t) :=
  GateKept.trans (u := { s with pressEntry := some t }) (.of_frame ⟨rfl, rfl, rfl, rfl⟩ rfl)
    (putIn _ t (place := .pressEntry) (by simp))

theorem enterJacketing (s : State) (t : Tag) : GateKept s (s.enterJacketing t) :=
  GateKept.trans (u := { s with jacketing := some t, jacketingMismatch := 0 }) (.of_frame ⟨rfl, rfl, rfl, rfl⟩ rfl)
    (putIn _ t (place := .jacketingSlot) (by simp))

/-- R51, R54 to R56: an arrival at a place before the gate. -/
theorem arrive {z : ConveyorZone} (hz : z ≠ .z5) (hslots : ∀ o, s.casing = some o ∨ s.jacketing = some o →
    ∀ p, s.piece o = some p → p.place ≠ .gateQueue) : GateKept s (s.arrive z t) := by
  cases z with
  | z1 =>
    change GateKept s (s.arriveCasing t)
    unfold State.arriveCasing
    split
    · exact enterCasing s t
    · next o ho =>
      have hover := settleAndHandOver (s := { s with casing := none }) (t := o) (f := Piece.passCasing) (z := .z2)
        (u := State.updatePiece { s with casing := none } o Piece.passCasing) (fun p hp => by
          have hspot : p.passCasing.place = p.place := congrArg (·.1) p.spot_passCasing
          rw [hspot]
          exact hslots o (.inl ho) p hp) ⟨rfl, rfl, rfl, rfl⟩ rfl
      have hcleared : GateKept s { s with casing := none } := .of_frame ⟨rfl, rfl, rfl, rfl⟩ rfl
      exact (hcleared.trans hover).trans ((enterCasing _ t).trans (raise _ _))
  | z2 =>
    change GateKept s (s.arriveHold t)
    unfold State.arriveHold
    split
    · exact enterHold s t
    · next o ho =>
      have hcleared : GateKept s { s with pressEntry := none } := .of_frame ⟨rfl, rfl, rfl, rfl⟩ rfl
      have hhalt := (hcleared.trans (lose _ o)).trans (setMode _ ConveyorZone.z2.zone .halt)
      exact hhalt.trans ((enterHold _ t).trans (raise _ _))
  | z4 =>
    change GateKept s (s.arriveJacketing t)
    unfold State.arriveJacketing
    split
    · exact enterJacketing s t
    · next o ho =>
      have hover := settleAndHandOver (s := { s with jacketing := none }) (t := o) (f := Piece.passJacketing) (z := .z5)
        (u := State.updatePiece { s with jacketing := none } o Piece.passJacketing) (fun p hp => by
          have hspot : p.passJacketing.place = p.place := congrArg (·.1) p.spot_passJacketing
          rw [hspot]
          exact hslots o (.inr ho) p hp) ⟨rfl, rfl, rfl, rfl⟩ rfl
      have hcleared : GateKept s { s with jacketing := none } := .of_frame ⟨rfl, rfl, rfl, rfl⟩ rfl
      exact (hcleared.trans hover).trans ((enterJacketing _ t).trans (raise _ _))
  | z5 => exact absurd rfl hz

/-! ### Reports -/

/-- R66: an admission, while no order is in flight. -/
theorem blockScan (hf : s.gateInFlight = none) (measured : Bool) (key : Word32) (copy thickness : Word16) :
    GateKept s (s.blockScan measured key copy thickness).2 := by
  unfold State.blockScan
  split
  · exact .refl s
  · split
    · exact .refl s
    · split
      · exact raise s _
      · next t ht =>
        split
        · exact .refl s
        · dsimp only
          have hjoin := s.admitted_frame t (s.newPiece measured (s.admittingJob key) copy.toNat thickness.toNat) (s.admittingJob key)
          have hpiece : ∀ v, v ≠ t → (s.admitted t (s.newPiece measured (s.admittingJob key) copy.toNat thickness.toNat)
              (s.admittingJob key)).piece v = s.piece v := fun v hv => by
            rw [State.admitted, State.joinQueue, State.piece_updatePiece, if_neg hv,
              State.piece_congr (State.setConveyor_pool _ _ _), State.piece_enterJob]
            exact (State.piece_setPiece s t v _).trans (if_neg hv)
          have hplace : ∀ p, (s.admitted t (s.newPiece measured (s.admittingJob key) copy.toNat thickness.toNat)
              (s.admittingJob key)).piece t = some p → p.place = .conveyor .z1 := fun p hp => by
            rw [State.admitted, State.joinQueue, State.piece_updatePiece, if_pos rfl] at hp
            obtain ⟨q, -, rfl⟩ := Option.map_eq_some_iff.1 hp
            rfl
          generalize s.admitted t (s.newPiece measured (s.admittingJob key) copy.toNat thickness.toNat)
            (s.admittingJob key) = u at *
          have hst : ∀ a, u.station a = s.station a := fun a => by rw [hjoin]; rfl
          refine ⟨[], by rw [hjoin]; simp, fun a => by simp [hst], fun a v _ hs => by rwa [hst], fun v p hp hpl => ?_,
            .inl ⟨hf, by rw [hjoin]; exact hf⟩⟩
          by_cases hv : v = t
          · subst hv
            cases (hplace p hp).symm.trans hpl
          · rwa [← hpiece v hv]

theorem leaveCasing (s : State) (t : Tag) : GateKept s (s.leaveCasing t) :=
  GateKept.trans (u := { s with casing := none }) (.of_frame ⟨rfl, rfl, rfl, rfl⟩ rfl) (handOver _ .z2 t)

theorem leaveJacketing (s : State) (t : Tag) : GateKept s (s.leaveJacketing t) :=
  GateKept.trans (u := { s with jacketing := none }) (.of_frame ⟨rfl, rfl, rfl, rfl⟩ rfl) (handOver _ .z5 t)

/-- The piece of a slot is settled, and leaves it. -/
theorem settle {f : Piece → Piece} (hf : ∀ p, (f p).spot = p.spot) (ht : ∀ p, s.piece t = some p → p.place ≠ .gateQueue) :
    GateKept s (s.updatePiece t f) :=
  updatePiece fun p hp => by
    have hspot : (f p).place = p.place := congrArg (·.1) (hf p)
    rw [hspot]
    exact ht p hp

theorem passCaseMismatch (ht : ∀ p, s.piece t = some p → p.place ≠ .gateQueue) : GateKept s (s.passCaseMismatch t) :=
  ((settle (fun p => (p.addFault .caseMismatch).spot_settleCase _) ht).trans (raise _ _)).trans (leaveCasing _ t)

theorem passJacketMismatch (ht : ∀ p, s.piece t = some p → p.place ≠ .gateQueue) : GateKept s (s.passJacketMismatch t) :=
  ((settle (fun p => (p.addFault .jacketMismatch).spot_settleJacket _) ht).trans (raise _ _)).trans (leaveJacketing _ t)

theorem caseScan (hplaces : InHand [] s) (code : Word24) (refeed : Bool) : GateKept s (s.caseScan code refeed).2 := by
  unfold State.caseScan
  split
  · exact .refl s
  · next t ht =>
    have hslot : ∀ p, s.piece t = some p → p.place ≠ .gateQueue := fun p hp => by
      rw [hplaces.place_eq (pl := .casingSlot) (by simp [State.occupants, ht]) hp]
      simp
    have hleave : ∀ c, GateKept s ((s.updatePiece t (·.settleCase c)).leaveCasing t) := fun c =>
      (settle (fun p => p.spot_settleCase _) hslot).trans (leaveCasing _ t)
    split
    · exact .refl s
    · split
      · exact .refl s
      · split
        · exact hleave _
        · unfold State.judgeCase
          split
          · exact passCaseMismatch hslot
          · split
            · exact hleave _
            · split
              · exact .of_frame ⟨rfl, rfl, rfl, rfl⟩ rfl
              · exact passCaseMismatch hslot

theorem jacketScan (hplaces : InHand [] s) (code : Word24) (copy : Word16) (refeed copyRead : Bool) :
    GateKept s (s.jacketScan code copy refeed copyRead).2 := by
  unfold State.jacketScan
  split
  · exact .refl s
  · next t ht =>
    have hslot : ∀ p, s.piece t = some p → p.place ≠ .gateQueue := fun p hp => by
      rw [hplaces.place_eq (pl := .jacketingSlot) (by simp [State.occupants, ht]) hp]
      simp
    split
    · exact .refl s
    · split
      · exact .refl s
      · split
        · exact leaveJacketing s t
        · split
          · exact (settle (fun p => p.spot_settleJacket _) hslot).trans (leaveJacketing _ t)
          · unfold State.judgeJacket
            split
            · exact passJacketMismatch hslot
            · split
              · exact (settle (fun p => p.spot_acceptJacket _) hslot).trans (leaveJacketing _ t)
              · split
                · exact .of_frame ⟨rfl, rfl, rfl, rfl⟩ rfl
                · exact passJacketMismatch hslot

end GateKept

end Sys2Proof.Machine
end

section
/-! SUPPORT. O59: RESET of the gate's zone, and the changes of roles while no order is in flight (R153, R154, R171 to R174). -/

namespace Sys2Proof.Machine

open Sys2Proof.Safety

/-- R147: every piece whose gate order waits stands in the gate order queue. -/
def OrdersQueued (s : State) : Prop := ∀ a o t, Order.gate o t ∈ (s.station a).orders → t ∈ s.gateQueue

theorem GateQueueSound.ordersQueued {s : State} (h : GateQueueSound s) (hs : StationsSound s) : OrdersQueued s :=
  fun a o _ hin => GateQueueSound.waiting_subset h ((StationsSound.mem_waitingTags hs).2 ⟨a, o, hin⟩)

theorem GateKept.ordersQueued {s u : State} (h : GateKept s u) (hs : OrdersQueued s) : OrdersQueued u := by
  obtain ⟨ts, h⟩ := h
  intro a o t hin
  have hin := Station.mem_gateOrders.2 hin
  rw [h.orders, List.mem_filter] at hin
  rw [h.queue]
  exact List.mem_filter.2 ⟨hs a o t (Station.mem_gateOrders.1 hin.1), hin.2⟩

theorem Station.gateOrders_eq_nil {st : Station} : st.gateOrders = [] ↔ ∀ o t, Order.gate o t ∉ st.orders := by
  simp only [List.eq_nil_iff_forall_not_mem, ← Station.mem_gateOrders, Prod.forall]

theorem GateKept.gateOrders_nil {s u : State} (h : GateKept s u) {a : Address} (ha : (s.station a).gateOrders = []) :
    (u.station a).gateOrders = [] := by
  obtain ⟨ts, h⟩ := h
  rw [h.orders, ha]
  rfl

/-- R153, R154: withdrawing orders of which none waits changes no queue. -/
theorem GateKept.withdraw {s : State} {which : Disposition → Tag → Bool}
    (h : ∀ a o t, Order.gate o t ∈ (s.station a).orders → which o t = false) : GateKept s (s.withdrawGateOrders which) := by
  have hst : ∀ a, (s.withdrawGateOrders which).station a = s.station a := fun a => by
    simp only [State.station, State.withdrawGateOrders, Fin.getElem_fin, Vector.getElem_map]
    have hall : (s.stations[a.val]).orders.filter (fun
        | .gate o t => !which o t
        | .jawRelease => true) = (s.stations[a.val]).orders := List.filter_eq_self.2 fun o ho => by
      cases o with
      | gate o t => simpa using h a o t ho
      | jawRelease => rfl
    exact congrArg (fun os => { s.stations[a.val] with orders := os }) hall
  refine ⟨[], by simp, fun a => by simp [hst], fun a t _ hs => by rwa [hst], fun t p hp _ => hp, .inr ?_⟩
  exact ⟨rfl, rfl, by simp, fun t ht => ht, State.holder_congr (fun a => by rw [hst]; exact ⟨rfl, rfl⟩) _, fun a => by rw [hst]⟩

/-- R43, R154: entry into RESET takes the zone's pieces with their gate orders. -/
theorem GateKept.enterReset {s : State} (hq : OrdersQueued s) (z : Zone) : GateKept s (s.enterReset z) := by
  unfold State.enterReset
  split
  · exact .refl s
  · have hall : GateKept s ((s.setMode z .reset).retireAll .spoiled (s.piecesOf z)) :=
      (GateKept.setMode s z .reset).trans (.of_removed (.retireAll _ .spoiled (s.piecesOf z)))
    cases z with
    | z5 =>
      have hr := Removed.retireAll (s.setMode .z5 .reset) .spoiled (s.piecesOf .z5)
      refine hall.trans (GateKept.withdraw fun a o t hin => ?_)
      rw [hr.station a] at hin
      obtain ⟨hin, hspared⟩ := List.mem_filter.1 hin
      have ht : t ∈ s.piecesOf .z5 := List.mem_append_right _ (hq a o t hin)
      simp [ht] at hspared
    | z2 => exact hall
    | _ => exact hall.trans (.of_frame ⟨rfl, rfl, rfl, rfl⟩ rfl)

/-! ### Roles -/

/-- While no order is in flight, an entry of the station table may change in all but its gate orders and a MARK that
they need. -/
theorem GateKept.setIdle {s : State} {a : Address} {st : Station} (hf : s.gateInFlight = none)
    (ho : st.gateOrders = (s.station a).gateOrders)
    (hm : ∀ t, (Disposition.deliverMarked, t) ∈ st.gateOrders → (s.station a).abilities &&& 0x40 ≠ 0 → st.abilities &&& 0x40 ≠ 0) :
    GateKept s (s.setStation a st) := by
  refine ⟨[], by simp, fun b => ?_, fun b t hin hs => ?_, fun t p hp _ => hp, .inl ⟨hf, hf⟩⟩
  · rw [State.station_setStation]
    split
    · next e => subst e; simp [ho]
    · simp
  · rw [State.station_setStation] at hin ⊢
    split at hin
    · next e => subst e; rw [if_pos rfl]; exact hm t hin hs
    · next e => rwa [if_neg e]

theorem GateKept.setIdle_same {s : State} {a : Address} {st : Station} (hf : s.gateInFlight = none)
    (ho : st.orders = (s.station a).orders) (hab : st.abilities = (s.station a).abilities) : GateKept s (s.setStation a st) :=
  .setIdle hf (by rw [Station.gateOrders, Station.gateOrders, ho]) fun _ _ h => hab ▸ h

theorem GateKept.setIdle_none {s : State} {a : Address} {st : Station} (hf : s.gateInFlight = none)
    (ho : st.gateOrders = []) (ha : (s.station a).gateOrders = []) : GateKept s (s.setStation a st) :=
  .setIdle hf (ho.trans ha.symm) fun t ht => by simp [ho] at ht

theorem EntrySound.gateOrders_nil {st : Station} (h : EntrySound st) {r : Role} (hr : st.role = some r) (hg : r ≠ .gate) :
    st.gateOrders = [] := by
  obtain ⟨-, -, -, -, -, -, hgate, -⟩ := h
  exact Station.gateOrders_eq_nil.2 fun o t hin => hg (Option.some.inj (hr.symm.trans (hgate o t hin)))

/-- R153, R174: the holder of a role ceases to hold it. -/
theorem GateKept.holderLost {s : State} {a : Address} {r : Role} (hf : s.gateInFlight = none) (hq : OrdersQueued s)
    (ha : EntrySound (s.station a)) (hr : (s.station a).role = some r) : GateKept s (s.holderLost a r) := by
  have hlose : GateKept s (s.blocksLose r) ∧ ((s.blocksLose r).station a).gateOrders = [] ∧
      (s.blocksLose r).gateInFlight = s.gateInFlight := by
    by_cases hg : r = .gate
    · subst hg
      have hrem := Removed.divertAllUnconfirmed s s.gateQueue
      refine ⟨.of_removed hrem, ?_, by rw [(RoleFrame.blocksLose s .gate)]⟩
      change ((s.divertAllUnconfirmed s.gateQueue).station a).gateOrders = []
      rw [(GateKeptBy.of_removed hrem).orders]
      refine List.filter_eq_nil_iff.2 fun ⟨o, t⟩ hin => ?_
      simpa using hq a o t (Station.mem_gateOrders.1 hin)
    · have hnil := EntrySound.gateOrders_nil ha hr hg
      cases r with
      | gate => exact absurd rfl hg
      | press => exact ⟨.of_frame ⟨rfl, rfl, rfl, rfl⟩ rfl, hnil, rfl⟩
      | _ => exact ⟨.refl s, hnil, rfl⟩
  obtain ⟨hkept, hnil, hflight⟩ := hlose
  exact hkept.trans (.setIdle_none (hflight.trans hf) rfl hnil)

theorem RoleFrame.flight {s u : State} (h : RoleFrame s u) : u.gateInFlight = s.gateInFlight := by rw [h]

theorem GateKept.setStanding {s : State} (hf : s.gateInFlight = none) (a : Address) (st : Standing) :
    GateKept s (s.setStanding a st) :=
  (GateKept.setIdle_same (a := a) (st := { s.station a with standing := some st }) hf rfl rfl).trans (.raise _ _)

theorem GateKept.clearRole {s : State} (hf : s.gateInFlight = none) (a : Address) : GateKept s (s.clearRole a) :=
  .setIdle_same hf rfl rfl

theorem GateKept.leaveRole {s : State} (hf : s.gateInFlight = none) (hq : OrdersQueued s) (hs : StationsSound s)
    (a : Address) : GateKept s (s.leaveRole a) := by
  unfold State.leaveRole
  split
  · next r hr _ =>
    exact (GateKept.holderLost hf hq (hs.1 a) hr).trans
      (.clearRole ((RoleFrame.holderLost s a r).flight.trans hf) a)
  · have hclear := GateKept.clearRole hf a
    refine hclear.trans ?_
    unfold State.resolveConflict
    split
    · exact GateKept.setStanding (s := s.clearRole a) hf _ _
    · exact .refl _
  · exact .clearRole hf a

/-- R173: a station without gate orders claims a role. -/
theorem GateKept.claimRole {s : State} {a : Address} {r : Role} (hf : s.gateInFlight = none) (hq : OrdersQueued s)
    (hothers : ∀ b, b ≠ a → EntrySound (s.station b)) (ha : (s.station a).orders = []) (abilities : Byte) :
    GateKept s (s.claimRole a r abilities) := by
  have hnil : (s.station a).gateOrders = [] := by rw [Station.gateOrders, ha]; rfl
  have hclaim : ∀ (u : State) (st : Standing), GateKept s u → u.gateInFlight = none → (u.station a).orders = [] →
      GateKept s ((u.setStation a { u.station a with role := some r, standing := some st, abilities := abilities }).raise
        .stationChange) := fun u st hu huf hua => by
    have hst : ({ u.station a with role := some r, standing := some st, abilities := abilities } : Station).gateOrders = [] := by
      rw [Station.gateOrders, hua]
      rfl
    exact (hu.trans (.setIdle_none huf hst (hu.gateOrders_nil hnil))).trans (.raise _ _)
  unfold State.claimRole
  dsimp only
  split
  · next b hfind =>
    have hmem := List.mem_of_find?_eq_some hfind
    have hrole := (State.mem_claimants.1 (List.mem_of_mem_filter hmem)).2
    have hne : b ≠ a := by simpa using (List.mem_filter.1 hmem).2
    have hflight := (RoleFrame.holderLost s b r).flight.trans hf
    refine hclaim _ _ ((GateKept.holderLost hf hq (hothers b hne) hrole).trans (.setStanding hflight b _)) hflight ?_
    obtain ⟨os, hos, hst⟩ := (Trimmed.holderLost s b r).station a
    have : ((s.putInConflict b r).station a) = (s.holderLost b r).station a := by
      change ((s.holderLost b r).setStation b _).station a = _
      rw [State.station_setStation, if_neg hne.symm]
    rw [this, hst]
    exact List.sublist_nil.1 (ha ▸ hos)
  · exact hclaim s _ (.refl s) hf ha

/-- R153, R173: a holder of GATE that drops MARK loses its DELIVER_MARKED orders. -/
theorem GateKept.dropMark {s : State} (hs : StationsSound s) {a : Address} (ha : (s.station a).role = some .gate)
    (hst : (s.station a).standing = some .assigned) :
    GateKept s (s.dropMark a) ∧ ∀ t, (Disposition.deliverMarked, t) ∉ ((s.dropMark a).station a).gateOrders := by
  have hr := Removed.divertAllUnconfirmed s (markedTags (s.station a).orders)
  have hnone : ∀ b o t, Order.gate o t ∈ ((s.divertAllUnconfirmed (markedTags (s.station a).orders)).station b).orders →
      decide (o = .deliverMarked) = false := fun b o t hin => by
    rw [hr.station b] at hin
    obtain ⟨hin, hspared⟩ := List.mem_filter.1 hin
    have hab : a = b := ((stationsSound_iff s).1 hs).2 a b .gate ⟨ha, hst⟩
      (State.holder_some (StationsSound.holder_of_gateOrder hs hin))
    subst hab
    by_contra ho
    have ho : o = .deliverMarked := by simpa using ho
    subst ho
    have hmem : t ∈ markedTags (s.station a).orders := List.mem_filterMap.2 ⟨_, hin, rfl⟩
    simp [hmem] at hspared
  refine ⟨(GateKept.of_removed hr).trans (.withdraw hnone), fun t hin => ?_⟩
  obtain ⟨os, hos, e⟩ := (Trimmed.withdrawGateOrders (s.divertAllUnconfirmed (markedTags (s.station a).orders))
    fun o _ => decide (o = .deliverMarked)).station a
  have hin := Station.mem_gateOrders.1 hin
  rw [State.dropMark, e] at hin
  simpa using hnone a .deliverMarked t (hos.subset hin)

theorem GateKept.reannounce {s : State} (hf : s.gateInFlight = none) (hs : StationsSound s) {a : Address} {r : Role}
    (hr : (s.station a).role = some r) (abilities : Byte) : GateKept s (s.reannounce a r abilities) := by
  have hset : ∀ u : State, GateKept s u → u.gateInFlight = none →
      (∀ t, (Disposition.deliverMarked, t) ∈ (u.station a).gateOrders → (u.station a).abilities &&& 0x40 ≠ 0 →
        abilities &&& 0x40 ≠ 0) →
      GateKept s ((u.setStation a { u.station a with abilities := abilities }).raise .stationChange) := fun u hu huf hm =>
    (hu.trans (.setIdle (st := { u.station a with abilities := abilities }) huf rfl hm)).trans (.raise _ _)
  unfold State.reannounce
  dsimp only
  split
  · exact .refl s
  · split
    · next hst =>
      cases r with
      | gate =>
        unfold State.holderAbilities
        dsimp only
        split
        · obtain ⟨hkept, hnone⟩ := GateKept.dropMark hs hr hst
          refine hset _ hkept ?_ fun t hin => absurd hin (hnone t)
          exact ((RoleFrame.of_removed (.divertAllUnconfirmed s _)).trans (.withdrawGateOrders _ _)).flight.trans hf
        · next hkeep =>
          refine hset s (.refl s) hf fun t _ hmark => ?_
          have hdrops : (s.station a).abilities &&& 0x40 ≠ 0 → abilities &&& 0x40 ≠ 0 := by
            simpa [hasAbility, Ability.bit] using hkeep
          exact hdrops hmark
      | press =>
        have hnil := EntrySound.gateOrders_nil (hs.1 a) hr (by decide)
        unfold State.holderAbilities
        dsimp only
        split
        · have hgone : ({ s.station a with orders := (s.station a).orders.filter (· ≠ .jawRelease) } : Station).gateOrders = [] :=
            Station.gateOrders_eq_nil.2 fun o t hin => Station.gateOrders_eq_nil.1 hnil o t (List.mem_of_mem_filter hin)
          have hkept := GateKept.setIdle_none hf hgone hnil
          exact hset _ hkept hf fun t hin => by rw [hkept.gateOrders_nil hnil] at hin; cases hin
        · exact hset s (.refl s) hf fun t hin => by rw [hnil] at hin; cases hin
      | _ =>
        have hnil := EntrySound.gateOrders_nil (hs.1 a) hr (by decide)
        exact hset s (.refl s) hf fun t hin => by rw [hnil] at hin; cases hin
    · next hst =>
      obtain ⟨-, -, -, -, -, hidle, -, -⟩ := hs.1 a
      refine hset s (.refl s) hf fun t hin => ?_
      have hin := Station.mem_gateOrders.1 hin
      rw [hidle hst] at hin
      cases hin

/-- R172 to R174: an ANNOUNCE, while no order is in flight. -/
theorem GateKept.announce {s : State} (hf : s.gateInFlight = none) (hq : OrdersQueued s) (hs : StationsSound s)
    (a : Address) (role abilities : Byte) : GateKept s (s.announce a role abilities) := by
  have hlink : LinkSound False s := ⟨hs, False.elim⟩
  unfold State.announce
  split
  · exact .refl s
  · next r _ =>
    have hclaimed : GateKept s (if (s.station a).role = some r then s.reannounce a r (abilities &&& r.mayAnnounce)
        else (s.leaveRole a).claimRole a r (abilities &&& r.mayAnnounce)) := by
      split
      · next hr => exact .reannounce hf hs hr _
      · have hleft := GateKept.leaveRole hf hq hs a
        refine hleft.trans (.claimRole ((RoleFrame.leaveRole s a).flight.trans hf) (hleft.ordersQueued hq)
          (hlink.leaveRole False.elim a).others ?_ _)
        rw [hlink.station_leaveRole]
    dsimp only
    split
    · exact hclaimed.trans (.of_frame ⟨rfl, rfl, rfl, rfl⟩ rfl)
    · exact hclaimed

/-- R171: a station goes ABSENT, while no order is in flight. -/
theorem GateKept.goAbsent {s : State} (hf : s.gateInFlight = none) (hq : OrdersQueued s) (hs : StationsSound s)
    (a : Address) : GateKept s (s.goAbsent a) := by
  have hlink : LinkSound False s := ⟨hs, False.elim⟩
  have hleft := GateKept.leaveRole hf hq hs a
  have hnil : ((s.leaveRole a).station a).gateOrders = [] := by
    rw [hlink.station_leaveRole]
    rfl
  exact (hleft.trans (.setIdle_none ((RoleFrame.leaveRole s a).flight.trans hf) rfl hnil)).trans (.raise _ _)

/-- R169: the silent count, while no order is in flight. -/
theorem GateKept.countSilence {s : State} (hf : s.gateInFlight = none) (hq : OrdersQueued s) (hs : StationsSound s)
    (a : Address) : GateKept s (s.countSilence a) := by
  unfold State.countSilence
  dsimp only
  split
  · split
    · exact .setIdle_same hf rfl rfl
    · exact .goAbsent hf hq hs a
  · exact .setIdle_same hf rfl rfl

end Sys2Proof.Machine
end

section
/-! SUPPORT. O59: the gate unit's own operations (R148 to R152): an arrival, a POLL, and the end of the order in flight. -/

namespace Sys2Proof.Machine

open Sys2Proof.Safety

/-- R147: where only one station has gate orders, they are the waiting ones. -/
theorem StationsSound.waitingTags_at {s : State} (h : StationsSound s) {a : Address}
    (hothers : ∀ b, b ≠ a → (s.station b).gateOrders = []) :
    Safety.waitingTags s = (s.station a).gateOrders.map Prod.snd := by
  by_cases ha : (s.station a).gateOrders = []
  · rw [ha, waitingTags_nil fun b => ?_]
    · rfl
    · by_cases hb : b = a
      · rw [hb, ha]
      · exact hothers b hb
  · exact StationsSound.waitingTags h ha

theorem StationsSound.others_nil {s : State} (h : StationsSound s) {a : Address} (ha : s.holder .gate = some a) {b : Address}
    (hb : b ≠ a) : (s.station b).gateOrders = [] :=
  Station.gateOrders_eq_nil.2 fun _ _ hin =>
    hb (Option.some.inj ((StationsSound.holder_of_gateOrder h hin).symm.trans ha))

/-! ### The end of the order in flight -/

theorem GateSound.idle_of_exchange {s : State} (h : GateSound s) (hex : s.link.exchange = none) : s.gateInFlight = none := by
  by_contra hf
  obtain ⟨f, hf⟩ := Option.ne_none_iff_exists'.1 hf
  obtain ⟨ex, hex', -⟩ := h.1.2.1 f hf
  cases hex.symm.trans hex'

theorem GateSound.idle_of_carries {s : State} (h : GateSound s) {ex : Exchange} (hex : s.link.exchange = some ex)
    (hc : ex.carriesGate = false) : s.gateInFlight = none := by
  by_contra hf
  obtain ⟨f, hf⟩ := Option.ne_none_iff_exists'.1 hf
  obtain ⟨ex', hex', hcar⟩ := h.1.2.1 f hf
  obtain rfl := Option.some.inj (hex.symm.trans hex')
  simp [Exchange.carriesGate, hcar] at hc

/-- The state without its order in flight, and the gate order queue without that order's piece. -/
def State.grounded (s : State) : State := { s with gateInFlight := none, gateQueue := waitingTags s }

theorem GateSound.grounded {s : State} (h : GateSound s) : GateSound s.grounded := by
  obtain ⟨⟨hholder, -, -⟩, hwait, -⟩ := h
  refine ⟨⟨hholder, fun f hf => ?_, .inl rfl⟩, hwait, fun f p hf => ?_⟩ <;> cases hf

/-- R151, R152: the order in flight ends, and its piece is gone where it was there. -/
theorem GateSound.endFlight {s u : State} {ts : List Tag} (h : GateSound s) (hs : StationsSound s) (hu : StationsSound u)
    (hrec : QueueRecorded u) (hlive : LiveCountsExact u) (hpol : PoliciesKept s u)
    (hr : Removed ts { s with gateInFlight := none } u)
    (hts : ∀ f, s.gateInFlight = some f → s.flightPresent f = true → f.tag ∈ ts) : GateSound u := by
  have hnone : u.gateInFlight = none := by rw [hr.frame]
  have hk := GateKeptBy.of_removed hr
  have hqueue : u.gateQueue = (waitingTags s).filter (· ∉ ts) := by
    obtain ⟨⟨-, -, hq⟩, -⟩ := h
    rcases hq with hq | ⟨f, p, hf, hq, hp, hadm⟩
    · rw [hk.queue]
      exact congrArg _ hq
    · have hpresent : s.flightPresent f = true := by simp [State.flightPresent, hq, hp, hadm]
      rw [hk.queue]
      change s.gateQueue.filter (· ∉ ts) = _
      rw [hq]
      simp [hts f hf hpresent]
  refine GateSound.kept h.grounded hs hu hrec hlive hpol (fun t q hf => absurd hnone hf) ⟨ts, hqueue, hk.orders, hk.marks, hk.held, .inl ⟨rfl, hnone⟩⟩

theorem State.confirmFlight_removed (s : State) : s.gateInFlight = none ∧ s.confirmFlight = s ∨ ∃ ts,
    Removed ts { s with gateInFlight := none } s.confirmFlight ∧
      ∀ f, s.gateInFlight = some f → s.flightPresent f = true → f.tag ∈ ts := by
  unfold State.confirmFlight
  split
  · next h => exact .inl ⟨h, rfl⟩
  · next f hf =>
    dsimp only
    split
    · exact .inr ⟨[f.tag], .retire _ _ _, fun g hg _ => by
        obtain rfl := Option.some.inj (hf.symm.trans hg)
        exact List.mem_singleton_self _⟩
    · next habsent => exact .inr ⟨[], .nil _, fun g hg hpresent => by
        obtain rfl := Option.some.inj (hf.symm.trans hg)
        exact absurd hpresent habsent⟩

theorem State.failFlight_removed (s : State) : s.gateInFlight = none ∧ s.failFlight = s ∨ ∃ ts,
    Removed ts { s with gateInFlight := none } s.failFlight ∧
      ∀ f, s.gateInFlight = some f → s.flightPresent f = true → f.tag ∈ ts := by
  unfold State.failFlight
  split
  · next h => exact .inl ⟨h, rfl⟩
  · next f hf =>
    dsimp only
    split
    · exact .inr ⟨[f.tag], .divertUnconfirmed _ _, fun g hg _ => by
        obtain rfl := Option.some.inj (hf.symm.trans hg)
        exact List.mem_singleton_self _⟩
    · next habsent => exact .inr ⟨[], .nil _, fun g hg hpresent => by
        obtain rfl := Option.some.inj (hf.symm.trans hg)
        exact absurd hpresent habsent⟩

/-! ### A POLL -/

theorem PoliciesKept.of_same {s u : State} (hj : u.job = s.job) : PoliciesKept s u :=
  fun _ _ _ c _ _ hc => ⟨c, hj ▸ hc, rfl⟩

theorem GateKept.of_idle {s u : State} (hs : s.gateInFlight = none) (hu : u.gateInFlight = none)
    (hq : u.gateQueue = s.gateQueue) (hst : u.stations = s.stations) (hp : u.pool = s.pool) : GateKept s u := by
  have hstation : ∀ a, u.station a = s.station a := fun a => congrFun (State.station_congr hst) a
  exact ⟨[], by simp [hq], fun a => by simp [hstation], fun a t _ h => by rwa [hstation],
    fun t p h _ => by rwa [State.piece_congr hp] at h, .inl ⟨hs, hu⟩⟩

/-- R166, R175: the state after a POLL to the next address has its oldest order in the exchange. -/
theorem State.sendPoll_eq {s : State} (hc : s.check = .pass) (hex : s.link.exchange = none) :
    ∃ l : Link, l.exchange.map (·.carried) = some (s.station s.link.next).orders.head? ∧ s.sendPoll =
      { s.setStation s.link.next { s.station s.link.next with orders := (s.station s.link.next).orders.tail } with
        gateInFlight := s.flightOf (s.station s.link.next).orders.head?
        link := l } := by
  unfold State.sendPoll
  rw [if_pos ⟨hc, hex⟩]
  dsimp only
  rw [State.sendFrame_eq]
  exact ⟨_, rfl, rfl⟩

/-- R150: the POLL carries a gate order, and its piece heads the gate order queue. -/
theorem GateSound.pollGate {s : State} (h : GateSound s) (hs : StationsSound s)
    (hlive : LiveCountsExact s) (hidle : s.gateInFlight = none) {a : Address} {o : Disposition} {t : Tag} {rest : List Order}
    (ho : (s.station a).orders = .gate o t :: rest) {p : Piece} (hp : s.piece t = some p) {l : Link}
    (hl : l.exchange.map (·.carried) = some (some (.gate o t)))
    (hu : StationsSound { s.setStation a { s.station a with orders := rest } with
      gateInFlight := some { order := o, tag := t, admission := p.admission }, link := l }) :
    GateSound { s.setStation a { s.station a with orders := rest } with
      gateInFlight := some { order := o, tag := t, admission := p.admission }, link := l } := by
  obtain ⟨⟨hholder, -, hqueue⟩, hwait, -⟩ := h
  have ha : s.holder .gate = some a := hholder a o t (by rw [ho]; exact List.mem_cons_self)
  have hqueue : s.gateQueue = waitingTags s := by
    rcases hqueue with hq | ⟨f, -, hf, -⟩
    · exact hq
    · cases hidle.symm.trans hf
  have hdel : ∀ (b : Address) (o' : Disposition) (v : Tag) (q : Piece), Order.gate o' v ∈ (s.station b).orders → o' ≠ .divert →
      s.piece v = some q → Deliverable { s.setStation a { s.station a with orders := rest } with
        gateInFlight := some { order := o, tag := t, admission := p.admission }, link := l } o' q :=
    fun b o' v q hin ho' hq => by
      refine Deliverable.kept (hwait b o' v q hin ho' hq) (t := v) hq hlive (.of_same rfl) fun _ c hc hmark => ⟨c, ?_, ?_⟩
      · rw [← hc]
        exact State.holder_congr (fun x => by
          change ((s.setStation a _).station x).role = _ ∧ ((s.setStation a _).station x).standing = _
          rw [State.station_setStation]
          split
          · next e => rw [e]; exact ⟨rfl, rfl⟩
          · exact ⟨rfl, rfl⟩) _
      · change ((s.setStation a _).station c).abilities &&& 0x40 ≠ 0
        rw [State.station_setStation]
        split
        · next e => rw [← e]; exact hmark
        · exact hmark
  have hstation : ∀ b : Address, State.station { s.setStation a { s.station a with orders := rest } with
        gateInFlight := some { order := o, tag := t, admission := p.admission }, link := l } b =
      if b = a then { s.station a with orders := rest } else s.station b := fun b => s.station_setStation a b _
  have hwaiting : waitingTags s = t :: waitingTags { s.setStation a { s.station a with orders := rest } with
      gateInFlight := some { order := o, tag := t, admission := p.admission }, link := l } := by
    rw [StationsSound.waitingTags_at hs fun b hb => StationsSound.others_nil hs ha hb,
      StationsSound.waitingTags_at hu (a := a) fun b hb => by
        rw [hstation, if_neg hb]
        exact StationsSound.others_nil hs ha hb, hstation, if_pos rfl]
    simp [Station.gateOrders, ho, Order.forGate]
  have hmem : t ∈ s.gateQueue := by
    rw [hqueue, hwaiting]
    exact List.mem_cons_self
  have hback : ∀ (b : Address) (o' : Disposition) (v : Tag), Order.gate o' v ∈ (State.station
      { s.setStation a { s.station a with orders := rest } with
        gateInFlight := some { order := o, tag := t, admission := p.admission }, link := l } b).orders →
      Order.gate o' v ∈ (s.station b).orders := fun b o' v hin => by
    rw [hstation] at hin
    split at hin
    · next e =>
      rw [e, ho]
      exact List.mem_cons_of_mem _ hin
    · exact hin
  refine ⟨⟨fun b o' v hin => StationsSound.holder_of_gateOrder hu hin, fun f hf => ?_, .inr ⟨_, p, rfl, ?_, hp, rfl⟩⟩,
    fun b o' v q hin ho' hq => hdel b o' v q (hback b o' v hin) ho' hq, fun f q hf hq hadm => ?_⟩
  · cases hf
    obtain ⟨ex, hex, e⟩ := Option.map_eq_some_iff.1 hl
    exact ⟨ex, hex, e⟩
  · exact hqueue.trans hwaiting
  · cases hf
    exact ⟨hmem, fun ho' => hdel a o t q (by rw [ho]; exact List.mem_cons_self) ho' hq⟩

/-- R150: the oldest order of a station's queue goes with the POLL. -/
theorem GateSound.sendPoll {s : State} (h : GateSound s) (hs : StationsSound s) (hrec : QueueRecorded s)
    (hlive : LiveCountsExact s) (hc : s.check = .pass) (hex : s.link.exchange = none) (hu : StationsSound s.sendPoll) :
    GateSound s.sendPoll := by
  have hidle := h.idle_of_exchange hex
  have hsub := GateQueueSound.ordersQueued h.1 hs
  obtain ⟨l, hl, e⟩ := State.sendPoll_eq hc hex
  rw [e] at hu ⊢
  generalize s.link.next = a at *
  -- without a gate order in the POLL the gate unit is left as it was
  have hplain : ∀ rest, ({ s.station a with orders := rest } : Station).gateOrders = (s.station a).gateOrders →
      StationsSound { s.setStation a { s.station a with orders := rest } with gateInFlight := none, link := l } →
      GateSound { s.setStation a { s.station a with orders := rest } with gateInFlight := none, link := l } :=
    fun rest hrest hw => by
      have hset : GateKept s (s.setStation a { s.station a with orders := rest }) :=
        .setIdle hidle hrest fun _ _ hm => hm
      exact GateSound.kept h hs hw hrec hlive (.of_same rfl) (fun t q hf => absurd rfl hf)
        (hset.trans (.of_idle hidle rfl rfl rfl rfl))
  cases horders : (s.station a).orders with
  | nil =>
    rw [horders] at hu
    dsimp only
    exact hplain [] (by rw [Station.gateOrders, Station.gateOrders, horders]) hu
  | cons o rest =>
    rw [horders] at hu
    dsimp only
    cases o with
    | jawRelease => exact hplain rest (by simp only [Station.gateOrders, horders, List.filterMap_cons, Order.forGate]) hu
    | gate o t =>
      obtain ⟨p, hp, -⟩ := hrec t (hsub a o t (by rw [horders]; exact List.mem_cons_self))
      simp only [List.head?_cons, List.tail_cons, State.flightOf, hp, Option.map_some] at hu ⊢
      exact h.pollGate hs hlive hidle horders hp (by rw [hl, horders]; rfl) hu

/-! ### An arrival at the gate -/

/-- R15, R148: the order of a fit piece names what it may be delivered as. -/
theorem Deliverable.of_gateOrder {s : State} {p : Piece} (hfit : Fit p) (ho : gateOrder p.jacketStatus (s.disposition p) ≠ .divert) :
    Deliverable s (gateOrder p.jacketStatus (s.disposition p)) p := by
  have hjacket : (p.jacketStatus = .married ∨ p.jacketStatus = .notRequired) ∧
      gateOrder p.jacketStatus (s.disposition p) = s.disposition p := by
    cases hj : p.jacketStatus <;> simp_all [gateOrder]
  rw [hjacket.2] at ho ⊢
  unfold State.disposition at ho ⊢
  by_cases hclean : p.faults = 0
  · rw [if_pos hclean]
    exact ⟨hfit (.inl hclean), hjacket.1, by simpa using hclean⟩
  · rw [if_neg hclean] at ho ⊢
    by_cases hover : p.faults = FaultKind.overdwell.bit
    · rw [if_pos hover] at ho ⊢
      cases hb : s.jobOf p with
      | none => simp [hb] at ho
      | some b =>
        simp only [hb] at ho ⊢
        by_cases hpass : (b.overdwellPolicy = .passMarked && s.holderHas .gate .mark) = true
        · rw [if_pos hpass]
          refine ⟨hfit (.inr hover), hjacket.1, ?_⟩
          rw [if_neg (by decide)]
          obtain ⟨hpolicy, hmark⟩ := Bool.and_eq_true_iff.1 hpass
          refine ⟨hover, ⟨b, hb, by simpa using hpolicy⟩, ?_⟩
          unfold State.holderHas at hmark
          split at hmark
          · next a ha => exact ⟨a, ha, by simpa [hasAbility, Ability.bit] using hmark⟩
          · cases hmark
        · simp [hpass] at ho
    · simp [hover] at ho

theorem State.piece_queueGateOrder (s : State) (a : Address) (o : Disposition) (t v : Tag) :
    (s.queueGateOrder a o t).piece v = if v = t then (s.piece t).map (·.putIn .gateQueue) else s.piece v := by
  rw [State.queueGateOrder, State.piece_updatePiece]
  rfl

theorem State.station_queueGateOrder (s : State) (a : Address) (o : Disposition) (t : Tag) (b : Address) :
    (s.queueGateOrder a o t).station b =
      if b = a then { s.station a with orders := (s.station a).orders ++ [Order.gate o t] } else s.station b :=
  s.station_setStation a b _

/-- R149: the piece in hand and its order join the tails of their queues. -/
theorem GateSound.queueGateOrder {s : State} (h : GateSound s) (hs : StationsSound s) (hplaces : InHand [t] s)
    {p : Piece} (hp : s.piece t = some p) (hfit : Fit p) {a : Address} (ha : s.holder .gate = some a)
    (hu : StationsSound (s.queueGateOrder a (gateOrder p.jacketStatus (s.disposition p)) t))
    (hlive : LiveCountsExact (s.queueGateOrder a (gateOrder p.jacketStatus (s.disposition p)) t)) :
    GateSound (s.queueGateOrder a (gateOrder p.jacketStatus (s.disposition p)) t) := by
  have hout : t ∉ s.gateQueue := fun hin => (hplaces.not_mem (pl := .gateQueue) hin) (List.mem_singleton_self t)
  have hsub := GateQueueSound.ordersQueued h.1 hs
  obtain ⟨⟨hholder, hcarried, hqueue⟩, hwait, hflight⟩ := h
  have horder := Deliverable.of_gateOrder (s := s) hfit
  generalize gateOrder p.jacketStatus (s.disposition p) = order at *
  have hpiece := s.piece_queueGateOrder a order t
  have hstation := s.station_queueGateOrder a order t
  have hqueue' : (s.queueGateOrder a order t).gateQueue = s.gateQueue ++ [t] := rfl
  have hflight' : (s.queueGateOrder a order t).gateInFlight = s.gateInFlight := rfl
  have hlink' : (s.queueGateOrder a order t).link = s.link := rfl
  have hjob : (s.queueGateOrder a order t).job = s.job := rfl
  generalize s.queueGateOrder a order t = u at *
  have hholds : u.holder .gate = s.holder .gate := State.holder_congr (fun b => by
    rw [hstation]
    split
    · next e => rw [e]; exact ⟨rfl, rfl⟩
    · exact ⟨rfl, rfl⟩) _
  have hkept : ∀ {o : Disposition} {v : Tag} {q : Piece}, Deliverable s o q → u.piece v = some q → Deliverable u o q :=
    fun hd hq => Deliverable.kept hd hq hlive (.of_same hjob) fun _ b hb hmark => ⟨b, hholds.trans hb, by
      rw [hstation]
      split
      · next e => rw [← e]; exact hmark
      · exact hmark⟩
  have hwaiting : waitingTags u = waitingTags s ++ [t] := by
    rw [StationsSound.waitingTags_at hs fun b hb => StationsSound.others_nil hs ha hb,
      StationsSound.waitingTags_at hu (a := a) fun b hb => by
        rw [hstation, if_neg hb]
        exact StationsSound.others_nil hs ha hb, hstation, if_pos rfl]
    simp [Station.gateOrders, Order.forGate]
  refine ⟨⟨fun b o v hin => StationsSound.holder_of_gateOrder hu hin, fun f hf => ?_, ?_⟩, fun b o v q hin ho hq => ?_,
    fun f q hf hq hadm => ?_⟩
  · obtain ⟨ex, hex, e⟩ := hcarried f (hflight' ▸ hf)
    exact ⟨ex, hlink' ▸ hex, e⟩
  · rcases hqueue with hq | ⟨f, q, hf, hq, hqp, hadm⟩
    · exact .inl (by rw [hqueue', hwaiting, hq])
    · have hne : f.tag ≠ t := fun e => hout (by rw [hq, e]; exact List.mem_cons_self)
      exact .inr ⟨f, q, hflight'.trans hf, by rw [hqueue', hwaiting, hq]; rfl, by rw [hpiece, if_neg hne, hqp], hadm⟩
  · have hcases : Order.gate o v ∈ (s.station b).orders ∨ (o = order ∧ v = t) := by
      rw [hstation] at hin
      split at hin
      · next e =>
        subst e
        simpa using hin
      · exact .inl hin
    rcases hcases with hin | ⟨rfl, rfl⟩
    · have hne : v ≠ t := fun e => hout (e ▸ hsub b o v hin)
      exact hkept (hwait b o v q hin ho (by rwa [hpiece, if_neg hne] at hq)) hq
    · have hq' := hq
      rw [hpiece, if_pos rfl, hp] at hq'
      obtain rfl := Option.some.inj hq'
      have hd : Deliverable s o (p.putIn .gateQueue) := horder ho
      exact hkept hd hq
  · rw [hflight'] at hf
    by_cases ht : f.tag = t
    · rw [hpiece, if_pos ht, hp] at hq
      obtain rfl := Option.some.inj hq
      exact absurd (ht ▸ (hflight f p hf (ht ▸ hp) hadm).1) hout
    · have hq' := hq
      rw [hpiece, if_neg ht] at hq'
      obtain ⟨hin, hd⟩ := hflight f q hf hq' hadm
      exact ⟨by rw [hqueue']; exact List.mem_append_left _ hin, fun ho => hkept (hd ho) hq⟩

end Sys2Proof.Machine
end

section
/-! SUPPORT. O59: the gate's orders, deliveries and clean pieces over every command and every step. -/

namespace Sys2Proof.Machine

open Sys2Proof.Safety

/-! ### Overdwell policies -/

/-- The counts are exact, and the jobs of the pieces in use have the policies that they had. -/
def LivePolicies (s u : State) : Prop := LiveCountsExact u ∧ PoliciesKept s u

/-- The counts are exact, and every job has the policy that it had. -/
def SamePolicies (s u : State) : Prop :=
  LiveCountsExact u ∧ ∀ j c, u.job j = some c → ∃ b, s.job j = some b ∧ c.overdwellPolicy = b.overdwellPolicy

theorem SamePolicies.refl {s : State} (h : LiveCountsExact s) : SamePolicies s s := ⟨h, fun _ c hc => ⟨c, hc, rfl⟩⟩

theorem SamePolicies.weaken {s u : State} (h : SamePolicies s u) : LivePolicies s u := ⟨h.1, fun _ _ j c _ _ hc => h.2 j c hc⟩

theorem LivePolicies.refl {s : State} (h : LiveCountsExact s) : LivePolicies s s := (SamePolicies.refl h).weaken

theorem Job.settled_policy (b : Job) (k : Retirement) : (b.settled k).overdwellPolicy = b.overdwellPolicy := by cases k <;> rfl

theorem bookLaw_livePolicies (s : State) : BookLaw False (LivePolicies s) where
  same {x y} hu h := by
    refine ⟨(bookLaw_live (limited := False)).same hu h.1, fun t q j c hq hj hc => ?_⟩
    cases hp : x.piece t with
    | none => simp [hu.free t hp] at hq
    | some p =>
      obtain ⟨r, hr, e⟩ := hu.piece t p hp
      obtain rfl : r = q := Option.some.inj (hr.symm.trans hq)
      exact h.2 t p j c hp (e.job ▸ hj) (hu.sameBooks.job ▸ hc)
  strike {x k t p j b} hp hj hb hk h := by
    refine ⟨(bookLaw_live (limited := False)).strike hp hj hb hk h.1, fun v q i c hq hi hc => ?_⟩
    rw [State.piece_checkOut] at hq
    split at hq
    · cases hq
    · rw [State.jobs_checkOut] at hc
      split at hc
      · next e =>
        cases hc
        subst e
        rw [Job.settled_policy]
        exact h.2 v q i b hq hi hb
      · exact h.2 v q i c hq hi hc
  strikeJobless {x t p} hp hb h := by
    refine ⟨(bookLaw_live (limited := False)).strikeJobless hp hb h.1, fun v q i c hq hi hc => ?_⟩
    rw [State.piece_setPiece] at hq
    split at hq
    · cases hq
    · exact h.2 v q i c hq hi hc
  restateJob {x j b b'} hb hr h := by
    refine ⟨(bookLaw_live (limited := False)).restateJob hb hr h.1, fun v q i c hq hi hc => ?_⟩
    rw [State.job_setJob] at hc
    split at hc
    · next e =>
      cases hc
      subst e
      rw [hr.1]
      exact h.2 v q i b hq hi hb
    · exact h.2 v q i c hq hi hc
  emptyJob {x j b} hb hl h := by
    refine ⟨(bookLaw_live (limited := False)).emptyJob hb hl h.1, fun v q i c hq hi hc => ?_⟩
    rw [State.jobs_emptyJob] at hc
    split at hc
    · cases hc
    · rw [State.piece_congr (State.pool_emptyJob x j b)] at hq
      exact h.2 v q i c hq hi hc

theorem livePolicies_keptByBinding (s : State) : KeptByBinding (LivePolicies s) := by
  intro x j b p range r hj hp hkey hr hfree h
  refine ⟨liveCountsExact_keptByBinding r hj hp hkey hr hfree h.1, fun v q i c hq hi hc => ?_⟩
  rw [State.piece_congr (State.pool_bindJob x j b r)] at hq
  obtain ⟨c', hc'⟩ := LiveCountsExact.bound h.1 hq hi
  rw [State.jobs_bindJob] at hc
  split at hc
  · next e =>
    subst e
    cases hj.symm.trans hc'
  · exact h.2 v q i c hq hi hc

theorem livePolicies_enters (s : State) : Enters (SamePolicies s) (LivePolicies s) := by
  intro x t key measured copy thickness ht hw h
  refine ⟨liveCountsExact_enters measured copy thickness ht hw h.1, fun v q i c _ _ hc => ?_⟩
  cases hfound : x.admittingJob key with
  | none =>
    rw [hfound] at hc
    exact h.2 i c hc
  | some jb =>
    obtain ⟨j, b⟩ := jb
    rw [hfound, State.jobs_enterJob] at hc
    split at hc
    · next e =>
      cases hc
      subst e
      exact h.2 i b (State.admittingJob_some hfound).1
    · exact h.2 i c hc

/-- Each record in use was in use, and is of the same piece. -/
def SamePieces (s u : State) : Prop := ∀ t q, u.piece t = some q → ∃ p, s.piece t = some p ∧ q.admission = p.admission

theorem SamePieces.refl (s : State) : SamePieces s s := fun _ q hq => ⟨q, hq, rfl⟩

theorem bookLaw_samePieces (s : State) : BookLaw False (SamePieces s) :=
  bookLaw_of_records fun h _ hpiece t q hq => by
    obtain ⟨r, hr, e⟩ := hpiece t q hq
    obtain ⟨p, hp, e'⟩ := h t r hr
    exact ⟨p, hp, e.admission.trans e'⟩

theorem samePieces_keptByBinding (s : State) : KeptByBinding (SamePieces s) :=
  fun r _ _ _ _ _ h => by rw [State.jobs_bindJob_frame]; exact h

/-! ### The whole -/

/-- What the gate unit's laws rest on: places, with the capacities where they are asked for, stations and counts. -/
def Grounds (capped : Prop) (s : State) : Prop :=
  (InHand [] s ∧ (capped → WithinCapacity s)) ∧ LinkSound False s ∧ LiveCountsExact s

/-- The gate's orders, deliveries and clean pieces, with what they rest on. -/
structure Deliverables (capped : Prop) (s : State) : Prop where
  grounds : Grounds capped s
  clean : CleanPiecesMarried s
  gate : GateSound s

namespace Deliverables

variable {capped : Prop} {s u : State}

theorem places (h : Deliverables capped s) : InHand [] s := h.grounds.1.1

theorem stations (h : Deliverables capped s) : StationsSound s := h.grounds.2.1.1

theorem live (h : Deliverables capped s) : LiveCountsExact s := h.grounds.2.2

theorem ordersQueued (h : Deliverables capped s) : OrdersQueued s := GateQueueSound.ordersQueued h.gate.1 h.stations

/-- The sound state after an operation that leaves the gate's orders to the gate unit. -/
theorem next (h : Deliverables capped s) (hg : Grounds capped u) (hpol : LivePolicies s u)
    (hadm : u.gateInFlight = none ∨ SamePieces s u) (hclean : CleanPiecesMarried u) (hk : GateKept s u) :
    Deliverables capped u where
  grounds := hg
  clean := hclean
  gate := h.gate.kept h.stations hg.2.1.1 hg.1.1.queueRecorded hg.2.2 hpol.2
    (fun t q hf hq => by
      rcases hadm with hn | hs
      · exact absurd hn hf
      · exact hs t q hq) hk

end Deliverables

theorem KeptByOps.and {P Q : State → Prop} (p : KeptByOps P) (q : KeptByOps Q) : KeptByOps fun s => P s ∧ Q s where
  inert hi h := ⟨p.inert hi h.1, q.inert hi h.2⟩
  checkEnds hr hc h := ⟨p.checkEnds hr hc h.1, q.checkEnds hr hc h.2⟩
  powerOn time asserted h := ⟨p.powerOn time asserted h.1, q.powerOn time asserted h.2⟩
  bindJob r h1 h2 h3 h4 h5 h := ⟨p.bindJob r h1 h2 h3 h4 h5 h.1, q.bindJob r h1 h2 h3 h4 h5 h.2⟩
  restateJob hb hr h := ⟨p.restateJob hb hr h.1, q.restateJob hb hr h.2⟩
  emptyJob hb hl h := ⟨p.emptyJob hb hl h.1, q.emptyJob hb hl h.2⟩
  filter hf h := ⟨p.filter hf h.1, q.filter hf h.2⟩
  timers hp h := ⟨p.timers hp h.1, q.timers hp h.2⟩
  heated hf h := ⟨p.heated hf h.1, q.heated hf h.2⟩
  offerJawRelease h := ⟨p.offerJawRelease h.1, q.offerJawRelease h.2⟩
  discharge h := ⟨p.discharge h.1, q.discharge h.2⟩
  shiftPress h0 h := ⟨p.shiftPress h0 h.1, q.shiftPress h0 h.2⟩
  enterPress h0 h := ⟨p.enterPress h0 h.1, q.enterPress h0 h.2⟩
  travel hm hq h := ⟨p.travel hm hq h.1, q.travel hm hq h.2⟩
  setMode hm h := ⟨p.setMode hm h.1, q.setMode hm h.2⟩
  enterReset z h := ⟨p.enterReset z h.1, q.enterReset z h.2⟩
  spoil t h := ⟨p.spoil t h.1, q.spoil t h.2⟩
  loseHead hq h := ⟨p.loseHead hq h.1, q.loseHead hq h.2⟩
  arrive hm hq h := ⟨p.arrive hm hq h.1, q.arrive hm hq h.2⟩
  returnTo h1 h2 h3 h4 h := ⟨p.returnTo h1 h2 h3 h4 h.1, q.returnTo h1 h2 h3 h4 h.2⟩
  latch a hc h := ⟨p.latch a hc h.1, q.latch a hc h.2⟩
  sendPoll hc hex h := ⟨p.sendPoll hc hex h.1, q.sendPoll hc hex h.2⟩

theorem liveCountsExact_keptByOps : KeptByOps LiveCountsExact :=
  (bookLaw_live (limited := False)).keptByOps liveCountsExact_keptByBinding fun hp hj _ _ => liveCountsExact_of_empty hp hj

theorem grounds_keptByOps (capped : Prop) : KeptByOps (Grounds capped) :=
  (lineLaw_capacity capped).keptByOps.and (linkSound_keptByOps.and liveCountsExact_keptByOps)

theorem livePolicies_keptByOps (s : State) : KeptByOps (LivePolicies s) :=
  (bookLaw_livePolicies s).keptByOps (livePolicies_keptByBinding s) fun hp hj _ _ =>
    ⟨liveCountsExact_of_empty hp hj, fun t p j c hp' => by simp [hp] at hp'⟩

theorem samePieces_keptByOps (s : State) : KeptByOps (SamePieces s) :=
  (bookLaw_samePieces s).keptByOps (samePieces_keptByBinding s) fun hp _ _ _ t q hq => by simp [hp] at hq

/-- What keeps the grounds of every state, and the policies and pieces of this one. -/
theorem Deliverables.byOp {capped : Prop} {s u : State} (h : Deliverables capped s)
    (op : ∀ Q : State → Prop, KeptByOps Q → Q s → Q u) (hclean : CleanPiecesMarried u) (hk : GateKept s u) :
    Deliverables capped u :=
  h.next (op _ (grounds_keptByOps capped) h.grounds) (op _ (livePolicies_keptByOps s) (.refl h.live))
    (.inr (op _ (samePieces_keptByOps s) (.refl s))) hclean hk

theorem deliverables_of_empty {capped : Prop} {u : State} (hg : Grounds capped u) (hp : ∀ v, u.piece v = none)
    (hq : u.gateQueue = []) (hf : u.gateInFlight = none) (hn : NoGateOrder u) : Deliverables capped u where
  grounds := hg
  clean v p hv := by simp [hp] at hv
  gate := by
    refine ⟨⟨fun a o t hin => absurd hin (hn a o t), fun f h => (by simp [hf] at h), .inl ?_⟩,
      fun a o t p hin => absurd hin (hn a o t), fun f p h => (by simp [hf] at h)⟩
    rw [hq, waitingTags_nil fun a => Station.gateOrders_eq_nil.2 (hn a)]

/-- R148, R149: a piece that arrives at the gate is diverted, or queued with its order. -/
theorem State.gateArrival_cases {s : State} {t : Tag} {p : Piece} (hp : s.piece t = some p) :
    s.gateArrival t = s.divertUnconfirmed t ∨ ∃ a, s.holder .gate = some a ∧
      s.gateArrival t = s.queueGateOrder a (gateOrder p.jacketStatus (s.disposition p)) t := by
  unfold State.gateArrival
  simp only [hp]
  cases ha : s.holder .gate with
  | none => exact .inl rfl
  | some a =>
    dsimp only
    split
    · exact .inl rfl
    · exact .inr ⟨a, rfl, rfl⟩

theorem CleanPiecesMarried.enterReset {s : State} (h : CleanPiecesMarried s) (z : Zone) : CleanPiecesMarried (s.enterReset z) := by
  unfold State.enterReset
  split
  · exact h
  · have hall : CleanPiecesMarried ((s.setMode z .reset).retireAll .spoiled (s.piecesOf z)) :=
      CleanPiecesMarried.of_removed (CleanPiecesMarried.of_pool h (by simp)) (.retireAll _ .spoiled (s.piecesOf z))
    cases z with
    | z2 => exact hall
    | _ => exact CleanPiecesMarried.of_pool hall rfl

/-- R51, R148: a piece that leaves the head of the Z5 queue is handed to the gate unit. -/
theorem Deliverables.gateArrival {capped : Prop} {s : State} {t : Tag} {rest : List Tag} (h : Deliverables capped s)
    (hm : (s.conveyor .z5).mode ≠ .reset) (hq : (s.conveyor .z5).queue = t :: rest) :
    GateSound ((s.setConveyor .z5 { s.conveyor .z5 with queue := rest }).gateArrival t) := by
  have hout := (grounds_keptByOps capped).arrive hm hq h.grounds
  have hpol := (livePolicies_keptByOps s).arrive hm hq (.refl h.live)
  have hadm := (samePieces_keptByOps s).arrive hm hq (.refl s)
  have hin : t ∈ s.occupants (.conveyor .z5) := by simp [State.occupants, hq]
  obtain ⟨p, hp, -⟩ := (h.places.others t (by simp)).isSome_of_mem hin
  have hhand := h.places.take (takenFrom_head hq)
  have htaken : GateKept s (s.setConveyor .z5 { s.conveyor .z5 with queue := rest }) := .setConveyor s .z5 _
  change Grounds capped ((s.setConveyor .z5 { s.conveyor .z5 with queue := rest }).gateArrival t) at hout
  change LivePolicies s ((s.setConveyor .z5 { s.conveyor .z5 with queue := rest }).gateArrival t) at hpol
  change SamePieces s ((s.setConveyor .z5 { s.conveyor .z5 with queue := rest }).gateArrival t) at hadm
  have hpiece : (s.setConveyor .z5 { s.conveyor .z5 with queue := rest }).piece = s.piece := rfl
  have hjobs : (s.setConveyor .z5 { s.conveyor .z5 with queue := rest }).job = s.job := rfl
  have hsound : GateSound (s.setConveyor .z5 { s.conveyor .z5 with queue := rest }) :=
    GateSound.kept h.gate h.stations h.stations hhand.queueRecorded h.live (.of_same rfl)
      (fun t q _ hq => ⟨q, hq, rfl⟩) htaken
  have hstations : StationsSound (s.setConveyor .z5 { s.conveyor .z5 with queue := rest }) := h.stations
  generalize s.setConveyor .z5 { s.conveyor .z5 with queue := rest } = w at *
  have hfit : Fit p := fit_of_occupant h.places h.clean hin rfl hp
  have hdivert : w.gateArrival t = w.divertUnconfirmed t → GateSound (w.gateArrival t) := fun e =>
    GateSound.kept h.gate h.stations hout.2.1.1 hout.1.1.queueRecorded hout.2.2 hpol.2 (fun t q _ hq => hadm t q hq)
      (htaken.trans (e ▸ .of_removed (.divertUnconfirmed w t)))
  have hp : w.piece t = some p := hpiece ▸ hp
  rcases State.gateArrival_cases hp with e | ⟨a, ha, e⟩
  · exact hdivert e
  · rw [e] at hout ⊢
    exact hsound.queueGateOrder hstations hhand hp hfit ha hout.2.1.1 hout.2.2

theorem deliverables_keptByOps (capped : Prop) : KeptByOps (Deliverables capped) where
  inert {s t} hi h := h.byOp (fun _ q => q.inert hi) (CleanPiecesMarried.of_pool h.clean (by rw [hi]))
    (.of_frame ⟨by rw [hi], by rw [hi], by rw [hi], by rw [hi]⟩ (by rw [hi]))
  checkEnds hr hc h := h.byOp (fun _ q => q.checkEnds hr hc) (CleanPiecesMarried.of_pool h.clean rfl) (.of_frame ⟨rfl, rfl, rfl, rfl⟩ rfl)
  powerOn {s} time asserted h := by
    have hg := (grounds_keptByOps capped).powerOn time asserted h.grounds
    obtain ⟨press, -, e⟩ := s.poweredOn_eq time asserted
    rw [e] at hg ⊢
    exact deliverables_of_empty hg (fun v => by simp [State.piece, State.reset]) rfl rfl
      fun a o t => by simp [State.station, State.reset, Station.powerOn]
  bindJob {s j b p range} r h1 h2 h3 h4 h5 h := h.byOp (fun _ q => q.bindJob r h1 h2 h3 h4 h5)
    (CleanPiecesMarried.of_pool h.clean (s.pool_bindJob j b r)) (by
      have hpool := s.pool_bindJob j b r
      rw [State.jobs_bindJob_frame] at hpool ⊢
      exact .of_frame ⟨rfl, rfl, rfl, rfl⟩ rfl)
  restateJob hb hr h := h.byOp (fun _ q => q.restateJob hb hr) (CleanPiecesMarried.of_pool h.clean rfl) (.of_frame ⟨rfl, rfl, rfl, rfl⟩ rfl)
  emptyJob {s j b} hb hl h := h.byOp (fun _ q => q.emptyJob hb hl) (CleanPiecesMarried.of_pool h.clean (s.pool_emptyJob j b)) (by
    rw [State.emptyJob_frame]
    exact .of_frame ⟨rfl, rfl, rfl, rfl⟩ rfl)
  filter hf h := h.byOp (fun _ q => q.filter hf) (CleanPiecesMarried.of_pool h.clean rfl) (.of_frame ⟨rfl, rfl, rfl, rfl⟩ rfl)
  timers hp h := h.byOp (fun _ q => q.timers hp) (CleanPiecesMarried.of_pool h.clean rfl) (.of_frame ⟨rfl, rfl, rfl, rfl⟩ rfl)
  heated hf h := h.byOp (fun _ q => q.heated hf) (CleanPiecesMarried.heated h.places h.clean hf) (.heated h.places hf)
  offerJawRelease {s} h := h.byOp (fun _ q => q.offerJawRelease) (CleanPiecesMarried.of_pool h.clean (by simp)) (by
    unfold State.offerJawRelease
    split
    · exact .refl s
    · dsimp only
      split
      · exact .setStation (by simp [Station.gateOrders, Order.forGate]) rfl rfl rfl
      · exact .refl s)
  discharge h := h.byOp (fun _ q => q.discharge) (CleanPiecesMarried.discharge h.places h.clean) (.discharge h.places)
  shiftPress h0 h := h.byOp (fun _ q => q.shiftPress h0) (CleanPiecesMarried.shiftPress h.clean) (.shiftPress _)
  enterPress h0 h := h.byOp (fun _ q => q.enterPress h0) (CleanPiecesMarried.enterPress h.places h.clean) (.enterPress h.places)
  travel hm hq h := h.byOp (fun _ q => q.travel hm hq) (CleanPiecesMarried.of_pool h.clean (by simp)) (.setConveyor _ _ _)
  setMode hm h := h.byOp (fun _ q => q.setMode hm) (CleanPiecesMarried.of_pool h.clean (by simp)) (.setMode _ _ _)
  enterReset {s} z h := h.byOp (fun _ q => q.enterReset z) (CleanPiecesMarried.enterReset h.clean z)
    (.enterReset h.ordersQueued z)
  spoil t h := h.byOp (fun _ q => q.spoil t) (CleanPiecesMarried.of_removed h.clean (.retire _ _ t)) (.of_removed (.retire _ _ t))
  loseHead {s z t rest} hq h := h.byOp (fun _ q => q.loseHead hq)
    (CleanBut.lose fun v p _ hp => h.clean v p (by rwa [State.piece_congr (State.setConveyor_pool s z _)] at hp))
    ((GateKept.setConveyor s z _).trans (.lose _ t))
  arrive {s z t rest} hm hq h := by
    have hin : t ∈ s.occupants (.conveyor z) := by simp [State.occupants, hq]
    have hclean : CleanPiecesMarried ((s.setConveyor z { s.conveyor z with queue := rest }).arrive z t) :=
      CleanPiecesMarried.arrive h.places h.clean hin (by rw [State.conveyor_setConveyor, if_pos rfl])
    by_cases hz : z = .z5
    · subst hz
      exact ⟨(grounds_keptByOps capped).arrive hm hq h.grounds, hclean, h.gateArrival hm hq⟩
    · refine h.byOp (fun _ q => q.arrive hm hq) hclean ((GateKept.setConveyor s z _).trans (.arrive hz fun o ho p hp => ?_))
      rw [State.piece_congr (State.setConveyor_pool s z _)] at hp
      rcases ho with ho | ho
      · rw [h.places.place_eq (pl := .casingSlot) (by simpa [State.occupants] using ho) hp]
        simp
      · rw [h.places.place_eq (pl := .jacketingSlot) (by simpa [State.occupants] using ho) hp]
        simp
  returnTo {s z t} h1 h2 h3 h4 h := h.byOp (fun _ q => q.returnTo h1 h2 h3 h4) (CleanPiecesMarried.returnTo h.places h.clean h1)
    (GateKept.trans (u := { s with lost := s.lost.filter (· ≠ t) }) (.of_frame ⟨rfl, rfl, rfl, rfl⟩ rfl) (.joinQueue _ z t))
  latch a hc h := h.byOp (fun _ q => q.latch a hc) (CleanPiecesMarried.of_pool h.clean rfl) (.setStation rfl rfl rfl rfl)
  sendPoll {s} hc hex h := by
    have hg := (grounds_keptByOps capped).sendPoll hc hex h.grounds
    refine ⟨hg, ?_, h.gate.sendPoll h.stations h.places.queueRecorded h.live hc hex hg.2.1.1⟩
    obtain ⟨l, -, e⟩ := State.sendPoll_eq hc hex
    rw [e]
    exact CleanPiecesMarried.of_pool h.clean rfl

end Sys2Proof.Machine
end

section
/-! SUPPORT. O59 and O60: the station link, and the gate's laws over every step and right after power-on. -/

namespace Sys2Proof.Machine

open Sys2Proof.Safety

variable {capped : Prop}

theorem GateKept.idle {s u : State} (h : GateKept s u) (hs : s.gateInFlight = none) : u.gateInFlight = none := by
  obtain ⟨ts, h⟩ := h
  rcases h.flight with hn | hf
  · exact hn.2
  · exact hf.flight.trans hs

/-- What a role change, or the end of an exchange, makes of the whole. -/
theorem Deliverables.move {s u : State} (h : Deliverables capped s) (m : ∀ R, RoleMoves R → R s u)
    (hl : LinkSound False u) (hgate : LivePolicies s u → SamePieces s u → QueueRecorded u → GateSound u) :
    Deliverables capped u := by
  have hline := (lineLaw_capacity capped).of_thinned (m _ roleMoves_thinned) h.grounds.1
  have hpol := m _ (bookLaw_livePolicies s).roleMoves (.refl h.live)
  have hsame := m _ (bookLaw_samePieces s).roleMoves (.refl s)
  exact ⟨⟨hline, hl, hpol.1⟩, CleanPiecesMarried.of_piecesGo (m _ roleMoves_piecesGo) h.clean,
    hgate hpol hsame hline.1.queueRecorded⟩

/-- One that leaves the gate's orders to the gate unit. -/
theorem Deliverables.moveKept {s u : State} (h : Deliverables capped s) (m : ∀ R, RoleMoves R → R s u)
    (hl : LinkSound False u) (hk : GateKept s u) : Deliverables capped u :=
  h.move m hl fun hpol hsame hrec => h.gate.kept h.stations hl.1 hrec hpol.1 hpol.2 (fun t q _ hq => hsame t q hq) hk

/-- The whole, with no order in flight. -/
def Idle (capped : Prop) (s : State) : Prop := Deliverables capped s ∧ s.gateInFlight = none

theorem Idle.moveKept {s u : State} (h : Idle capped s) (m : ∀ R, RoleMoves R → R s u)
    (hl : LinkSound False u) (hk : GateKept s u) : Idle capped u :=
  ⟨h.1.moveKept m hl hk, hk.idle h.2⟩

/-- R151: a confirmation ends the order in flight. -/
theorem Deliverables.confirmFlight {s : State} (h : Deliverables capped s) : Idle capped s.confirmFlight := by
  rcases s.confirmFlight_removed with ⟨hn, e⟩ | ⟨ts, hr, hts⟩
  · rw [e]
    exact ⟨h, hn⟩
  · have hline := (lineLaw_capacity capped).confirmFlight h.grounds.1
    have hpol := (bookLaw_livePolicies s).confirmFlight False.elim (.refl h.live)
    have hl := (Trimmed.confirmFlight s).linkSound h.grounds.2.1
    refine ⟨⟨⟨hline, hl, hpol.1⟩, ?_, h.gate.endFlight h.stations hl.1 hline.1.queueRecorded hpol.1 hpol.2 hr hts⟩,
      by rw [hr.frame]⟩
    have hclean : CleanPiecesMarried { s with gateInFlight := none } := CleanPiecesMarried.of_pool h.clean rfl
    exact CleanPiecesMarried.of_removed hclean hr

/-- R152: so does a silence. -/
theorem Deliverables.failFlight {s : State} (h : Deliverables capped s) : Idle capped s.failFlight := by
  rcases s.failFlight_removed with ⟨hn, e⟩ | ⟨ts, hr, hts⟩
  · rw [e]
    exact ⟨h, hn⟩
  · have hl := (Trimmed.failFlight s).linkSound h.grounds.2.1
    exact ⟨h.move (fun _ m => m.failFlight s) hl fun hpol _ hrec =>
      h.gate.endFlight h.stations hl.1 hrec hpol.1 hpol.2 hr hts, by rw [hr.frame]⟩

theorem Idle.countSilence {s : State} (h : Idle capped s) (a : Address) : Idle capped (s.countSilence a) :=
  h.moveKept (fun _ m => m.countSilence s a) (h.1.grounds.2.1.countSilence False.elim a).1
    (.countSilence h.2 h.1.ordersQueued h.1.stations a)

theorem Idle.endExchange {s : State} (h : Idle capped s) : Deliverables capped s.endExchange :=
  (h.moveKept (fun _ m => m.endExchange s) (h.1.grounds.2.1.setLink False.elim False.elim) (.of_idle h.2 h.2 rfl rfl rfl)).1

theorem idle_keptByReports : KeptByReports (Idle capped) (Idle capped) where
  weaken h := h
  announce {s a} role abilities ha h := h.moveKept (fun _ m => m.announce s a role abilities)
    (h.1.grounds.2.1.announce False.elim ha role abilities) (.announce h.2 h.1.ordersQueued h.1.stations a role abilities)
  blockScan {s} measured key copy thickness h := by
    have hk := GateKept.blockScan h.2 measured key copy thickness
    have hn := hk.idle h.2
    have hpol := (bookLaw_livePolicies s).blockScan SamePolicies.weaken (livePolicies_enters s) (.refl h.1.live) measured
      key copy thickness
    exact ⟨h.1.next ⟨(lineLaw_capacity capped).blockScan h.1.grounds.1 _ _ _ _,
      (Trimmed.blockScan s _ _ _ _).linkSound h.1.grounds.2.1, hpol.1⟩ hpol (.inl hn) (CleanPiecesMarried.blockScan h.1.clean _ _ _ _) hk, hn⟩
  caseScan {s} code refeed h := by
    have hk := GateKept.caseScan h.1.places code refeed
    have hpol := (bookLaw_livePolicies s).caseScan (.refl h.1.live) code refeed
    exact ⟨h.1.next ⟨(lineLaw_capacity capped).caseScan h.1.grounds.1 _ _,
      (Trimmed.caseScan s _ _).linkSound h.1.grounds.2.1, hpol.1⟩ hpol (.inl (hk.idle h.2))
      (CleanPiecesMarried.caseScan h.1.places h.1.clean _ _) hk, hk.idle h.2⟩
  jacketScan {s} code copy refeed copyRead h := by
    have hk := GateKept.jacketScan h.1.places code copy refeed copyRead
    have hpol := (bookLaw_livePolicies s).jacketScan (.refl h.1.live) code copy refeed copyRead
    exact ⟨h.1.next ⟨(lineLaw_capacity capped).jacketScan h.1.grounds.1 _ _ _ _,
      (Trimmed.jacketScan s _ _ _ _).linkSound h.1.grounds.2.1, hpol.1⟩ hpol (.inl (hk.idle h.2))
      (CleanPiecesMarried.jacketScan h.1.places h.1.clean _ _ _ _) hk, hk.idle h.2⟩
  takeTemp {s} sample h := h.moveKept (fun _ m => m.filter s _) (h.1.grounds.2.1.takeTemp sample)
    (.of_frame ⟨rfl, rfl, rfl, rfl⟩ rfl)
  sendFrame {s} a kind payload h := h.moveKept (fun _ m => m.sendFrame s a kind payload)
    (h.1.grounds.2.1.sendFrame False.elim a kind payload) (by
      rw [State.sendFrame_eq]
      exact .of_frame ⟨rfl, rfl, rfl, rfl⟩ rfl)

/-- The link's state changes, the order that the exchange carries does not. -/
theorem Deliverables.setLink {s : State} (h : Deliverables capped s) {l : Link}
    (hb : l.buffer.length ≤ 38 ∨ l.buffer = s.link.buffer)
    (hc : l.exchange.map (·.carried) = s.link.exchange.map (·.carried)) : Deliverables capped { s with link := l } :=
  h.moveKept (fun _ m => m.setLink hb) (h.grounds.2.1.setLink False.elim False.elim) (.of_frame ⟨rfl, rfl, rfl, hc⟩ rfl)

theorem Deliverables.markPresent {s : State} (h : Deliverables capped s) (a : Address) : Deliverables capped (s.markPresent a) := by
  refine h.moveKept (fun _ m => m.markPresent s a) (h.grounds.2.1.markPresent False.elim a).1 ?_
  have hset : GateKept s (s.setStation a { s.station a with present := true, silent := 0 }) := .setStation rfl rfl rfl rfl
  refine hset.trans (.of_frame ⟨?_, ?_, ?_, ?_⟩ ?_) <;> simp [State.markPresent]

theorem deliverables_keptByLink : KeptByLink (Deliverables capped) (Deliverables capped) where
  weaken h := h
  inert hi h := (deliverables_keptByOps capped).inert hi h
  receiver rx buffer _ hb h := h.setLink hb rfl
  candidate {s ex} hex h := h.setLink (.inr rfl) (by simp [hex])
  silence {s ex} hex h := by
    have hidle : Idle capped (if ex.carriesGate then s.failFlight else s) := by
      split
      · exact h.failFlight
      · next hc => exact ⟨h, h.gate.idle_of_carries hex (by simpa using hc)⟩
    exact (hidle.countSilence _).endExchange
  validReply {s ex} payload hex h := by
    have hmark := h.markPresent ex.address
    have hpresent := s.station_markPresent_present ex.address
    have hex' : (s.markPresent ex.address).link.exchange = some ex := by simpa [State.markPresent] using hex
    unfold State.validReply
    dsimp only
    refine Idle.endExchange ?_
    split
    · obtain ⟨os, -, hst⟩ := (Trimmed.confirmFlight (s.markPresent ex.address)).station ex.address
      exact idle_keptByReports.takePayload hmark.confirmFlight (by rw [hst]; exact hpresent) payload
    · next hc =>
      exact idle_keptByReports.takePayload ⟨hmark, hmark.gate.idle_of_carries hex' (by simpa using hc)⟩ hpresent payload

/-- R175: a queue holds a JAW_RELEASE alone, or the orders of pieces in the gate order queue. -/
theorem ordersWithinCapacity {s : State} (hs : StationsSound s) (hq : GateQueueSound s) (hc : WithinCapacity s) :
    OrdersWithinCapacity s := by
  intro a
  obtain ⟨-, -, -, -, -, -, -, hjaw⟩ := hs.1 a
  by_cases hj : Order.jawRelease ∈ (s.station a).orders
  · rw [(hjaw hj).2]
    decide
  · have hall : (s.station a).orders.length = (s.station a).gateOrders.length := by
      rw [Station.gateOrders, List.length_filterMap_eq_countP, eq_comm, List.countP_eq_length]
      intro o ho
      cases o with
      | gate o t => rfl
      | jawRelease => exact absurd ho hj
    by_cases hnil : (s.station a).gateOrders = []
    · simp [hall, hnil]
    · have hlen : (s.station a).gateOrders.length = (waitingTags s).length := by
        rw [StationsSound.waitingTags hs hnil, List.length_map]
      have hle : (waitingTags s).length ≤ s.gateQueue.length := by
        obtain ⟨-, -, h | ⟨f, p, -, h, -⟩⟩ := hq <;> rw [h]
        exact Nat.le_succ _
      have hgate := hc.2.1
      omega

theorem Deliverables.setPending {s : State} (h : Deliverables capped s) (l : List Instr) :
    Deliverables capped { s with pending := l } :=
  ⟨⟨(lineLaw_capacity capped).samePlaces h.grounds.1 rfl, h.grounds.2⟩, h.clean,
    GateSound.kept h.gate h.stations h.stations h.places.queueRecorded h.live (.of_same rfl)
      (fun _ q _ hq => ⟨q, hq, rfl⟩) (.of_frame ⟨rfl, rfl, rfl, rfl⟩ rfl)⟩

/-- Settles O59: the laws of the gate's orders over every step. -/
theorem stepKeepsGateOrders : Obligations.StepKeepsGateOrders := by
  intro s t hplaces hstations hlive hqueue hdeliveries hclean ht
  have hs : Deliverables (WithinCapacity s) s :=
    ⟨⟨⟨(inHand_nil_iff s).2 hplaces, id⟩, ⟨hstations, False.elim⟩, hlive⟩, hclean, hqueue, hdeliveries⟩
  have h := step_keeps (fun l h => h.setPending l) (deliverables_keptByOps _) deliverables_keptByLink hs ht
  exact ⟨h.gate.1, h.gate.2, h.clean, fun hc => ordersWithinCapacity h.stations h.gate.1 (h.grounds.1.2 hc)⟩

/-- Settles O60: right after power-on no piece is in use, no job is loaded and no station claims a role. -/
theorem resetMeetsInvariants : Obligations.ResetMeetsInvariants := by
  have hpiece : ∀ v, State.reset.piece v = none := fun v => by simp [State.piece, State.reset]
  have hjob : ∀ j, State.reset.job j = none := fun j => by simp [State.job, State.reset]
  have horder : NoGateOrder State.reset := fun a o t => by simp [State.station, State.reset, Station.powerOn]
  have hplace : ∀ pl, State.reset.occupants pl = [] := fun pl => by
    cases pl with
    | conveyor z => cases z <;> rfl
    | press i => simp [State.occupants, State.reset, Press.powerOn]
    | _ => rfl
  obtain ⟨hplaces, hresets, hcapacity, hlimits⟩ := (lineSound_nil_iff _).1 (lineSound_of_empty hpiece hplace horder rfl)
  obtain ⟨htable, hlive, hcopies, hgood⟩ := booksSound_of_empty (limited := True) hpiece hjob
  obtain ⟨hstations, hlink⟩ := linkSound_reset (quiet := True)
  obtain ⟨hfilter, hquiet⟩ := hlink trivial
  have hall : Deliverables True State.reset := deliverables_of_empty
    ⟨⟨(inHand_nil_iff _).2 hplaces, fun _ => hcapacity⟩, ⟨hstations, False.elim⟩, hlive⟩ hpiece rfl rfl horder
  exact ⟨hplaces, hresets, hcapacity, hlimits, htable, hlive, hcopies, hgood trivial, hquiet, hstations, hfilter,
    hall.gate.1, hall.gate.2, hall.clean, ordersWithinCapacity hstations hall.gate.1 hcapacity⟩

end Sys2Proof.Machine
end

section
/-! SUPPORT. The machine and its power-up: a step, an idle millisecond, the power-on values and the memory check
(R111, R112, R183, R184), the reading of a response (R178, R180) and the lamps (R156, R191, R192). -/

namespace Sys2Proof.Machine

open Sys2Proof.Safety

/-! ### A step -/

/-- Settles O1: the queue's front is carried out on the rest. -/
theorem stepRunsFrontCommand : Obligations.StepRunsFrontCommand := fun _ _ _ => rfl

theorem hasRunOut_iff (start runsOut now : Word32) :
    hasRunOut start runsOut now = true ↔ (runsOut - start).toNat ≤ (now - start).toNat := decide_eq_true_iff

theorem State.hitRunOut_iff (s : State) : s.hitRunOut = true ↔ s.press.jaw = .closing ∧
    ∃ d, s.press.hitTimer = some d ∧ (d - s.press.assertionTime).toNat ≤ (s.timeBase - s.press.assertionTime).toNat := by
  unfold State.hitRunOut
  cases s.press.hitTimer <;> simp only [Bool.and_eq_true, beq_iff_eq, hasRunOut_iff, Bool.false_eq_true, reduceCtorEq, Option.some.injEq, false_and, and_false, exists_false, exists_eq_left']

theorem State.bridgeRunOut_iff (s : State) : s.bridgeRunOut = true ↔ s.press.jaw = .opening ∧
    ∃ d, s.press.bridgeTimer = some d ∧ (d - s.press.releaseTime).toNat ≤ (s.timeBase - s.press.releaseTime).toNat := by
  unfold State.bridgeRunOut
  cases s.press.bridgeTimer <;> simp only [Bool.and_eq_true, beq_iff_eq, hasRunOut_iff, Bool.false_eq_true, reduceCtorEq, Option.some.injEq, false_and, and_false, exists_false, exists_eq_left']

theorem State.overdwellRunOut_iff (s : State) : s.overdwellRunOut = true ↔ s.press.overdwellDeferred = false ∧
    ∃ d, s.press.overdwellTimer = some d ∧ (d - s.press.closeTime).toNat ≤ (s.timeBase - s.press.closeTime).toNat := by
  unfold State.overdwellRunOut
  cases s.press.overdwellTimer <;> simp only [Bool.and_eq_true, Bool.not_eq_true', hasRunOut_iff, Bool.false_eq_true, reduceCtorEq, Option.some.injEq, false_and, and_false, exists_false, exists_eq_left']

theorem State.stretchRunOut_iff (s : State) (l : LampId) : s.stretchRunOut l = true ↔
    ∃ e start, s.lamps[l].stretchEnd = some e ∧ start = e - BitVec.ofNat 32 s.lamps[l].stretch ∧
      (e - start).toNat ≤ (s.timeBase - start).toNat := by
  unfold State.stretchRunOut
  cases s.lamps[l].stretchEnd <;> simp [hasRunOut_iff]

/-- Log 1: an expiry waits after an idle millisecond just where its timer has run out. -/
theorem State.mem_expiries (s : State) (c : Instr) : c ∈ s.pressExpiries ++ s.lampExpiries ↔
    (c = .hitTimerExpiry s.timeBase ∧ s.hitRunOut = true) ∨ (c = .bridgeTimerExpiry s.timeBase ∧ s.bridgeRunOut = true) ∨
      (c = .overdwellTimerExpiry s.timeBase ∧ s.overdwellRunOut = true) ∨
      ∃ l, c = .lampStretchExpiry l s.timeBase ∧ s.stretchRunOut l = true := by
  have hif : ∀ (b : Bool) (i : Instr), c ∈ (if b then [i] else []) ↔ c = i ∧ b = true := fun b i => by
    cases b <;> simp
  simp only [State.pressExpiries, State.lampExpiries, List.mem_append, hif, List.mem_map, List.mem_filter,
    List.mem_finRange, true_and, or_assoc]
  simp only [and_comm, eq_comm (a := c)]

/-- Settles O2: the idle step queues just the expiries that are due. -/
theorem idleStepPassesMillisecond : Obligations.IdleStepPassesMillisecond := by
  intro s hs
  refine ⟨_, by simp only [step, hs]; rfl, fun c => ?_⟩
  rw [State.mem_expiries, State.hitRunOut_iff, State.bridgeRunOut_iff, State.overdwellRunOut_iff]
  simp only [State.stretchRunOut_iff]

/-! ### Power-up -/

/-- Settles O5: POWER_ON, the end of the check, and the silent link. -/
theorem powerUp : Obligations.PowerUp := by
  refine ⟨fun now s => ⟨rfl, rfl⟩, fun s hs => ⟨?_, ?_⟩, fun s hs => ⟨?_, ?_⟩, fun s b now hs => ⟨?_, ?_, ?_, ?_⟩⟩
  · simp only [exec, execMemoryCheckPass, State.checkPasses, if_pos hs]
  · simp only [exec, execMemoryCheckFail, State.checkFails, if_pos hs]
    rfl
  · simp only [exec, execMemoryCheckPass, State.checkPasses, if_neg hs]
  · simp only [exec, execMemoryCheckFail, State.checkFails, if_neg hs]
  · simp only [exec, execPoll, State.sendPoll, hs, false_and, if_false]
  · simp only [exec, execLinkByteReceived, State.linkByte_silent hs]
  · have hread : (s.atReading now).check ≠ .pass := hs
    simp only [exec, execReplyFrame, State.linkByte_silent hread]
    rfl
  · have hread : (s.atReading now).check ≠ .pass := hs
    simp only [exec, execFrameAbandoned, State.linkByte_silent hread]
    rfl

/-- Settles O4: each power-on value is read off the reset state. -/
theorem resetHoldsPowerOnValues : Obligations.ResetHoldsPowerOnValues := by
  have hpiece : ∀ t, State.reset.piece t = none := fun t => by simp [State.piece, State.reset]
  have hjob : ∀ j, State.reset.job j = none := fun j => by simp [State.job, State.reset]
  have hmode : ∀ z, State.reset.mode z = .reset := fun z => by cases z <;> rfl
  refine ⟨?_, rfl, hjob, ?_, ?_, ?_, rfl, rfl, rfl, ?_, rfl, rfl, ?_, rfl, rfl, rfl, rfl, rfl, rfl, fun z => ⟨hmode z, ?_, ?_⟩, ?_,
    rfl, rfl, rfl, rfl, ?_, rfl, rfl, rfl, rfl, rfl, rfl, ?_, rfl, rfl, rfl, ?_⟩
  · simp [State.freeCount, hpiece]
  · intro t j b n hb
    simp [hjob] at hb
  · intro b; simp [State.reset, ClassTable.powerOn]
  · intro r; simp [State.reset, ClassTable.powerOn]
  · intro c; simp [State.reset, ClassTable.powerOn, ClassRecord.powerOn]
  · intro i; simp [State.reset, Press.powerOn]
  · simp [State.holdOutput, hmode]
  · cases z <;> rfl
  · intro z; cases z <;> exact ⟨rfl, rfl, rfl⟩
  · intro a; simp [State.station, State.reset]; rfl
  · intro a; cases a <;> rfl
  · intro l
    refine ⟨?_, ?_⟩ <;> simp [State.lampOutput, State.lampLit, State.reset, Lamp.powerOn]

/-! ### The reading of a response -/

/-- Settles O14: READY, and a read. -/
theorem responseReadConsumesWholeResponse : Obligations.ResponseReadConsumesWholeResponse := by
  intro n s
  refine ⟨by simp [State.ready, Option.isSome_iff_ne_none], fun h => ?_, fun r hr => ⟨fun hle => ?_, fun hlt => ?_⟩⟩
  · simp [exec, execResponseRead, State.readResponse, h, readOut, List.replicate_succ]
  · simp [exec, execResponseRead, State.readResponse, hr, readOut, hle, List.take_of_length_le hle]
  · have h0 : n - r.length = 0 := by omega
    simp [exec, execResponseRead, State.readResponse, hr, readOut, Nat.not_le.2 hlt, h0]

end Sys2Proof.Machine
end

section
/-! SUPPORT. The supervisor port (R178 to R183): what every host command answers, and how its response is framed. -/

namespace Sys2Proof.Machine

open Sys2Proof.Safety

/-! ### Lengths of data -/

@[simp] theorem length_split16 (w : Word16) : (split16 w).length = 2 := rfl
@[simp] theorem length_split24 (w : Word24) : (split24 w).length = 3 := rfl
@[simp] theorem length_split32 (w : Word32) : (split32 w).length = 4 := rfl
@[simp] theorem length_bytes16 (n : Nat) : (bytes16 n).length = 2 := rfl
@[simp] theorem length_maskBytes (m : BitVec 9) : (maskBytes m).length = 2 := rfl

@[simp] theorem length_jobBytes (b : Option Job) : (jobBytes b).length = 34 := by
  cases b with
  | none => rfl
  | some b => cases hn : b.numbered <;> simp [jobBytes, hn]

theorem ClassTable.length_bytes (c : ClassTable) : c.bytes.length = 155 := by
  simp [ClassTable.bytes, List.length_flatMap]

theorem State.length_pieceBytes (s : State) (t : Tag) (p : Piece) : (s.pieceBytes t p).length = 26 := by
  cases hl : p.limits <;> simp [State.pieceBytes, hl]

/-! ### Bytes joined and split (R182) -/

theorem split16_append (a b : Byte) : split16 (a ++ b) = [a, b] := by
  simp only [split16, List.cons.injEq, and_true]
  refine ⟨?_, ?_⟩ <;> ext i hi <;> simp <;> grind

theorem split24_append (a b c : Byte) : split24 (a ++ b ++ c) = [a, b, c] := by
  simp only [split24, List.cons.injEq, and_true]
  refine ⟨?_, ?_, ?_⟩ <;> ext i hi <;> simp <;> grind

theorem split32_append (a b c d : Byte) : split32 (a ++ b ++ c ++ d) = [a, b, c, d] := by
  simp only [split32, List.cons.injEq, and_true]
  refine ⟨?_, ?_, ?_, ?_⟩ <;> ext i hi <;> simp <;> grind

theorem join16_split (w : Word16) : join16 (w.extractLsb' 8 8) (w.extractLsb' 0 8) = w := by
  ext i hi
  simp only [join16]
  grind

theorem join24_split (w : Word24) :
    join24 (w.extractLsb' 16 8) (w.extractLsb' 8 8) (w.extractLsb' 0 8) = w := by
  ext i hi
  simp only [join24]
  grind

theorem join32_split (w : Word32) :
    join32 (w.extractLsb' 24 8) (w.extractLsb' 16 8) (w.extractLsb' 8 8) (w.extractLsb' 0 8) = w := by
  ext i hi
  simp only [join32]
  grind

/-! ### What a host command answers -/

/-- What a host command that has passed the check does: its reply, and the state after it. -/
def hostBody : Instr → State → Reply × State
  | .identify, s => (.ok s.identity, s)
  | .readStatus, s => (.ok s.statusBytes, s)
  | .ackAttention m, s => s.ackAttention m
  | .setAttentionEnable m, s => s.setAttentionEnable m
  | .setLamp l src pol str, s => s.setLamp l src pol str
  | .loadJob p, s => s.loadJob p
  | .releaseJob k, s => s.releaseJob k
  | .holdJob k, s => s.holdJob k
  | .amendJob k o al, s => s.amendJob k o.toNat al.toNat
  | .closeJob k, s => s.closeJob k
  | .readJob j, s => (s.readJob j, s)
  | .findJob k, s => s.readFoundJob k
  | .readCopies j f n, s => (s.readCopies j f n, s)
  | .writeClass c p, s => s.writeClass c p
  | .writeBin b c, s => s.writeBin b c
  | .writeRange r e l h c, s => s.writeRange r e l h c
  | .setClassTable m f d, s => s.setClassTable m f d
  | .setFilter n k w, s => s.setFilter n k w
  | .setJawTimes h b, s => s.setJawTimes h b
  | .readPress _, s => (.ok s.pressBytes, s)
  | .setZone z l w, s => s.setZone z l w
  | .setZoneMode z m, s => s.setZoneMode z m
  | .readZone z, s => (s.readZone z, s)
  | .lineClear, s => (.ok [], s.lineClear)
  | .readPiece t a, s => (s.readPiece t a, s)
  | .listLost p, s => (s.listLost p, s)
  | .resolveLost t a, s => s.resolveLost t a
  | .reinstate t a z, s => s.reinstate t a z
  | .readStation a, s => s.readStation a
  | _, s => (.ok [], s)

/-- The state at which a host command is judged. -/
def hostReading : Instr → State → State
  | .readPress now, s => s.atReading now
  | _, s => s

theorem hostReading_eq (i : Instr) (s : State) : ∃ now, hostReading i s = { s with timeBase := now } ∧
    ((∀ u, i ≠ .readPress u) → now = s.timeBase) := by
  cases i with
  | readPress u => exact ⟨u, rfl, fun h => absurd rfl (h u)⟩
  | _ => exact ⟨s.timeBase, rfl, fun _ => rfl⟩

theorem hostReading_check (i : Instr) (s : State) : (hostReading i s).check = s.check := by
  cases i <;> rfl

/-- R183, R184: the command is taken whole: the check has passed, or has failed and the command is IDENTIFY or
READ_STATUS. -/
def TakenWhole (code : Byte) (s : State) : Prop := s.check = .pass ∨ (s.check = .fail ∧ (code = 0x01 ∨ code = 0x02))

/-- R179, R182: a host command that is taken whole is its body. -/
theorem exec_taken {i : Instr} {code : Byte} {s : State} (hi : commandCode i = some code) (hs : TakenWhole code s) :
    exec i s = .next ((hostBody i (hostReading i s)).2.respond ((parameterBytes i).length + 3)
      (hostBody i (hostReading i s)).1) := by
  have hafter : ∀ n body, s.check ≠ .running → s.commandAfterCheck n body = (body s).2.respond (n + 3) (body s).1 :=
    fun n body hr => if_neg hr
  have hrunning : s.check ≠ .running := by rcases hs with h | ⟨h, -⟩ <;> simp [h]
  have hcommand : code ≠ 0x01 → code ≠ 0x02 → ∀ n body, (hostReading i s).command n body =
      (body (hostReading i s)).2.respond (n + 3) (body (hostReading i s)).1 := fun h1 h2 n body => by
    have hpass : s.check = .pass := by
      rcases hs with h | ⟨-, h | h⟩
      · exact h
      · exact absurd h h1
      · exact absurd h h2
    exact State.command_pass ((hostReading_check i s).trans hpass) n body
  cases i <;> cases hi
  case identify => exact congrArg Host.Outcome.next (hafter 0 _ hrunning)
  case readStatus => exact congrArg Host.Outcome.next (hafter 0 _ hrunning)
  all_goals exact congrArg Host.Outcome.next (hcommand (by decide) (by decide) _ _)

/-- R183, R184: any other is answered NOT_READY. -/
theorem exec_notReady {i : Instr} {code : Byte} {s : State} (hi : commandCode i = some code) (hs : ¬TakenWhole code s) :
    exec i s = .next ((hostReading i s).respond ((parameterBytes i).length + 3) (.notReady s.check)) := by
  have hpass : s.check ≠ .pass := fun h => hs (.inl h)
  have hrunning : code = 0x01 ∨ code = 0x02 → s.check = .running := fun h => by
    cases hc : s.check with
    | running => rfl
    | pass => exact absurd hc hpass
    | fail => exact absurd (.inr ⟨hc, h⟩) hs
  have hafter : code = 0x01 ∨ code = 0x02 → ∀ n body, s.commandAfterCheck n body = s.respond (n + 3) (.notReady s.check) :=
    fun h n body => if_pos (hrunning h)
  have hcommand : ∀ n body, (hostReading i s).command n body = (hostReading i s).respond (n + 3) (.notReady s.check) :=
    fun n body => by
      rw [State.command_notReady (by rwa [hostReading_check]), hostReading_check]
  cases i <;> cases hi
  case identify => exact congrArg Host.Outcome.next (hafter (.inl rfl) 0 _)
  case readStatus => exact congrArg Host.Outcome.next (hafter (.inr rfl) 0 _)
  all_goals exact congrArg Host.Outcome.next (hcommand _ _)

/-- Settles O6: the NOT_READY response, byte for byte. -/
theorem notReadyUntilCheckPasses : Obligations.NotReadyUntilCheckPasses := by
  intro i code s hi hs
  have hnot : ¬TakenWhole code s := by
    rintro (h | ⟨h, hc⟩)
    · simp [h] at hs
    · rcases hs with hr | ⟨-, h1, h2⟩
      · simp [h] at hr
      · exact hc.elim h1 h2
  obtain ⟨now, hnow, hsame⟩ := hostReading_eq i s
  refine ⟨now, s.check.code, by cases s.check <;> rfl, ?_, hsame⟩
  rw [exec_notReady hi hnot, hnow]
  have hframe : (Reply.notReady s.check).frame = [0x0B, 1, s.check.code, -(0x0C + s.check.code)] := by
    cases s.check <;> rfl
  rw [State.respond, hframe]

/-! ### The form of a reply -/

/-- R181, R182: the reply is OK with data of the length given, where one is, or a refusal without data. -/
def Reply.Fits (n : Option Nat) (r : Reply) : Prop :=
  (r.status = .ok → ∀ k, n = some k → r.data.length = k) ∧ (r.status ≠ .ok → r.status ≠ .notReady ∧ r.data = [])

@[simp] theorem Reply.fits_ok (n : Option Nat) (data : List Byte) :
    (Reply.ok data).Fits n ↔ ∀ k, n = some k → data.length = k := by
  simp [Reply.Fits, Reply.ok]

@[simp] theorem Reply.fits_refuse (n : Option Nat) (st : Status) :
    (Reply.refuse st).Fits n ↔ (st = .ok → ∀ k, n = some k → 0 = k) ∧ (st ≠ .ok → st ≠ .notReady) := by
  simp [Reply.Fits, Reply.refuse]

theorem State.withJob_fits {n : Option Nat} (s : State) (key : Word32) {body : JobSlot → Job → Reply × State}
    (hbody : ∀ j b, (body j b).1.Fits n) : (s.withJob key body).1.Fits n := by
  unfold State.withJob
  (repeat' split) <;> first | exact hbody _ _ | simp

/-- R181, R182: every host command's reply has the form that the table gives. -/
theorem hostBody_fits {i : Instr} {code : Byte} (hi : commandCode i = some code) (s : State) :
    (hostBody i s).1.Fits (okDataLength code) := by
  cases i <;> cases hi
  case identify =>
    change Reply.Fits (some 4) (.ok s.identity)
    simp [State.identity]
  case readStatus =>
    change Reply.Fits (some 13) (.ok s.statusBytes)
    simp [State.statusBytes, allZones]
  case ackAttention =>
    change Reply.Fits (some 0) (s.ackAttention _).1
    unfold State.ackAttention
    split <;> simp
  case setAttentionEnable =>
    change Reply.Fits (some 0) (s.setAttentionEnable _).1
    unfold State.setAttentionEnable
    split <;> simp
  case setLamp =>
    change Reply.Fits (some 0) (s.setLamp _ _ _ _).1
    unfold State.setLamp
    split <;> simp
  case loadJob =>
    change Reply.Fits (some 1) (s.loadJob _).1
    unfold State.loadJob
    (repeat' split) <;> simp
  case releaseJob => exact s.withJob_fits (n := some 0) _ fun j b => by (repeat' split) <;> simp
  case holdJob => exact s.withJob_fits (n := some 0) _ fun j b => by split <;> simp
  case amendJob => exact s.withJob_fits (n := some 0) _ fun j b => by split <;> simp
  case closeJob => exact s.withJob_fits (n := some 0) _ fun j b => by split <;> simp
  case readJob =>
    change Reply.Fits (some 34) (s.readJob _)
    unfold State.readJob
    split <;> simp
  case findJob => exact s.withJob_fits (n := some 35) _ fun j b => by simp
  case readCopies =>
    change Reply.Fits none (s.readCopies _ _ _)
    unfold State.readCopies
    (repeat' split) <;> simp
  case writeClass =>
    change Reply.Fits (some 0) (s.writeClass _ _).1
    unfold State.writeClass
    split <;> simp
  case writeBin =>
    change Reply.Fits (some 0) (s.writeBin _ _).1
    unfold State.writeBin
    split <;> simp
  case writeRange =>
    change Reply.Fits (some 0) (s.writeRange _ _ _ _ _).1
    unfold State.writeRange
    (repeat' split) <;> simp
  case setClassTable =>
    change Reply.Fits (some 155) (s.setClassTable _ _ _).1
    unfold State.setClassTable
    split <;> simp [ClassTable.length_bytes]
  case setFilter =>
    change Reply.Fits (some 0) (s.setFilter _ _ _).1
    unfold State.setFilter
    split <;> simp
  case setJawTimes =>
    change Reply.Fits (some 0) (s.setJawTimes _ _).1
    unfold State.setJawTimes
    split <;> simp
  case readPress =>
    change Reply.Fits (some 16) (.ok s.pressBytes)
    simp [State.pressBytes]
  case setZone =>
    change Reply.Fits (some 0) (s.setZone _ _ _).1
    unfold State.setZone
    (repeat' split) <;> simp
  case setZoneMode =>
    change Reply.Fits (some 0) (s.setZoneMode _ _).1
    unfold State.setZoneMode
    split <;> simp
  case readZone =>
    change Reply.Fits none (s.readZone _)
    unfold State.readZone
    split <;> simp
  case lineClear =>
    change Reply.Fits (some 0) (.ok [])
    simp
  case readPiece =>
    change Reply.Fits (some 26) (s.readPiece _ _)
    unfold State.readPiece
    (repeat' split) <;> simp [State.length_pieceBytes]
  case listLost =>
    change Reply.Fits none (s.listLost _)
    unfold State.listLost
    split <;> simp
  case resolveLost =>
    change Reply.Fits (some 0) (s.resolveLost _ _).1
    unfold State.resolveLost
    (repeat' split) <;> simp
  case reinstate =>
    change Reply.Fits (some 0) (s.reinstate _ _ _).1
    unfold State.reinstate
    (repeat' split) <;> simp
  case readStation =>
    change Reply.Fits none (s.readStation _).1
    unfold State.readStation
    split <;> simp

/-- R180 to R182: every host command answers, with NOT_READY or a reply of its form. -/
theorem exec_responds {i : Instr} {code : Byte} (hi : commandCode i = some code) (s : State) :
    ∃ (u : State) (r : Reply), exec i s = .next (u.respond ((parameterBytes i).length + 3) r) ∧
      (r = .notReady s.check ∨ r.Fits (okDataLength code)) := by
  by_cases hs : TakenWhole code s
  · exact ⟨_, _, exec_taken hi hs, .inr (hostBody_fits hi _)⟩
  · exact ⟨_, _, exec_notReady hi hs, .inl rfl⟩

theorem foldl_add_eq (bs : List Byte) (a : Byte) : bs.foldl (· + ·) a = a + bs.foldl (· + ·) 0 := by
  induction bs generalizing a with
  | nil => simp
  | cons b bs ih =>
    simp only [List.foldl_cons]
    rw [ih (a + b), ih (0 + b)]
    simp [BitVec.add_assoc]

/-- R179, R181: the check byte makes the sum 0. -/
theorem byteSum_checkByte (body : List Byte) : byteSum (body ++ [checkByte body]) = 0 := by
  simp only [byteSum, checkByte, List.foldl_append, List.foldl_cons, List.foldl_nil]
  exact BitVec.add_right_neg _

/-- Settles O7: the frame of a reply, and that every host command leaves one. -/
theorem hostCommandLeavesResponse : Obligations.HostCommandLeavesResponse := by
  refine ⟨fun status => by cases status <;> simp [Status.code], fun s written data => ?_, fun s written status => ?_,
    fun _ => rfl, fun _ => ⟨rfl, rfl⟩,
    fun a b c d => ⟨split16_append a b, split24_append a b c, split32_append a b c d⟩, fun i code s hi => ?_⟩
  · simp only [State.respond, Reply.frame, Reply.ok, Status.code, checkByte, byteSum, byteOf, List.foldl_cons]
    rw [foldl_add_eq]
    simp
  · simp [State.respond, Reply.frame, Reply.refuse, checkByte, byteSum, byteOf]
  · obtain ⟨u, r, he, hr⟩ := exec_responds hi s
    refine ⟨_, r, checkByte (r.status.code :: byteOf r.data.length :: r.data), he, rfl, rfl,
      byteSum_checkByte _, fun hok hready => ?_, rfl⟩
    rcases hr with rfl | hr
    · exact absurd rfl hready
    · exact (hr.2 hok).2

theorem Status.code_eq_zero {st : Status} (h : st.code = 0x00) : st = .ok := by
  revert h
  cases st <;> decide

/-- Settles O8: the data of an OK response has the table's length. -/
theorem okResponsesHaveTableLength : Obligations.OkResponsesHaveTableLength := by
  intro i code n s t rest hi hn ht hresp
  obtain ⟨u, r, he, hr⟩ := exec_responds hi s
  obtain rfl : u.respond ((parameterBytes i).length + 3) r = t := by
    rw [he] at ht
    exact Host.Outcome.next.inj ht
  obtain ⟨hcode, hrest⟩ := List.cons.inj (Option.some.inj hresp)
  have hok := Status.code_eq_zero hcode
  have hlen : r.data.length = n := by
    rcases hr with rfl | hr
    · cases hok
    · exact hr.1 hok n hn
  rw [← hrest, ← hlen]
  simp

end Sys2Proof.Machine
end

section
/-! SUPPORT. The supervisor port (R179 to R192): the operands that name a value, IDENTIFY and READ_STATUS, the lamps,
and how a written frame is judged. -/

namespace Sys2Proof.Machine

open Sys2Proof.Safety

/-! ### Operands -/

theorem indexOf_eq_some {n : Nat} {b : Byte} {i : Fin n} : indexOf n b = some i ↔ b.toNat = i.val := by
  unfold indexOf
  split <;> simp [Fin.ext_iff]
  next h => have := i.isLt; omega

theorem indexOf_eq_none {n : Nat} {b : Byte} : indexOf n b = none ↔ n ≤ b.toNat := by
  unfold indexOf
  split <;> simp <;> omega

theorem toNat_byteOf {n : Nat} (h : n < 256) : (byteOf n).toNat = n := by
  simp [byteOf, Nat.mod_eq_of_lt h]

theorem indexOf_byteOf {n : Nat} (hn : n ≤ 256) (i : Fin n) : indexOf n (byteOf i.val) = some i :=
  indexOf_eq_some.2 (toNat_byteOf (by omega))

/-- R191: the codes of the lamp sources. -/
theorem lampSourceOf_eq (b : Byte) : lampSourceOf b =
    [.off, .on, .allRun, .anyHalt, .attention, .lostPresent, .cold, .deliverPulse, .divertPulse][b.toNat]? := by
  unfold lampSourceOf
  split <;> simp_all
  omega

theorem polarityOf_eq (b : Byte) : polarityOf b =
    if b.toNat ≤ 1 then some (if b = 0 then .activeHigh else .activeLow) else none := by
  unfold polarityOf
  split
  · next h => simp [BitVec.eq_of_toNat_eq (show b.toNat = (0 : Byte).toNat from h)]
  · next h => simp [BitVec.eq_of_toNat_eq (show b.toNat = (1 : Byte).toNat from h)]
  · next h0 h1 =>
    simp only [imp_false] at h0 h1
    have hgt : ¬b.toNat ≤ 1 := by omega
    exact (if_neg hgt).symm

theorem stretchOf_eq (b : Byte) : stretchOf b =
    if b.toNat ≤ 3 then some ([50, 100, 200, 500].getD b.toNat 0) else none := by
  unfold stretchOf
  split
  case h_5 h0 h1 h2 h3 =>
    simp only [imp_false] at h0 h1 h2 h3
    have hgt : ¬b.toNat ≤ 3 := by omega
    exact (if_neg hgt).symm
  all_goals next h => rw [h]; rfl

/-! ### Host commands that pass the check -/

theorem next_command {s u : State} {n : Nat} {r : Reply} {body : State → Reply × State} (hs : s.check = .pass)
    (hbody : body s = (r, u)) :
    (Host.Outcome.next (s.command n body) : Host.Outcome State Fault Refusal) = .next (u.respond (n + 3) r) := by
  rw [State.command_pass hs, hbody]

theorem next_commandAfterCheck {s u : State} {n : Nat} {r : Reply} {body : State → Reply × State}
    (hs : s.check ≠ .running) (hbody : body s = (r, u)) :
    (Host.Outcome.next (s.commandAfterCheck n body) : Host.Outcome State Fault Refusal) = .next (u.respond (n + 3) r) := by
  rw [State.commandAfterCheck, if_neg hs, hbody]

/-! ### IDENTIFY and READ_STATUS -/

theorem ZoneMode.code_unique {mode : ZoneMode → Byte} (hrun : mode .run = 0) (hhalt : mode .halt = 1)
    (hreset : mode .reset = 2) (m : ZoneMode) : m.code = mode m := by
  cases m <;> simp [ZoneMode.code, *]

/-- Settles O9. -/
theorem identifyAndReadStatusAnswer : Obligations.IdentifyAndReadStatusAnswer := by
  refine ⟨⟨byteOf (Config.revisionIndex.val + 1), ?_, ?_, fun s hs => ?_⟩, fun s mode hs hrun hhalt hreset => ?_⟩
  · rw [BitVec.le_def, toNat_byteOf (by omega)]
    exact Nat.le_add_left _ _
  · rw [BitVec.le_def, toNat_byteOf (by omega)]
    exact Config.revisionIndex.isLt
  · refine next_commandAfterCheck hs ?_
    cases hc : s.check <;> simp_all [State.identity, CheckResult.code]
  · refine next_commandAfterCheck hs ?_
    simp only [State.statusBytes, allZones, List.map_cons, List.map_nil, State.mode,
      ZoneMode.code_unique hrun hhalt hreset]
    rfl

/-! ### Lamps -/

theorem State.lampLit_iff (s : State) (l : LampId) : s.lampLit l = true ↔
    match s.lamps[l].source with
    | .off => False
    | .on => True
    | .allRun => ∀ z, s.mode z = .run
    | .anyHalt => ∃ z, s.mode z = .halt
    | .attention => s.attentionLine = true
    | .lostPresent => s.lost ≠ []
    | .cold => s.flagSet .coldPress = true
    | .deliverPulse => s.lamps[l].stretchEnd ≠ none
    | .divertPulse => s.lamps[l].stretchEnd ≠ none := by
  have hall : ∀ z : Zone, z ∈ allZones := fun z => by cases z <;> simp [allZones]
  unfold State.lampLit
  cases s.lamps[l].source <;> simp [hall, Option.isSome_iff_ne_none]

theorem State.lampOutput_iff (s : State) (l : LampId) :
    s.lampOutput l = true ↔ (s.lamps[l].polarity = .activeHigh ↔ s.lampLit l = true) := by
  unfold State.lampOutput
  split <;> simp_all

/-- Settles O11. -/
theorem lampsShowTheirSource : Obligations.LampsShowTheirSource := by
  refine ⟨fun l src source polarity stretch s hs hsrc hpol hstr => ?_, fun lamp source polarity stretch s hs hbad => ?_,
    fun s l => ⟨s.lampLit_iff l, s.lampOutput_iff l⟩, fun s source l => ?_, fun s l start now hend hstretch => ?_⟩
  · refine next_command hs ?_
    simp only [State.setLamp, indexOf_byteOf (by decide : 4 ≤ 256), lampSourceOf_eq, hsrc, polarityOf_eq, if_pos hpol,
      stretchOf_eq, if_pos hstr]
  · refine next_command hs ?_
    unfold State.setLamp
    split
    · next hl hsrc hpol hstr =>
      rw [indexOf_eq_some] at hl
      rw [lampSourceOf_eq, List.getElem?_eq_some_iff] at hsrc
      obtain ⟨hlt, -⟩ := hsrc
      rw [polarityOf_eq] at hpol
      rw [stretchOf_eq] at hstr
      simp at hlt hpol hstr
      omega
    · rfl
  · simp [State.pulse, later]
  · have hrun : (s.atReading now).stretchRunOut l = true ↔ s.lamps[l].stretch ≤ (now - start).toNat := by
      rw [State.stretchRunOut_iff]
      have hmod : (BitVec.ofNat 32 s.lamps[l].stretch).toNat = s.lamps[l].stretch := by
        simp only [BitVec.toNat_ofNat]
        omega
      have hstart : start + BitVec.ofNat 32 s.lamps[l].stretch - BitVec.ofNat 32 s.lamps[l].stretch = start :=
        BitVec.add_sub_cancel _ _
      have hlength : start + BitVec.ofNat 32 s.lamps[l].stretch - start = BitVec.ofNat 32 s.lamps[l].stretch :=
        by rw [BitVec.add_comm, BitVec.add_sub_cancel]
      simp only [State.atReading, hend, Option.some.injEq, exists_and_left, exists_eq_left', hstart, exists_eq_left, hlength, hmod]
    refine congrArg Host.Outcome.next ?_
    unfold State.endStretch
    by_cases h : s.lamps[l].stretch ≤ (now - start).toNat
    · rw [if_pos (hrun.2 h), if_pos h]
      rfl
    · rw [if_neg (fun hr => h (hrun.1 hr)), if_neg h]
      rfl

/-! ### Written frames -/

theorem parameterCount_commandCode {i : Instr} {code : Byte} (hi : commandCode i = some code) :
    parameterCount code = some (parameterBytes i).length := by
  cases i <;> cases hi <;> rfl

/-- A code that the table holds is a host command's. -/
theorem exists_commandCode : ∀ code : Byte, (parameterCount code).isSome →
    ∃ i, commandCode i = some code := by
  have hparse : ∀ code : Byte, (parameterCount code).all fun k =>
      (parseCommand 0 code (List.replicate k 0)).any fun i => commandCode i == some code := by decide
  intro code hc
  obtain ⟨k, hk⟩ := Option.isSome_iff_exists.1 hc
  have := hparse code
  simp only [hk, Option.all_some, Option.any_eq_true, beq_iff_eq] at this
  obtain ⟨i, -, hi⟩ := this
  exact ⟨i, hi⟩

theorem parameterCount_eq_none {code : Byte} : parameterCount code = none ↔ ∀ i, commandCode i ≠ some code := by
  refine ⟨fun h i hi => ?_, fun h => ?_⟩
  · rw [parameterCount_commandCode hi] at h
    cases h
  · rw [← Option.not_isSome_iff_eq_none]
    exact fun hc => let ⟨i, hi⟩ := exists_commandCode code hc; h i hi

theorem parameterCount_le {code : Byte} {k : Nat} (hk : parameterCount code = some k) : k ≤ 60 := by
  have h : ∀ code : Byte, (parameterCount code).all (· ≤ 60) := by decide
  simpa [hk] using h code

/-- R182: the parameter bytes of a command spell it. -/
theorem parseCommand_parameterBytes {i : Instr} {code : Byte} {now : Word32} (hi : commandCode i = some code)
    (hnow : ∀ u, i = .readPress u → u = now) : parseCommand now code (parameterBytes i) = some i := by
  cases i <;> cases hi
  case readPress u => rw [hnow u rfl]; rfl
  case ackAttention m => exact congrArg (fun x => some (Instr.ackAttention x)) (join16_split m)
  case setAttentionEnable m => exact congrArg (fun x => some (Instr.setAttentionEnable x)) (join16_split m)
  case loadJob p => 
    change some (Instr.loadJob { key := join32 _ _ _ _, nominal := join16 _ _, tolerance := join16 _ _, caseCode := join24 _ _ _, jacketCode := join24 _ _ _, firstCopy := join16 _ _, lastCopy := join16 _ _, classOverride := _, ordered := join16 _ _, .. }) = _
    simp only [join16_split, join24_split, join32_split]
  case releaseJob k => exact congrArg (fun x => some (Instr.releaseJob x)) (join32_split k)
  case holdJob k => exact congrArg (fun x => some (Instr.holdJob x)) (join32_split k)
  case closeJob k => exact congrArg (fun x => some (Instr.closeJob x)) (join32_split k)
  case findJob k => exact congrArg (fun x => some (Instr.findJob x)) (join32_split k)
  case amendJob k o al => 
    exact congrArg₂ (fun x y => some (Instr.amendJob x y al)) (join32_split k) (join16_split o)
  case readCopies j f n => exact congrArg (fun x => some (Instr.readCopies j x n)) (join16_split f)
  case writeClass c p => 
    change some (Instr.writeClass c { base := join16 _ _, rate := join16 _ _, nominalTemp := join16 _ _, coldLimit := join16 _ _, gain := _, factor := join16 _ _ }) = _
    simp only [join16_split]
  case writeRange r e l h c => exact congrArg₂ (fun x y => some (Instr.writeRange r e x y c)) (join16_split l) (join16_split h)
  case setJawTimes h b => exact congrArg₂ (fun x y => some (Instr.setJawTimes x y)) (join16_split h) (join16_split b)
  case setZone z l w => exact congrArg₂ (fun x y => some (Instr.setZone z x y)) (join16_split l) (join16_split w)
  case readPiece t a => exact congrArg (fun x => some (Instr.readPiece t x)) (join16_split a)
  case resolveLost t a => exact congrArg (fun x => some (Instr.resolveLost t x)) (join16_split a)
  case reinstate t a z => exact congrArg (fun x => some (Instr.reinstate t x z)) (join16_split a)
  all_goals rfl

theorem commandFrame_eq {i : Instr} {code : Byte} (hi : commandCode i = some code) : commandFrame i =
    some (code :: byteOf (parameterBytes i).length :: parameterBytes i ++
      [checkByte (code :: byteOf (parameterBytes i).length :: parameterBytes i)]) := by
  rw [commandFrame, hi]
  rfl

theorem commandCode_of_frame {i : Instr} {w : List Byte} (hw : commandFrame i = some w) :
    ∃ code, commandCode i = some code := by
  cases hi : commandCode i with
  | none => simp [commandFrame, hi] at hw
  | some code => exact ⟨code, rfl⟩

/-- R179: a frame with a whole body, its sum right and its length its code's. -/
theorem judgeFrame_commandFrame {i : Instr} {w : List Byte} {now : Word32} (hw : commandFrame i = some w)
    (hnow : ∀ u, i = .readPress u → u = now) : judgeFrame now w = .command i := by
  obtain ⟨code, hi⟩ := commandCode_of_frame hw
  have hcount := parameterCount_commandCode hi
  have hle := parameterCount_le hcount
  have hlen : (byteOf (parameterBytes i).length).toNat = (parameterBytes i).length := toNat_byteOf (by omega)
  have hsum := byteSum_checkByte (code :: byteOf (parameterBytes i).length :: parameterBytes i)
  rw [commandFrame_eq hi, Option.some.injEq] at hw
  subst hw
  simp only [List.cons_append] at hsum
  simp [judgeFrame, hsum, hlen, hcount, hle, parseCommand_parameterBytes hi hnow]

/-- Settles O12. -/
theorem hostFrameRoundTrip : Obligations.HostFrameRoundTrip := by
  refine ⟨fun i => by cases i <;> rfl, fun i hi => by simp [commandFrame, hi], fun i code hi =>
    ⟨parameterCount_commandCode hi, _, rfl, ?_⟩, fun i w now => judgeFrame_commandFrame⟩
  rw [commandFrame_eq hi]
  simp only [checkByte, byteSum, List.foldl_cons, byteOf]
  rw [foldl_add_eq]
  simp

theorem transact_read (rest : List Byte) (s : State) :
    s.transact (0x80 :: rest) = .next (s.readResponse rest.length) := by
  rw [State.transact, if_pos rfl]

theorem transact_written {code : Byte} (hcode : code ≠ 0x80) (rest : List Byte) (s : State) :
    exec (.unknownCommand (code :: rest)) s =
      match judgeFrame s.timeBase (code :: rest) with
      | .badFrame => .next (s.respond (rest.length + 1) (.refuse .badFrame))
      | .unknownCommand => .next (s.respond (rest.length + 1) (.refuse .unknownCommand))
      | .command i => runHostCommand i s := if_neg hcode

/-- Settles O13. -/
theorem writtenFramesAreJudged : Obligations.WrittenFramesAreJudged := by
  refine ⟨fun s => rfl, fun rest s => transact_read rest s, fun code n rest s hcode => ⟨fun hbad => ?_, fun hn hlen hsum hc => ?_,
    fun k hn hlen hsum hc hk => ?_, ?_, parameterCount_eq_none⟩, fun i w s hw hnow => ?_⟩
  · have hjudge : judgeFrame s.timeBase (code :: n :: rest) = .badFrame := if_pos (by
      rcases hbad with rfl | h | h | h
      · exact .inl rfl
      · exact .inr (.inl h)
      · exact .inr (.inr (.inl (by simp only [List.length_cons]; omega)))
      · exact .inr (.inr (.inr h)))
    rw [transact_written hcode, hjudge]
    rfl
  · have hjudge : judgeFrame s.timeBase (code :: n :: rest) = .unknownCommand := by
      simp [judgeFrame, hsum, hlen, hc, hn]
    rw [transact_written hcode, hjudge]
    rfl
  · have hjudge : judgeFrame s.timeBase (code :: n :: rest) = .badFrame := by
      simp [judgeFrame, hsum, hlen, hc, hk]
    rw [transact_written hcode, hjudge]
    rfl
  · rw [transact_written hcode]
    rfl
  · have hjudge := judgeFrame_commandFrame hw hnow
    obtain ⟨code, hi⟩ := commandCode_of_frame hw
    have hcode : code ≠ 0x80 := by
      rintro rfl
      cases parameterCount_commandCode hi
    rw [commandFrame_eq hi, Option.some.injEq, List.cons_append] at hw
    subst hw
    rw [transact_written hcode, hjudge]
    exact (runHostCommand_eq_exec i s).trans (if_pos (by simp [hi]))

end Sys2Proof.Machine
end

section
/-! SUPPORT. The job table (chapter 2) and the reading of copy tables (R78): what each job command answers, and how it
leaves the table. -/

namespace Sys2Proof.Machine

open Sys2Proof.Safety

/-! ### Operands of LOAD_JOB (R26) -/

theorem within_iff {lo hi n : Nat} : within lo hi n = true ↔ lo ≤ n ∧ n ≤ hi := by
  simp [within]

theorem mismatchPolicyOf_eq (b : Byte) : mismatchPolicyOf b =
    if b.toNat ≤ 1 then some (if b = 1 then .holdStation else .divertPiece) else none := by
  unfold mismatchPolicyOf
  split
  · next h => simp [BitVec.eq_of_toNat_eq (show b.toNat = (0 : Byte).toNat from h)]
  · next h => simp [BitVec.eq_of_toNat_eq (show b.toNat = (1 : Byte).toNat from h)]
  · next h0 h1 =>
    simp only [imp_false] at h0 h1
    have hgt : ¬b.toNat ≤ 1 := by omega
    exact (if_neg hgt).symm

theorem overdwellPolicyOf_eq (b : Byte) : overdwellPolicyOf b =
    if b.toNat ≤ 1 then some (if b = 1 then .passMarked else .divert) else none := by
  unfold overdwellPolicyOf
  split
  · next h => simp [BitVec.eq_of_toNat_eq (show b.toNat = (0 : Byte).toNat from h)]
  · next h => simp [BitVec.eq_of_toNat_eq (show b.toNat = (1 : Byte).toNat from h)]
  · next h0 h1 =>
    simp only [imp_false] at h0 h1
    have hgt : ¬b.toNat ≤ 1 := by omega
    exact (if_neg hgt).symm

theorem optionalClassOf_eq_some {b : Byte} {c : Option Sys2Proof.Class} : optionalClassOf b = some c ↔
    if b = 0xFF then c = none else ∃ k : Sys2Proof.Class, c = some k ∧ b.toNat = k.val := by
  unfold optionalClassOf classOf
  split
  · simp [eq_comm]
  · simp only [Option.map_eq_some_iff, indexOf_eq_some]
    exact ⟨fun ⟨k, hk, hc⟩ => ⟨k, hc.symm, hk⟩, fun ⟨k, hc, hk⟩ => ⟨k, hk, hc.symm⟩⟩

theorem optionalClassOf_eq_none {b : Byte} : optionalClassOf b = none ↔ b ≠ 0xFF ∧ 7 < b.toNat := by
  unfold optionalClassOf classOf
  split
  · next h => simp [h]
  · next h => simp only [Option.map_eq_none_iff, indexOf_eq_none, ne_eq, h, not_false_iff, true_and, Nat.succ_le_iff]

theorem copyRangeOf_eq (first last : Word16) : copyRangeOf first last =
    if (first = 0 ∧ last = 0) ∨ (first ≠ 0 ∧ first.toNat ≤ last.toNat ∧ last.toNat - first.toNat + 1 ≤ 2048) then
      some (if first = 0 then none else some (first.toNat, last.toNat))
    else none := by
  have hlast : first ≠ 0 → first.toNat ≤ last.toNat → last ≠ 0 := fun h hle he => by
    subst he
    exact h (BitVec.eq_of_toNat_eq (Nat.le_zero.1 hle))
  unfold copyRangeOf
  by_cases hf : first = 0
  · by_cases hl : last = 0
    · rw [if_pos ⟨hf, hl⟩, if_pos (.inl ⟨hf, hl⟩), if_pos hf]
    · rw [if_neg (hl ·.2), if_neg (·.1 hf), if_neg fun h => h.elim (hl ·.2) (·.1 hf)]
  · rw [if_neg (hf ·.1), if_neg hf]
    refine if_congr ⟨fun ⟨_, _, hrange⟩ => .inr ⟨hf, hrange⟩, fun h => ?_⟩ rfl rfl
    rcases h with h | ⟨-, hle, hwidth⟩
    · exact absurd h.1 hf
    · exact ⟨hf, hlast hf hle, hle, hwidth⟩

theorem jobParamsInRange_iff (p : JobParams) : JobParamsInRange p = true ↔ p.key ≠ 0 ∧
    (40 ≤ p.nominal.toNat ∧ p.nominal.toNat ≤ 1600) ∧ p.tolerance.toNat ≤ 200 ∧ p.caseCode ≠ 0 ∧
    (1 ≤ p.ordered.toNat ∧ p.ordered.toNat ≤ 60000) ∧ 1 ≤ p.mismatchLimit.toNat ∧ p.mismatchLimit.toNat ≤ 15 := by
  simp only [JobParamsInRange, Bool.and_eq_true, bne_iff_ne, within_iff, Nat.zero_le, true_and]
  tauto

/-- R26, check 1: legal parameters describe a LOADED job. -/
theorem jobOfParams_legal {p : JobParams} (h : LegalJob p) : ∃ b, Loads p b ∧ b.numbered = none ∧
    jobOfParams p = some (b, if p.firstCopy = 0 then none else some (p.firstCopy.toNat, p.lastCopy.toNat)) := by
  obtain ⟨hkey, hnominal, htolerance, hcase, hcopies, hclass, hordered, hcp, hjp, hlimit, hop⟩ := h
  have hrange := (jobParamsInRange_iff p).2 ⟨hkey, hnominal, htolerance, hcase, hordered, hlimit⟩
  obtain ⟨c, hc⟩ : ∃ c, optionalClassOf p.classOverride = some c := by
    refine Option.ne_none_iff_exists'.1 fun he => ?_
    obtain ⟨hne, hlt⟩ := optionalClassOf_eq_none.1 he
    rcases hclass with h | h
    · exact hne h
    · omega
  have hcopyRange := (copyRangeOf_eq p.firstCopy p.lastCopy).trans (if_pos hcopies)
  have hcasePolicy := (mismatchPolicyOf_eq p.casePolicy).trans (if_pos hcp)
  have hjacketPolicy := (mismatchPolicyOf_eq p.jacketPolicy).trans (if_pos hjp)
  have hoverdwell := (overdwellPolicyOf_eq p.overdwellPolicy).trans (if_pos hop)
  simp only [jobOfParams, hrange, hcopyRange, hc, hcasePolicy, hjacketPolicy, hoverdwell, if_true]
  refine ⟨_, ⟨rfl, rfl, rfl, rfl, rfl, rfl, ?_, rfl, rfl, rfl, rfl, rfl, rfl, rfl, rfl, rfl, rfl⟩, rfl, rfl⟩
  have hmap := optionalClassOf_eq_some.1 hc
  split at hmap
  · next he => simp [hmap, he]
  · next he =>
    obtain ⟨k, rfl, hk⟩ := hmap
    exact (if_neg he).symm ▸ congrArg some hk.symm

/-- R26, check 1: any others describe none. -/
theorem jobOfParams_illegal {p : JobParams} (h : ¬LegalJob p) : jobOfParams p = none := by
  by_contra hne
  obtain ⟨x, hx⟩ := Option.ne_none_iff_exists'.1 hne
  refine h ?_
  unfold jobOfParams at hx
  split at hx
  · next hrange =>
    split at hx
    · next range c cp jp op hcopies hc hcp hjp hop =>
      obtain ⟨hkey, hnominal, htolerance, hcase, hordered, hlimit⟩ := (jobParamsInRange_iff p).1 hrange
      rw [copyRangeOf_eq, Option.ite_none_right_eq_some] at hcopies
      rw [mismatchPolicyOf_eq, Option.ite_none_right_eq_some] at hcp hjp
      rw [overdwellPolicyOf_eq, Option.ite_none_right_eq_some] at hop
      refine ⟨hkey, hnominal, htolerance, hcase, hcopies.1, ?_, hordered, hcp.1, hjp.1, hlimit, hop.1⟩
      have hmap := optionalClassOf_eq_some.1 hc
      split at hmap
      · next he => exact .inl he
      · obtain ⟨k, -, hk⟩ := hmap
        omega
    · cases hx
  · cases hx

/-! ### Free slots and tables (R24, R27) -/

/-- The lowest index that passes a test is found. -/
theorem find_finRange {n : Nat} {p : Fin n → Bool} {i : Fin n} (hi : p i = true) (hlow : ∀ k < i, p k = false) :
    (List.finRange n).find? p = some i := by
  refine List.find?_eq_some_iff_getElem.2 ⟨hi, i.val, by simp, by simp, fun j hj => ?_⟩
  simp only [List.getElem_finRange, Bool.not_eq_true']
  exact hlow _ hj

theorem State.lowestEmpty_eq {s : State} {j : JobSlot} (hj : s.job j = none) (hlow : ∀ k < j, s.job k ≠ none) :
    s.lowestEmpty = some j :=
  find_finRange (by simp [hj]) fun k hk => by
    simpa [Option.isSome_iff_ne_none] using hlow k hk

theorem State.lowestEmpty_none {s : State} (h : ∀ j, s.job j ≠ none) : s.lowestEmpty = none := by
  simpa [State.lowestEmpty, Option.isSome_iff_ne_none] using h

theorem State.tableInUse_iff {s : State} {t : CopyTableId} : s.tableInUse t = false ↔ TableFree s t := by
  simp only [State.tableInUse, List.any_eq_false, List.mem_finRange, true_imp_iff, TableFree]
  refine forall_congr' fun j => ?_
  cases s.job j with
  | none => simp
  | some b =>
    refine ⟨fun h c n hc hn => ?_, fun h => ?_⟩
    · obtain rfl := Option.some.inj hc
      simpa [hn] using h
    · cases hn : b.numbered with
      | none => simp [hn]
      | some n => simpa [hn] using h b n rfl hn

theorem State.freeTable_eq {s : State} {t : CopyTableId} (ht : TableFree s t) (hlow : ∀ u < t, ¬TableFree s u) :
    s.freeTable = some t :=
  find_finRange (by simpa using State.tableInUse_iff.2 ht) fun u hu => by
    have := hlow u hu
    rw [← State.tableInUse_iff] at this
    simpa using this

theorem State.freeTable_none {s : State} (h : ∀ t, ¬TableFree s t) : s.freeTable = none := by
  simp only [← State.tableInUse_iff] at h
  simpa [State.freeTable] using h

theorem State.findJob_eq_none {s : State} {key : Word32} (h : ∀ j b, s.job j = some b → b.key ≠ key) :
    s.findJob key = none := by
  refine Option.eq_none_iff_forall_ne_some.2 fun ⟨j, b⟩ hf => ?_
  obtain ⟨hb, hk⟩ := State.findJob_some hf
  exact h j b hb hk

/-! ### LOAD_JOB -/

theorem State.loadJob_illegal {p : JobParams} (s : State) (h : ¬LegalJob p) : s.loadJob p = (.refuse .badValue, s) := by
  rw [State.loadJob, jobOfParams_illegal h]

/-- Settles O15. -/
theorem loadJobTakesLowestEmptySlot : Obligations.LoadJobTakesLowestEmptySlot := by
  intro p s j hs hp hkeys hj hlow
  obtain ⟨b, hloads, hn, hjob⟩ := jobOfParams_legal hp
  have hfind := State.findJob_eq_none hkeys
  have hempty := State.lowestEmpty_eq hj hlow
  refine ⟨fun hfirst => ⟨b, hloads, hn, next_command hs ?_⟩, fun hfirst t ht htlow => ?_⟩
  · rw [if_pos hfirst] at hjob
    simp only [State.loadJob, hjob, hfind, hempty, Option.isSome_none, Bool.false_eq_true, if_false]
    rfl
  · refine ⟨{ b with numbered := some { first := p.firstCopy.toNat, last := p.lastCopy.toNat, table := t } }, hloads, rfl,
      next_command hs ?_⟩
    rw [if_neg hfirst] at hjob
    simp only [State.loadJob, hjob, hfind, hempty, State.freeTable_eq ht htlow, Option.isSome_none, Bool.false_eq_true,
      if_false]
    rfl

/-- Settles O16. -/
theorem loadJobRefusedInOrder : Obligations.LoadJobRefusedInOrder := by
  refine fun p s hs => ⟨fun hp => next_command hs (s.loadJob_illegal hp), fun hp ⟨j, c, hc, hk⟩ => next_command hs ?_,
    fun hp hkeys hfull => next_command hs ?_, fun hp hkeys hempty hfirst htables => next_command hs ?_⟩
  · obtain ⟨b, -, -, hjob⟩ := jobOfParams_legal hp
    have hfound : (s.findJob p.key).isSome = true := by
      rw [Option.isSome_iff_ne_none]
      exact fun hnone => State.findJob_none hnone j c hc hk
    simp only [State.loadJob, hjob, hfound, if_true]
  · obtain ⟨b, -, -, hjob⟩ := jobOfParams_legal hp
    simp only [State.loadJob, hjob, State.findJob_eq_none hkeys, State.lowestEmpty_none hfull, Option.isSome_none,
      Bool.false_eq_true, if_false]
  · obtain ⟨b, -, -, hjob⟩ := jobOfParams_legal hp
    obtain ⟨j, hj⟩ : ∃ j, s.lowestEmpty = some j := by
      obtain ⟨j, hj⟩ := hempty
      refine Option.ne_none_iff_exists'.1 fun hnone => ?_
      have := List.find?_eq_none.1 hnone j (List.mem_finRange j)
      simp [hj] at this
    rw [if_neg hfirst] at hjob
    simp only [State.loadJob, hjob, State.findJob_eq_none hkeys, hj, State.freeTable_none htables, Option.isSome_none,
      Bool.false_eq_true, if_false]

/-! ### Commands by key (R28 to R32) -/

theorem State.withJob_found {s : State} {key : Word32} {j : JobSlot} {b : Job} (body : JobSlot → Job → Reply × State)
    (hk : key ≠ 0) (hf : s.findJob key = some (j, b)) (hc : b.state ≠ .closing) : s.withJob key body = body j b := by
  simp only [State.withJob, if_neg hk, hf, if_neg hc]

/-- Settles O17. -/
theorem jobStateCommandsMoveJob : Obligations.JobStateCommandsMoveJob := by
  intro key s j b hs hk hf hc
  refine ⟨fun hst hlt => next_command hs ?_, fun hst hle => next_command hs ?_, fun hst => next_command hs ?_,
    fun hst => next_command hs ?_, fun hst => next_command hs ?_, fun hl => next_command hs ?_,
    fun hl => next_command hs ?_⟩
  · rw [State.releaseJob, State.withJob_found _ hk hf hc, if_pos hst, if_neg (by omega)]
    rfl
  · rw [State.releaseJob, State.withJob_found _ hk hf hc, if_pos hst, if_pos hle]
    rfl
  · rw [State.releaseJob, State.withJob_found _ hk hf hc, if_neg (by rcases hst with h | h <;> simp [h])]
  · rw [State.holdJob, State.withJob_found _ hk hf hc, if_pos hst]
    rfl
  · rw [State.holdJob, State.withJob_found _ hk hf hc, if_neg hst]
  · rw [State.closeJob, State.withJob_found _ hk hf hc, if_pos hl]
    unfold State.emptyJob
    split <;> simp_all [State.setJob]
  · rw [State.closeJob, State.withJob_found _ hk hf hc, if_neg hl]
    rfl

/-- Settles O18. -/
theorem amendJobReplacesFigures : Obligations.AmendJobReplacesFigures := by
  intro key ordered allowance s j b hs hk hf hc
  have hallowance := allowance.isLt
  have hlegal : (within 1 60000 ordered.toNat && within 0 255 allowance.toNat &&
      (b.good + b.live ≤ ordered.toNat + allowance.toNat : Bool)) = true ↔
      (1 ≤ ordered.toNat ∧ ordered.toNat ≤ 60000) ∧ b.good + b.live ≤ ordered.toNat + allowance.toNat := by
    simp only [Bool.and_eq_true, within_iff, decide_eq_true_eq]
    omega
  refine ⟨fun hbad => next_command hs ?_, fun hlow hhigh hsum => next_command hs ?_⟩
  · rw [State.amendJob, State.withJob_found _ hk hf hc, if_neg]
    rw [hlegal]
    omega
  · rw [State.amendJob, State.withJob_found _ hk hf hc, if_pos (hlegal.2 ⟨⟨hlow, hhigh⟩, hsum⟩)]
    unfold State.placeAmended
    by_cases hdone : b.state = .running ∧ ordered.toNat ≤ b.good
    · simp only [if_pos hdone]
      rfl
    · simp only [if_neg hdone]
      by_cases hmore : b.state = .complete ∧ b.good < ordered.toNat
      · simp only [if_pos hmore]
        rfl
      · simp only [if_neg hmore]
        rfl

/-- R32: the five commands by key make the lookup first. -/
theorem exec_byKey {key : Word32} {ordered : Word16} {allowance : Byte} {i : Instr}
    (hi : i ∈ [Instr.releaseJob key, .holdJob key, .amendJob key ordered allowance, .closeJob key, .findJob key]) :
    ∃ body : State → JobSlot → Job → Reply × State, ∀ s,
      exec i s = .next (s.command (parameterBytes i).length fun s => s.withJob key (body s)) := by
  simp only [List.mem_cons, List.not_mem_nil, or_false] at hi
  rcases hi with rfl | rfl | rfl | rfl | rfl <;> exact ⟨_, fun s => rfl⟩

/-- Settles O19. -/
theorem jobKeyLookupRefusals : Obligations.JobKeyLookupRefusals := by
  refine ⟨fun key s j b hf => State.findJob_some hf, fun s j b hb => ?_, fun key ordered allowance i s hs hi => ?_⟩
  · cases hf : s.findJob b.key with
    | none => exact absurd rfl (State.findJob_none hf j b hb)
    | some x => exact ⟨x.1, x.2, rfl⟩
  · obtain ⟨body, hexec⟩ := exec_byKey hi
    rw [hexec]
    refine ⟨fun hk => next_command hs ?_, fun hk hkeys => next_command hs ?_, fun j b hk hf hc => next_command hs ?_⟩
    · simp only [State.withJob, if_pos hk]
    · simp only [State.withJob, if_neg hk, State.findJob_eq_none hkeys]
    · simp only [State.withJob, if_neg hk, hf, if_pos hc]

/-! ### Reading jobs and copies (R32, R78) -/

theorem MismatchPolicy.code_eq (m : MismatchPolicy) : m.code = if m = .holdStation then 1 else 0 := by
  cases m <;> rfl

theorem OverdwellPolicy.code_eq (m : OverdwellPolicy) : m.code = if m = .passMarked then 1 else 0 := by
  cases m <;> rfl

theorem optionalClassByte_eq (c : Option Sys2Proof.Class) : optionalClassByte c = c.elim 0xFF fun k => byteOf k.val := by
  cases c <;> rfl

theorem slotOf_eq_none {b : Byte} : slotOf b = none ↔ 31 < b.toNat := indexOf_eq_none

theorem slotOf_byteOf (j : JobSlot) : slotOf (byteOf j.val) = some j := indexOf_byteOf (by decide) j

/-- Settles O20. -/
theorem readJobAndFindJobAnswer : Obligations.ReadJobAndFindJobAnswer := by
  refine ⟨fun s j => rfl, fun s hs => ⟨fun slot hslot => next_command hs ?_, fun j hj => next_command hs ?_,
    fun j b data hb hdata => ?_⟩⟩
  · rw [State.readJob, slotOf_eq_none.2 hslot]
  · simp only [State.readJob, slotOf_byteOf, hj, jobBytes]
  · have hbytes : jobBytes (some b) = data := by
      subst hdata
      cases hn : b.numbered
      all_goals
        simp only [jobBytes, hn, MismatchPolicy.code_eq, OverdwellPolicy.code_eq, optionalClassByte_eq, Option.elim_none,
          Option.elim_some, List.append_assoc, List.cons_append, List.nil_append, JobState.code] <;> rfl
    refine ⟨hbytes ▸ length_jobBytes _, next_command hs ?_, fun key hk hf hc => next_command hs ?_⟩
    · simp only [State.readJob, slotOf_byteOf, hb, hbytes]
    · simp only [State.readFoundJob, State.withJob_found _ hk hf hc, hbytes]

/-- Settles O21. -/
theorem readCopiesAnswersEntries : Obligations.ReadCopiesAnswersEntries := by
  refine fun slot first count s hs => ⟨fun hbad => next_command hs ?_, fun j hj hc0 hc => ?_⟩
  · have hreply : s.readCopies slot first count = .refuse .badValue := by
      unfold State.readCopies
      split
      · rfl
      · next j hslot =>
        rw [if_neg]
        rw [within_iff]
        have := indexOf_eq_some.1 hslot
        rcases hbad with h | rfl | h
        · have := j.isLt
          omega
        · simp
        · omega
    rw [hreply]
  · have hcount : 1 ≤ count.toNat := Nat.pos_of_ne_zero fun h => hc0 (BitVec.eq_of_toNat_eq h)
    have hread : s.readCopies slot first count =
        match (s.job j).bind Job.numbered with
        | none => .refuse .wrongState
        | some n =>
          if n.first ≤ first.toNat ∧ first.toNat + count.toNat - 1 ≤ n.last then
            .ok ((((s.copyTables[n.table]).drop (first.toNat - n.first)).take count.toNat).map CopyState.code)
          else .refuse .badValue := by
      rw [State.readCopies, hj, slotOf_byteOf]
      exact if_pos (within_iff.2 ⟨hcount, hc⟩)
    refine ⟨fun hnone => next_command hs ?_, fun b n hb hn => ?_⟩
    · rw [hread, hnone]
    · have hbind : (s.job j).bind Job.numbered = some n := by rw [hb]; exact hn
      rw [hbind] at hread
      refine ⟨fun hbad => next_command hs ?_, fun htables hlow hhigh => ⟨(((s.copyTables[n.table]).drop
        (first.toNat - n.first)).take count.toNat).map CopyState.code, next_command hs ?_, ?_, fun i hi => ?_⟩⟩
      · rw [hread]
        exact congrArg (·, s) (if_neg (by omega))
      · rw [hread]
        exact congrArg (·, s) (if_pos ⟨hlow, hhigh⟩)
      all_goals
        obtain ⟨-, htable, -⟩ := htables
        obtain ⟨-, hle, -, -, hlen⟩ := htable j b n hb hn
      · simp only [List.length_map, List.length_take, List.length_drop, hlen]
        omega
      · have hlt : first.toNat + i - n.first < (s.copyTables[n.table]).length := by omega
        obtain ⟨e, he⟩ : ∃ e, (s.copyTables[n.table])[first.toNat + i - n.first]? = some e :=
          ⟨_, List.getElem?_eq_getElem hlt⟩
        refine ⟨e, he, ?_⟩
        rw [List.getElem?_map, List.getElem?_take_of_lt hi, List.getElem?_drop,
          show first.toNat - n.first + i = first.toNat + i - n.first by omega, he]
        cases e <;> rfl

end Sys2Proof.Machine
end

section
/-! SUPPORT. The class table's commands (chapter 5), the filter and the dwell limits (chapter 6). -/

namespace Sys2Proof.Machine

open Sys2Proof.Safety

/-! ### Operands -/

theorem classOf_byteOf (c : Sys2Proof.Class) : classOf (byteOf c.val) = some c := indexOf_byteOf (by decide) c

theorem byteOf_class_ne (c : Sys2Proof.Class) : byteOf c.val ≠ 0xFF := fun h => by
  have hval := toNat_byteOf (n := c.val) (by omega)
  rw [h] at hval
  have := c.isLt
  exact absurd hval (by simp; omega)

theorem optionalClassOf_byteOf (c : Sys2Proof.Class) : optionalClassOf (byteOf c.val) = some (some c) := by
  rw [optionalClassOf, if_neg (byteOf_class_ne c), classOf_byteOf, Option.map_some]

theorem boolOf_eq_none {b : Byte} : boolOf b = none ↔ 1 < b.toNat := by
  unfold boolOf
  split <;> simp_all
  omega

theorem enableOf_eq (held : Bool) (b : Byte) :
    enableOf held b = if b.toNat ≤ 2 then some (if b = 2 then held else decide (b = 1)) else none := by
  unfold enableOf
  split
  · next h => simp [BitVec.eq_of_toNat_eq (show b.toNat = (0 : Byte).toNat from h)]
  · next h => simp [BitVec.eq_of_toNat_eq (show b.toNat = (1 : Byte).toNat from h)]
  · next h => simp [BitVec.eq_of_toNat_eq (show b.toNat = (2 : Byte).toNat from h)]
  · next h0 h1 h2 =>
    simp only [imp_false] at h0 h1 h2
    have hgt : ¬b.toNat ≤ 2 := by omega
    exact (if_neg hgt).symm

theorem keptClassOf_eq_none {held : Sys2Proof.Class} {b : Byte} : keptClassOf held b = none ↔ b ≠ 0xFF ∧ 7 < b.toNat := by
  rw [keptClassOf, Option.map_eq_none_iff, optionalClassOf_eq_none]

theorem keptClassOf_eq_some {held c : Sys2Proof.Class} {b : Byte}
    (hc : c.val = if b = 0xFF then held.val else b.toNat) : keptClassOf held b = some c := by
  rw [keptClassOf]
  by_cases h : b = 0xFF
  · rw [if_pos h] at hc
    rw [optionalClassOf, if_pos h]
    exact congrArg some (Fin.ext hc.symm)
  · rw [if_neg h] at hc
    rw [optionalClassOf, if_neg h, classOf, indexOf_eq_some.2 hc.symm]
    rfl

theorem recordOfParams_eq (p : ClassParams) : recordOfParams p =
    if (500 ≤ p.base.toNat ∧ p.base.toNat ≤ 20000) ∧ p.rate.toNat ≤ 2000 ∧
      (500 ≤ p.nominalTemp.toNat ∧ p.nominalTemp.toNat ≤ 2500) ∧ p.coldLimit.toNat ≤ 500 ∧
      (110 ≤ p.factor.toNat ∧ p.factor.toNat ≤ 400) then
      some { base := p.base.toNat, rate := p.rate.toNat, nominalTemp := p.nominalTemp.toNat,
             coldLimit := p.coldLimit.toNat, gain := p.gain.toNat, factor := p.factor.toNat }
    else none := by
  refine if_congr ?_ rfl rfl
  simp only [Bool.and_eq_true, within_iff, Nat.zero_le, true_and]
  tauto

/-! ### Class table commands (R87 to R90) -/

/-- Settles O22. -/
theorem classTableWritesReplaceEntries : Obligations.ClassTableWritesReplaceEntries := by
  refine fun s hs => ⟨fun i c => next_command hs ?_, fun i => next_command hs ?_,
    fun r enabled low high c hhigh hle => next_command hs ?_, fun c p hp => next_command hs ?_,
    fun bin cls hbad => next_command hs ?_, fun range enabled low high cls hbad => next_command hs ?_,
    fun cls p hbad => next_command hs ?_, fun master fixed defaultClass hbad => next_command hs ?_⟩
  · simp only [State.writeBin, indexOf_byteOf (by decide : 16 ≤ 256), optionalClassOf_byteOf]
  · simp only [State.writeBin, indexOf_byteOf (by decide : 16 ≤ 256)]
    rfl
  · have hbool : boolOf (if enabled then 1 else 0) = some enabled := by cases enabled <;> rfl
    simp only [State.writeRange, indexOf_byteOf (by decide : 8 ≤ 256), hbool, classOf_byteOf, if_pos (And.intro hhigh hle)]
  · simp only [State.writeClass, classOf_byteOf, (recordOfParams_eq p).trans (if_pos hp)]
  · unfold State.writeBin
    split
    · next hbin hcls =>
      have hlt := indexOf_eq_some.1 hbin
      rcases hbad with h | h
      · omega
      · cases hcls.symm.trans (optionalClassOf_eq_none.2 h.symm)
    · rfl
  · unfold State.writeRange
    split
    · next hrange henabled hcls =>
      have hr := indexOf_eq_some.1 hrange
      have hc := indexOf_eq_some.1 hcls
      rcases hbad with h | h | h | h
      · omega
      · cases henabled.symm.trans (boolOf_eq_none.2 h)
      · omega
      · exact if_neg (by omega)
    · rfl
  · unfold State.writeClass
    split
    · next hcls hp =>
      have hc := indexOf_eq_some.1 hcls
      rcases hbad with h | h
      · omega
      · cases hp.symm.trans ((recordOfParams_eq p).trans (if_neg h))
    · rfl
  · unfold State.setClassTable
    split
    · next hmaster hfixed hclass =>
      rw [enableOf_eq, Option.ite_none_right_eq_some] at hmaster hfixed
      rcases hbad with h | h | h
      · exact absurd hmaster.1 (by omega)
      · exact absurd hfixed.1 (by omega)
      · cases hclass.symm.trans (keptClassOf_eq_none.2 h.symm)
    · rfl

theorem boolByte_eq (b : Bool) : boolByte b = if b then 1 else 0 := rfl

/-- Settles O23. -/
theorem setClassTableAnswersTable : Obligations.SetClassTableAnswersTable := by
  intro master fixed defaultClass s c data hs hm hf hd hbins hranges hrecords hmaster hfixed hdefault hdata
  have hbytes : c.bytes = data := by
    rw [hdata]
    simp only [ClassTable.bytes, boolByte_eq, funext optionalClassByte_eq]
  refine ⟨hbytes ▸ c.length_bytes, next_command hs ?_⟩
  have hc : c = { s.classTable with master := c.master, fixed := c.fixed, defaultClass := c.defaultClass } := by
    simp only [← hbins, ← hranges, ← hrecords]
  have hset : s.setClassTable master fixed defaultClass =
      (.ok ({ s.classTable with master := c.master, fixed := c.fixed, defaultClass := c.defaultClass } : ClassTable).bytes,
        { s with classTable := { s.classTable with master := c.master, fixed := c.fixed, defaultClass := c.defaultClass } }) := by
    simp only [State.setClassTable, (enableOf_eq _ _).trans (if_pos hm), (enableOf_eq _ _).trans (if_pos hf),
      keptClassOf_eq_some hdefault, hmaster, hfixed]
  rw [hset, ← hc, hbytes]

/-! ### The filter (R93 to R98) -/

theorem clampSample_eq (x : Int) : clampSample x = if x < -500 then -500 else if 3000 < x then 3000 else x := by
  unfold clampSample
  split
  · omega
  · split <;> omega

theorem Filter.take_first {f : Filter} (h : f.sampleCount = 0) (x : Int) :
    f.take x = { f with tf := x, sampleCount := min 1 f.warmup } := by
  simp [Filter.take, h]

/-- R97: each later sample moves Tf by the rounded fraction of its distance. -/
theorem Filter.take_later {f : Filter} (h : f.sampleCount ≠ 0) (x : Int) : f.take x = { f with
    tf := f.tf + Int.fdiv (x - f.tf + 2 ^ (f.shift - 1)) (2 ^ f.shift)
    sampleCount := min (f.sampleCount + 1) f.warmup } := by
  simp only [Filter.take, if_neg h, smoothed, Int.fdiv_eq_ediv_of_nonneg _ (Int.pow_nonneg (by decide : (0 : Int) ≤ 2))]

/-- Settles O26. -/
theorem filterTakesEveryNthSample : Obligations.FilterTakesEveryNthSample := by
  refine ⟨fun sample s => ⟨rfl, clampSample_eq _⟩, fun f x => ⟨fun h => if_pos h, fun h hlt => ?_, fun h hle => ?_,
    fun h => Filter.take_first h x, fun h => Filter.take_later h x⟩⟩
  · rw [Filter.receive, if_neg h, if_pos hlt]
  · rw [Filter.receive, if_neg h, if_neg (by omega)]

/-! ### Dwell at press entry (R103 to R107) -/

theorem rawDwell_eq (r : ClassRecord) (thickness : Nat) :
    rawDwell r thickness = r.base + ⌊((r.rate * thickness + 10 : ℕ) : ℚ) / 20⌋₊ :=
  congrArg (r.base + ·) (Nat.floor_div_eq_div (K := ℚ) _ 20).symm

theorem rawDwell_mem_Icc {r : ClassRecord} {thickness : Nat} (hlow : 500 ≤ r.base) (hhigh : r.base ≤ 20000)
    (hrate : r.rate ≤ 2000) (ht : thickness ≤ 1600) : 500 ≤ rawDwell r thickness ∧ rawDwell r thickness ≤ 180000 := by
  have := Nat.mul_le_mul hrate ht
  unfold rawDwell
  omega

/-- R106: rounding up by adding 1023 is the exact ceiling. -/
theorem ceil_div_1024 (n : Nat) : ⌈(n : ℚ) / 1024⌉₊ = (n + 1023) / 1024 := by
  refine eq_of_forall_ge_iff fun c => ?_
  rw [Nat.ceil_le, div_le_iff₀ (by norm_num)]
  norm_cast
  omega

theorem minDwell_eq (draw gain delta : Nat) :
    minDwell draw gain delta = min 60000 (max 100 ⌈((draw * (1024 + gain * delta) : ℕ) : ℚ) / 1024⌉₊) := by
  rw [ceil_div_1024]
  rfl

theorem maxDwell_eq (dmin factor : Nat) :
    maxDwell dmin factor = min 65000 (max (dmin + 200) ⌊((dmin * factor : ℕ) : ℚ) / 100⌋₊) :=
  congrArg (fun n => min 65000 (max (dmin + 200) n)) (Nat.floor_div_eq_div (K := ℚ) _ 100).symm

/-- Settles O28. -/
theorem dwellIsComputedExactly : Obligations.DwellIsComputedExactly := by
  refine ⟨rawDwell_eq, fun r => by simp [rawDwell], fun r thickness => rawDwell_mem_Icc, minDwell_eq, ?_, maxDwell_eq, ?_⟩
  · intro draw gain deficit hlow hhigh hgain hdeficit
    have hproduct : gain * deficit ≤ 255 * 500 := Nat.mul_le_mul hgain hdeficit
    have hupper : draw * (1024 + gain * deficit) ≤ 180000 * 128524 := Nat.mul_le_mul hhigh (by omega)
    have hlower : 500 * 1024 ≤ draw * (1024 + gain * deficit) := Nat.mul_le_mul hlow (by omega)
    refine ⟨by omega, by omega, by omega, ?_⟩
    unfold minDwell
    omega
  · intro draw gain deficit factor dmin
    have hmin : 100 ≤ dmin ∧ dmin ≤ 60000 := by
      simp only [dmin, minDwell]
      omega
    refine ⟨hmin.1, hmin.2, ?_⟩
    unfold maxDwell
    omega

/-- R94: the four filter states. -/
theorem Filter.state_off {f : Filter} (h : f.interval = 0) : f.state = .off := if_pos h

theorem Filter.state_unloaded {f : Filter} (h : f.interval ≠ 0) (hn : f.sampleCount = 0) : f.state = .unloaded := by
  rw [Filter.state, if_neg h, if_pos hn]

theorem Filter.state_warming {f : Filter} (h : f.interval ≠ 0) (hn : f.sampleCount ≠ 0) (hlt : f.sampleCount < f.warmup) :
    f.state = .warming := by
  rw [Filter.state, if_neg h, if_neg hn, if_pos hlt]

theorem Filter.state_settled {f : Filter} (h : f.interval ≠ 0) (hn : f.sampleCount ≠ 0) (hle : f.warmup ≤ f.sampleCount) :
    f.state = .settled := by
  rw [Filter.state, if_neg h, if_neg hn, if_neg (by omega)]

/-- Settles O29. -/
theorem pressEntryFixesDwell : Obligations.PressEntryFixesDwell := by
  refine ⟨fun f r => ⟨fun h => ?_, fun h hlt => ?_, fun h hn hle => ?_⟩, fun s t p hp => ⟨fun hl => ?_, fun hl => ?_⟩⟩
  · simp [deficit, coldPressed, Filter.state_off h]
  · by_cases hn : f.sampleCount = 0
    · simp [deficit, coldPressed, Filter.state_unloaded h hn]
    · simp [deficit, coldPressed, Filter.state_warming h hn hlt]
  · simp only [deficit, coldPressed, Filter.state_settled h hn hle, beq_self_eq_true, Bool.true_and, decide_eq_true_eq,
      and_true]
    split
    · omega
    · split <;> omega
  · obtain ⟨limits, hlimits⟩ := Option.ne_none_iff_exists'.1 hl
    simp only [State.computeDwell, hp, hlimits]
  · simp only [State.computeDwell, hp, hl]
    rfl

end Sys2Proof.Machine
end

section
/-! SUPPORT. The jaws and the press timers (R112 to R120): the filter state and READ_PRESS, jaw edges, timer expiries,
qualified closes and opens, and the overdwell expiry. -/

namespace Sys2Proof.Machine

open Sys2Proof.Safety

/-! ### SET_JAW_TIMES and READ_PRESS (R102, R114) -/

/-- R118: the time left on the overdwell timer, as each state of the timer gives it. -/
theorem State.overdwellLeft_eq {s : State} {now : Word32} {left : Nat} (hstopped : s.press.overdwellTimer = none → left = 0)
    (hdeferred : s.press.overdwellDeferred = true → left = 0)
    (hrunning : ∀ d, s.press.overdwellTimer = some d → s.press.overdwellDeferred = false →
      left = (d - s.press.closeTime).toNat - (now - s.press.closeTime).toNat) :
    (s.atReading now).overdwellLeft = left := by
  simp only [State.overdwellLeft, State.atReading_press, State.atReading_timeBase, elapsed]
  cases ht : s.press.overdwellTimer with
  | none => exact (hstopped ht).symm
  | some d =>
    by_cases hd : s.press.overdwellDeferred = true
    · exact (if_pos hd).trans (hdeferred hd).symm
    · exact (if_neg hd).trans (hrunning d ht (Bool.eq_false_of_not_eq_true hd)).symm

/-- Settles O30. -/
theorem jawTimesAndReadPress : Obligations.JawTimesAndReadPress := by
  refine ⟨fun f => ⟨fun h => Filter.state_off h, fun h hn => Filter.state_unloaded h hn,
    fun h hn hlt => Filter.state_warming h (by omega) hlt, fun h hw hn => Filter.state_settled h (by omega) (by omega)⟩,
    fun hit bridge s hs => ⟨fun hbad => next_command hs ?_, fun hhit hbridge => next_command hs ?_⟩,
    fun now s left hs hstopped hdeferred hrunning => ?_⟩
  · exact if_neg (by omega)
  · exact if_pos ⟨hhit, hbridge⟩
  · have hbool : boolByte s.press.overdwellTimer.isSome = if s.press.overdwellTimer = none then 0 else 1 := by
      cases s.press.overdwellTimer <;> simp [boolByte]
    refine next_command (s := s.atReading now) hs (congrArg (fun data => (Reply.ok data, s.atReading now)) ?_)
    simp only [State.pressBytes, State.overdwellLeft_eq hstopped hdeferred hrunning, State.atReading_filter,
      State.atReading_press, hbool]
    rfl

/-! ### Pieces under the jaws (R115 to R120) -/

/-- 7.1: the heated pieces stand in positions 1 to 8. -/
theorem State.mem_heated {s : State} {t : Tag} :
    t ∈ s.heated ↔ ∃ i : Fin 12, 1 ≤ i.val ∧ i.val ≤ 8 ∧ s.press.positions[i] = some t := by
  rw [State.heated, List.mem_filterMap]
  simp only [id, exists_eq_right]
  rw [List.mem_iff_getElem]
  simp only [List.getElem_take, List.getElem_drop, List.length_take, List.length_drop, Vector.length_toList,
    Vector.getElem_toList]
  constructor
  · rintro ⟨n, hn, e⟩
    exact ⟨⟨1 + n, by omega⟩, by simp, by simp only; omega, e⟩
  · rintro ⟨i, h1, h8, e⟩
    refine ⟨i.val - 1, by omega, ?_⟩
    simp only [show 1 + (i.val - 1) = i.val by omega]
    exact e

theorem State.updatePieces_exists (s : State) (ts : List Tag) (f : Piece → Piece) :
    ∃ pool, s.updatePieces ts f = { s with pool := pool } := ⟨_, rfl⟩

theorem State.piece_qualifyOpen (s : State) (o : Word32) (t : Tag) : (s.qualifyOpen o).piece t =
    if t ∈ s.heated then (s.piece t).map (·.accumulate (elapsed s.press.closeTime o)) else s.piece t := by
  have hpool : (s.qualifyOpen o).pool = (s.updatePieces s.heated (·.accumulate (elapsed s.press.closeTime o))).pool := by
    rw [State.qualifyOpen, State.stopOverdwell_pool]
  rw [State.piece_congr hpool, State.piece_updatePieces]

/-- Settles O34. -/
theorem qualifiedOpenAccumulatesContact : Obligations.QualifiedOpenAccumulatesContact := by
  refine fun s o => ⟨?_, fun t => ⟨fun hin => ?_, fun hout => ?_⟩⟩
  · obtain ⟨pool, hpool⟩ := s.updatePieces_exists s.heated (·.accumulate (elapsed s.press.closeTime o))
    simp only [State.qualifyOpen, hpool]
    rfl
  · rw [State.piece_qualifyOpen, if_pos (State.mem_heated.2 hin)]
    rfl
  · rw [State.piece_qualifyOpen, if_neg]
    rw [State.mem_heated]
    rintro ⟨i, h1, h8, e⟩
    exact hout i h1 h8 e

/-- R120: only the table of stations changes: the holder of PRESS gains a JAW_RELEASE that it can take and has none of. -/
theorem State.offerJawRelease_eq (s : State) : s.offerJawRelease = { s with
    stations := (s.holder .press).elim s.stations fun a =>
      if (s.station a).abilities &&& 0x08 ≠ 0 ∧ Order.jawRelease ∉ (s.station a).orders then
        s.stations.set a { s.station a with orders := (s.station a).orders ++ [.jawRelease] }
      else s.stations } := by
  unfold State.offerJawRelease
  cases s.holder .press with
  | none => rfl
  | some a =>
    have hiff : (hasAbility (s.station a).abilities .jawRelease && !(s.station a).orders.contains Order.jawRelease) = true ↔
        (s.station a).abilities &&& 0x08 ≠ 0 ∧ Order.jawRelease ∉ (s.station a).orders := by
      simp [hasAbility, Ability.bit]
    simp only [Option.elim_some]
    by_cases h : (s.station a).abilities &&& 0x08 ≠ 0 ∧ Order.jawRelease ∉ (s.station a).orders
    · rw [if_pos (hiff.2 h), if_pos h]
      rfl
    · rw [if_neg (mt hiff.1 h), if_neg h]

theorem State.takeOverdwell_eq (s : State) : s.takeOverdwell = { s with
    pool := s.takeOverdwell.pool
    flags := s.flags ||| 0x008
    press := { s.press with overdwellTimer := none, overdwellDeferred := false }
    stations := (s.holder .press).elim s.stations fun a =>
      if (s.station a).abilities &&& 0x08 ≠ 0 ∧ Order.jawRelease ∉ (s.station a).orders then
        s.stations.set a { s.station a with orders := (s.station a).orders ++ [.jawRelease] }
      else s.stations } := by
  obtain ⟨pool, hpool⟩ := s.updatePieces_exists s.heated (·.markOverdue (elapsed s.press.closeTime s.timeBase))
  simp only [State.takeOverdwell, hpool, State.offerJawRelease_eq]
  rfl

theorem State.piece_takeOverdwell (s : State) (t : Tag) : s.takeOverdwell.piece t =
    if t ∈ s.heated then (s.piece t).map (·.markOverdue (elapsed s.press.closeTime s.timeBase)) else s.piece t := by
  have hpool : s.takeOverdwell.pool =
      (s.updatePieces s.heated (·.markOverdue (elapsed s.press.closeTime s.timeBase))).pool := by
    simp only [State.takeOverdwell, State.offerJawRelease_pool, State.stopOverdwell_pool, State.raise_pool]
  rw [State.piece_congr hpool, State.piece_updatePieces]

theorem Piece.markOverdue_limits {p : Piece} {l : DwellLimits} (hl : p.limits = some l) (elapsed : Nat) :
    p.markOverdue elapsed = if l.dmax - p.accumulated ≤ elapsed then p.addFault .overdwell else p := by
  simp only [Piece.markOverdue, Piece.overdue, hl, decide_eq_true_eq]

theorem Piece.markOverdue_unlimited {p : Piece} (hl : p.limits = none) (elapsed : Nat) : p.markOverdue elapsed = p := by
  simp [Piece.markOverdue, Piece.overdue, hl]

/-- Settles O35. -/
theorem overdwellExpiryMarksAndReleases : Obligations.OverdwellExpiryMarksAndReleases := by
  intro s
  have hstations : s.takeOverdwell.stations = _ := congrArg State.stations s.takeOverdwell_eq
  refine ⟨_, rfl, ?_, fun u p l hp hl => ?_, fun u hu => ?_, fun hnone => ?_, fun a ha => ?_⟩
  · rw [hstations]
    exact s.takeOverdwell_eq
  · rw [State.piece_takeOverdwell, hp]
    by_cases hin : u ∈ s.heated
    · rw [if_pos hin, Option.map_some, Piece.markOverdue_limits hl]
      exact congrArg some (if_congr (and_iff_right (State.mem_heated.1 hin)).symm rfl rfl)
    · rw [if_neg hin, if_neg fun h => hin (State.mem_heated.2 h.1)]
  · rw [State.piece_takeOverdwell]
    cases hp : s.piece u with
    | none => simp
    | some p => simp [Piece.markOverdue_unlimited (hu p hp)]
  · rw [hstations, hnone]
    rfl
  · rw [hstations, ha]
    rfl

/-! ### The close and the overdwell timer (R112, R117) -/

/-- R117: the headrooms of the pieces with limits in positions 1 to 8. -/
theorem State.mem_headrooms {s : State} {h : Nat} : h ∈ s.headrooms ↔
    ∃ (i : Fin 12) (t : Tag) (p : Piece) (l : DwellLimits), 1 ≤ i.val ∧ i.val ≤ 8 ∧
      s.press.positions[i] = some t ∧ s.piece t = some p ∧ p.limits = some l ∧ h = l.dmax - p.accumulated := by
  simp only [State.headrooms, List.mem_filterMap, State.mem_heated, Option.bind_eq_some_iff, Piece.headroom,
    Option.map_eq_some_iff]
  constructor
  · rintro ⟨t, ⟨i, h1, h8, hi⟩, p, hp, l, hl, rfl⟩
    exact ⟨i, t, p, l, h1, h8, hi, hp, hl, rfl⟩
  · rintro ⟨i, t, p, l, h1, h8, hi, hp, hl, rfl⟩
    exact ⟨t, ⟨i, h1, h8, hi⟩, p, hp, l, hl, rfl⟩

theorem State.headrooms_eq_nil {s : State} : s.headrooms = [] ↔
    ∀ (i : Fin 12) (t : Tag) (p : Piece), 1 ≤ i.val → i.val ≤ 8 →
      s.press.positions[i] = some t → s.piece t = some p → p.limits = none := by
  rw [List.eq_nil_iff_forall_not_mem]
  constructor
  · intro h i t p h1 h8 hi hp
    by_contra hne
    obtain ⟨l, hl⟩ := Option.ne_none_iff_exists'.1 hne
    exact h _ (State.mem_headrooms.2 ⟨i, t, p, l, h1, h8, hi, hp, hl, rfl⟩)
  · intro h n hn
    obtain ⟨i, t, p, l, h1, h8, hi, hp, hl, -⟩ := State.mem_headrooms.1 hn
    rw [h i t p h1 h8 hi hp] at hl
    cases hl

/-- R117, log 16: a closure that arms no timer is armed and no more. -/
theorem State.qualifyClose_unarmed {s : State} {c : Word32} (h : (s.armClosure c).press.overdwellTimer = none) :
    s.qualifyClose c = s.armClosure c :=
  if_neg (by rw [State.overdwellRunOut_iff, h]; simp)

/-- R117, log 16: a closure whose timer runs out by then takes its expiry. -/
theorem State.qualifyClose_armed {s : State} {c reading : Word32}
    (h : (s.armClosure c).press.overdwellTimer = some reading) : s.qualifyClose c =
      if (reading - c).toNat ≤ (s.timeBase - c).toNat then (s.armClosure c).takeOverdwell else s.armClosure c := by
  have hiff : (s.armClosure c).overdwellRunOut = true ↔ (reading - c).toNat ≤ (s.timeBase - c).toNat := by
    rw [State.overdwellRunOut_iff, h]
    constructor
    · rintro ⟨-, d, hd, hle⟩
      cases hd
      exact hle
    · exact fun hle => ⟨rfl, reading, rfl, hle⟩
  exact if_congr hiff rfl rfl

/-- Settles O33. -/
theorem qualifiedCloseArmsOverdwellTimer : Obligations.QualifiedCloseArmsOverdwellTimer := by
  intro s c
  refine ⟨s.headrooms.min?.map (later c), s.armClosure c, rfl, ?_, fun reading hr => ?_,
    fun hnone => State.qualifyClose_unarmed hnone, fun reading hr => ?_⟩
  · rw [Option.map_eq_none_iff, List.min?_eq_none_iff, State.headrooms_eq_nil]
  · obtain ⟨h, hmin, rfl⟩ := Option.map_eq_some_iff.1 hr
    obtain ⟨hmem, hle⟩ := List.min?_eq_some_iff.1 hmin
    exact ⟨h, rfl, State.mem_headrooms.1 hmem, fun i t p l h1 h8 hi hp hl =>
      hle _ (State.mem_headrooms.2 ⟨i, t, p, l, h1, h8, hi, hp, hl, rfl⟩)⟩
  · rw [State.qualifyClose_armed hr]
    exact ⟨fun hlt => if_neg (by omega), fun hle => if_pos hle⟩

/-! ### Jaw edges and timer expiries (R112, R113, R118) -/

/-- Settles O31. -/
theorem jawEdgesMoveJawState : Obligations.JawEdgesMoveJawState := by
  refine fun now s => ⟨fun hj hh => ?_, fun hj hh => ?_, fun hj hd => ?_, fun hj hd => ?_, fun hj => ?_, fun hj => ?_,
    fun hj hb => ?_, fun hj hb => ⟨_, rfl, ?_⟩, fun hj => ?_⟩ <;> refine congrArg Host.Outcome.next ?_
  · simp only [State.jawAsserted, State.atReading, hj, State.beginClosing, if_neg hh]
    rfl
  · simp only [State.jawAsserted, State.atReading, hj, State.beginClosing, if_pos hh]
  · simp only [State.jawAsserted, State.atReading, hj, State.bridgeDropout, hd]
    rfl
  · simp only [State.jawAsserted, State.atReading, hj, State.bridgeDropout, hd, if_true]
  · rcases hj with hj | hj <;> simp only [State.jawAsserted, State.atReading, hj]
  · simp only [State.jawReleased, State.atReading, hj]
  · simp only [State.jawReleased, State.atReading, hj, State.beginOpening, if_neg hb]
    rfl
  · simp only [State.jawReleased, State.atReading, hj, State.beginOpening, if_pos hb]
  · rcases hj with hj | hj <;> simp only [State.jawReleased, State.atReading, hj]

/-- Settles O32. -/
theorem pressTimersRunOut : Obligations.PressTimersRunOut := by
  intro now d s
  have hhit := State.hitRunOut_iff (s.atReading now)
  have hbridge := State.bridgeRunOut_iff (s.atReading now)
  have hover := State.overdwellRunOut_iff (s.atReading now)
  simp only [State.atReading_press, State.atReading_timeBase] at hhit hbridge hover
  refine ⟨fun hj ht hle => congrArg Host.Outcome.next (if_pos (hhit.2 ⟨hj, d, ht, hle⟩)), fun h => congrArg Host.Outcome.next (if_neg fun hr => ?_),
    fun ht hlt => congrArg Host.Outcome.next (if_neg fun hr => ?_),
    fun hj ht hle => ⟨_, rfl, congrArg Host.Outcome.next (if_pos (hbridge.2 ⟨hj, d, ht, hle⟩))⟩, fun h => congrArg Host.Outcome.next (if_neg fun hr => ?_),
    fun ht hlt => congrArg Host.Outcome.next (if_neg fun hr => ?_), fun hj ht hd hle => congrArg Host.Outcome.next ?_, fun hj ht hd hle => congrArg Host.Outcome.next ?_,
    fun h => congrArg Host.Outcome.next ?_, fun ht hlt => congrArg Host.Outcome.next (if_neg fun hr => ?_)⟩
  · obtain ⟨hj, e, he, -⟩ := hhit.1 hr
    rcases h with h | h
    · cases h.symm.trans he
    · exact h hj
  · obtain ⟨hj, e, he, hle⟩ := hhit.1 hr
    cases ht.symm.trans he
    omega
  · obtain ⟨hj, e, he, -⟩ := hbridge.1 hr
    rcases h with h | h
    · cases h.symm.trans he
    · exact h hj
  · obtain ⟨hj, e, he, hle⟩ := hbridge.1 hr
    cases ht.symm.trans he
    omega
  · rw [State.overdwellExpiry, if_pos (hover.2 ⟨hd, d, ht, hle⟩), State.atReading_press, hj]
    rfl
  · rw [State.overdwellExpiry, if_pos (hover.2 ⟨hd, d, ht, hle⟩), State.atReading_press, hj]
    rfl
  · by_cases hr : (s.atReading now).overdwellRunOut = true
    · obtain ⟨hd, e, he, -⟩ := hover.1 hr
      rw [State.overdwellExpiry, if_pos hr, State.atReading_press]
      rcases h with h | h | h | h
      · cases h.symm.trans he
      · cases h.symm.trans hd
      · rw [h]
        rfl
      · rw [h]
        rfl
    · exact if_neg hr
  · obtain ⟨hd, e, he, hle⟩ := hover.1 hr
    cases ht.symm.trans he
    omega

end Sys2Proof.Machine
end

section
/-! SUPPORT. The index of the press (R122 to R126): its five stages, and what they leave as it was. -/

namespace Sys2Proof.Machine

open Sys2Proof.Safety

/-! ### Stages 1 and 2: the forced open and the discharge -/

theorem State.heated_congr {s u : State} (h : u.press.positions = s.press.positions) : u.heated = s.heated := by
  simp only [State.heated, h]

theorem State.qualifyOpen_exists (s : State) (o : Word32) : ∃ pool, s.qualifyOpen o = { s with
    pool := pool, press := { s.press with overdwellTimer := none, overdwellDeferred := false } } := by
  obtain ⟨pool, hpool⟩ := s.updatePieces_exists s.heated (·.accumulate (elapsed s.press.closeTime o))
  exact ⟨pool, by rw [State.qualifyOpen, hpool]; rfl⟩

theorem State.markSequence_exists (s : State) :
    ∃ pool, s.markSequence = { s with pool := pool, flags := s.flags ||| 0x020 } := by
  obtain ⟨pool, hpool⟩ := s.updatePieces_exists s.heated (·.addFault .pressSequence)
  exact ⟨pool, by rw [State.markSequence, hpool]; rfl⟩

theorem State.piece_markSequence (s : State) (t : Tag) : s.markSequence.piece t =
    if t ∈ s.heated then (s.piece t).map fun p => { p with faults := p.faults ||| 0x0400 } else s.piece t := by
  have hpool : s.markSequence.pool = (s.updatePieces s.heated (·.addFault .pressSequence)).pool := by
    rw [State.markSequence, State.raise_pool]
  rw [State.piece_congr hpool, State.piece_updatePieces]
  rfl

/-- R122, stage 1: an index that finds the jaws CLOSED or OPENING forces an open. -/
theorem State.indexJaws_forced {s : State} (h : s.press.jaw = .closed ∨ s.press.jaw = .opening) :
    s.indexJaws =
      let o := s.qualifyOpen (if s.press.jaw = .closed then s.timeBase else s.press.releaseTime)
      { o.markSequence with press :=
        { o.press with bridgeTimer := if s.press.jaw = .opening then none else s.press.bridgeTimer } } := by
  unfold State.indexJaws
  rcases h with h | h
  · obtain ⟨pool, hpool⟩ := s.qualifyOpen_exists s.timeBase
    obtain ⟨pool', hpool'⟩ := (s.qualifyOpen s.timeBase).markSequence_exists
    simp only [h, if_true, reduceCtorEq, if_false, hpool']
    rw [hpool]
  · obtain ⟨pool', hpool'⟩ := (s.qualifyOpen s.press.releaseTime).markSequence_exists
    simp only [h, if_true, reduceCtorEq, if_false, hpool']

theorem State.handOver_reset {s : State} {z : ConveyorZone} (t : Tag) (h : (s.conveyor z).mode = .reset) :
    s.handOver z t = s.retire .spoiled t := if_pos h

theorem State.lose_eq (s : State) (t : Tag) : s.lose t = { s with
    lost := s.lost ++ [t]
    flags := s.flags ||| 0x002
    pool := s.pool.set t ((s.piece t).map fun p =>
      { p with faults := p.faults ||| 0x2000, place := .lost, entryCount := none }) } := rfl

theorem State.joinQueue_eq (s : State) (z : ConveyorZone) (t : Tag) : s.joinQueue z t =
    { s.setConveyor z { s.conveyor z with queue := (s.conveyor z).queue ++ [t] } with
      pool := s.pool.set t ((s.piece t).map fun p =>
        { p with place := .conveyor z, entryCount := some (s.conveyor z).encoder }) } := by
  cases z <;> rfl

/-- R123: the judgement of a piece with limits. -/
theorem Piece.judged_limits {p : Piece} {l : DwellLimits} (hl : p.limits = some l) : p.judged =
    ({ p with faults :=
        if p.accumulated < l.dmin then p.faults ||| 0x0100
        else if l.dmax < p.accumulated then p.faults ||| 0x0200
        else p.faults },
      decide (l.dmin ≤ p.accumulated ∧ l.dmax < p.accumulated ∧ p.faults &&& 0x0200 = 0)) := by
  have hhas : (!p.faults.has .overdwell) = decide (p.faults &&& 0x0200 = 0) := by
    rw [Bool.eq_iff_iff]
    simp [FaultSet.has, FaultKind.bit]
  have hjudged : p.judged = if p.accumulated < l.dmin then (p.addFault .underdwell, false)
      else if l.dmax < p.accumulated then (p.addFault .overdwell, decide (p.faults &&& 0x0200 = 0)) else (p, false) := by
    rw [← hhas]
    simp only [Piece.judged, hl]
  rw [hjudged]
  by_cases hmin : p.accumulated < l.dmin
  · rw [if_pos hmin, if_pos hmin, decide_eq_false (by omega)]
    rfl
  · by_cases hmax : l.dmax < p.accumulated
    · rw [if_neg hmin, if_neg hmin, if_pos hmax, if_pos hmax]
      simp only [show l.dmin ≤ p.accumulated by omega, hmax, true_and]
      rfl
    · rw [if_neg hmin, if_neg hmin, if_neg hmax, if_neg hmax, decide_eq_false (by omega)]

/-- Settles O37. -/
theorem indexForcesOpenAndDischarges : Obligations.IndexForcesOpenAndDischarges := by
  refine ⟨fun z => by cases z <;> simp [ConveyorZone.capacity], fun s => ⟨fun h => ?_, fun h => ?_, fun h => ?_⟩,
    fun s h => ?_, fun s t p l h hp hl => ?_, fun s z t => ⟨State.handOver_reset t, fun hm hfull => ?_, fun hm hroom => ?_⟩⟩
  · simp only [State.indexJaws, h]
  · simp only [State.indexJaws, h]
  · refine ⟨_, rfl, ?_, fun t => ?_⟩
    · rw [State.indexJaws_forced h]
      obtain ⟨pool, hpool⟩ := s.qualifyOpen_exists (if s.press.jaw = .closed then s.timeBase else s.press.releaseTime)
      obtain ⟨pool', hpool'⟩ :=
        (s.qualifyOpen (if s.press.jaw = .closed then s.timeBase else s.press.releaseTime)).markSequence_exists
      simp only [hpool']
      rw [hpool]
    · generalize ho : s.qualifyOpen (if s.press.jaw = .closed then s.timeBase else s.press.releaseTime) = o
      have hheated : o.heated = s.heated := State.heated_congr (by rw [← ho]; simp)
      have hpool : s.indexJaws.pool = o.markSequence.pool := by rw [State.indexJaws_forced h, ho]
      rw [State.piece_congr hpool, State.piece_markSequence, hheated]
      refine ⟨fun hin => if_pos (State.mem_heated.2 hin), fun hout => if_neg fun hin => ?_⟩
      obtain ⟨i, h1, h8, e⟩ := State.mem_heated.1 hin
      exact hout i h1 h8 e
  · simp only [State.discharge, h]
  · simp only [State.discharge, h, State.judgeDischarge, hp, Piece.judged_limits hl]
    by_cases hmark : l.dmin ≤ p.accumulated ∧ l.dmax < p.accumulated ∧ p.faults &&& 0x0200 = 0
    · simp only [hmark, if_true]
      rfl
    · simp only [if_neg hmark, decide_eq_false hmark]
      rfl
  · rw [State.handOver, if_neg hm, if_pos hfull, State.lose_eq]
  · rw [State.handOver, if_neg hm, if_neg (by omega), State.joinQueue_eq]

end Sys2Proof.Machine
end

section
/-! SUPPORT. The index of the press as a whole (R122, R125, R126, R117): where the pieces stand after it, and how the
jaws and the timers are left. -/

namespace Sys2Proof.Machine

open Sys2Proof.Safety

/-! ### Flags and records that stay -/

theorem State.flagSet_raise {a b : Attention} (h : a ≠ b) (s : State) : (s.raise b).flagSet a = s.flagSet a := by
  have hbits : b.bit &&& a.bit = 0 := by
    revert h
    cases a <;> cases b <;> decide
  simp only [State.flagSet, State.raise, BitVec.and_or_distrib_right, hbits]
  exact congrArg (· != 0) BitVec.or_zero

theorem State.flagSet_congr {s u : State} (h : u.flags = s.flags) (a : Attention) : u.flagSet a = s.flagSet a := by
  rw [State.flagSet, State.flagSet, h]

theorem emptyOf_of_ne {t : Tag} {place : Option Tag} (h : place ≠ some t) : emptyOf t place = place := by
  cases place with
  | none => rfl
  | some u => exact if_neg h

theorem filter_ne_of_notMem {t : Tag} {l : List Tag} (h : t ∉ l) : l.filter (· ≠ t) = l :=
  List.filter_eq_self.2 fun u hu => by
    have : u ≠ t := fun e => h (e ▸ hu)
    simpa using this

/-- R18: taking out a piece that stands nowhere withdraws its gate orders and no more. -/
theorem State.takeOut_nowhere {s : State} {t : Tag} (h : ∀ pl, t ∉ s.occupants pl) :
    s.takeOut t = { s with stations := (s.takeOut t).stations } := by
  have hz : ∀ z, (s.conveyor z).without t = s.conveyor z := fun z => by
    rw [Conveyor.without, filter_ne_of_notMem (show t ∉ (s.conveyor z).queue from h (.conveyor z))]
  have hpositions : s.press.positions.map (emptyOf t) = s.press.positions := by
    refine Vector.ext fun i hi => ?_
    rw [Vector.getElem_map]
    exact emptyOf_of_ne fun e => h (.press ⟨i, hi⟩) (by simp [State.occupants, e])
  have hopt : ∀ {o : Option Tag}, t ∉ o.toList → emptyOf t o = o := fun ho => emptyOf_of_ne fun e => ho (by simp [e])
  have hz1 : s.z1.without t = s.z1 := hz .z1
  have hz2 : s.z2.without t = s.z2 := hz .z2
  have hz4 : s.z4.without t = s.z4 := hz .z4
  have hz5 : s.z5.without t = s.z5 := hz .z5
  have hgate : t ∉ s.gateQueue := h .gateQueue
  have hlost : t ∉ s.lost := h .lost
  simp only [State.takeOut, hz1, hz2, hz4, hz5, hpositions, hopt (h .casingSlot), hopt (h .pressEntry),
    hopt (h .jacketingSlot), filter_ne_of_notMem hgate, filter_ne_of_notMem hlost]
  rfl

/-- R34: a spoiled retirement raises no attention. -/
theorem State.retire_spoiled_flags (s : State) (t : Tag) : (s.retire .spoiled t).flags = s.flags := by
  have hjob : ∀ (u : State) (p : Piece), (u.settleJob .spoiled p).flags = u.flags := fun u p => by
    unfold State.settleJob
    split
    · rfl
    · split
      · rfl
      · dsimp only
        rw [if_neg (by simp)]
        split <;> simp
  unfold State.retire
  split
  · rfl
  · simp only [State.setPiece_flags, State.retirePulse, hjob]
    rfl

theorem State.retire_spoiled_lamps (s : State) (t : Tag) : (s.retire .spoiled t).lamps = s.lamps := by
  unfold State.retire
  split
  · rfl
  · simp only [State.setPiece_lamps, State.retirePulse, State.settleJob_lamps]
    rfl

/-- R18, R34: the spoiled retirement of a piece that stands nowhere. -/
theorem State.retire_spoiled_nowhere {s : State} {t : Tag} (h : ∀ pl, t ∉ s.occupants pl) :
    s.retire .spoiled t = { s with
      pool := (s.retire .spoiled t).pool
      jobs := (s.retire .spoiled t).jobs
      copyTables := (s.retire .spoiled t).copyTables
      stations := (s.retire .spoiled t).stations } := by
  have hframe := s.retire_frame .spoiled t
  rw [State.takeOut_nowhere h, State.retire_spoiled_flags, State.retire_spoiled_lamps] at hframe
  have hstations : (s.retire .spoiled t).stations = (s.takeOut t).stations := by
    rw [hframe]
  rw [hstations]
  exact hframe

/-! ### Stages 2 to 4 -/

/-- R122, stages 2 to 4: pieces move, and the jaws and the timers are left as they were. -/
structure Advanced (s u : State) : Prop where
  frame : u = { s with
    pool := u.pool
    jobs := u.jobs
    copyTables := u.copyTables
    press := { s.press with positions := u.press.positions }
    z4 := { s.z4 with queue := u.z4.queue }
    pressEntry := u.pressEntry
    lost := u.lost
    stations := u.stations
    flags := u.flags }
  sequence : u.flagSet .pressSequence = s.flagSet .pressSequence

theorem Advanced.refl (s : State) : Advanced s s := ⟨rfl, rfl⟩

theorem Advanced.trans {s u w : State} (h : Advanced s u) (g : Advanced u w) : Advanced s w := by
  refine ⟨?_, g.sequence.trans h.sequence⟩
  have hw := g.frame
  rw [h.frame] at hw
  exact hw

theorem Advanced.raise {s u : State} (h : Advanced s u) {a : Attention} (ha : .pressSequence ≠ a) :
    Advanced s (u.raise a) := by
  refine h.trans ⟨rfl, State.flagSet_raise ha u⟩

theorem Advanced.of_pool (s : State) (pool : Vector (Option Piece) 96) : Advanced s { s with pool := pool } := ⟨rfl, rfl⟩

/-- R124: the piece handed to Z4 leaves the press as it was. -/
theorem Advanced.handOver {s : State} {t : Tag} (h : ∀ pl, t ∉ s.occupants pl) :
    Advanced s (s.handOver .z4 t) ∧ (s.handOver .z4 t).press = s.press ∧ (s.handOver .z4 t).pressEntry = s.pressEntry := by
  unfold State.handOver
  split
  · have hframe := State.retire_spoiled_nowhere h
    exact ⟨⟨by rw [hframe], State.flagSet_congr (s.retire_spoiled_flags t) _⟩, by rw [hframe], by rw [hframe]⟩
  · split
    · rw [State.lose_eq]
      exact ⟨⟨rfl, (State.flagSet_raise (b := .tracking) (by decide) s)⟩, rfl, rfl⟩
    · rw [State.joinQueue_eq]
      exact ⟨⟨rfl, rfl⟩, rfl, rfl⟩

theorem State.judgeDischarge_advanced (s : State) (t : Tag) :
    Advanced s (s.judgeDischarge t) ∧ (s.judgeDischarge t).press = s.press ∧
      (s.judgeDischarge t).pressEntry = s.pressEntry := by
  unfold State.judgeDischarge
  split
  · exact ⟨.refl s, rfl, rfl⟩
  · unfold State.raiseIf
    split
    · exact ⟨(Advanced.of_pool s _).raise (by decide), rfl, rfl⟩
    · exact ⟨.of_pool s _, rfl, rfl⟩

theorem InHand.notMem_head {s : State} {t : Tag} {ts : List Tag} (h : InHand (t :: ts) s) (pl : Place) :
    t ∉ s.occupants pl := fun hin => h.not_mem hin List.mem_cons_self

theorem State.handOver_last {s w : State} {t : Tag} (hs : InHand [] s) (ht : s.press.positions[11] = some t)
    (hw : w = { s with press := { s.press with positions := s.press.positions.set 11 none } }) :
    Advanced s (w.handOver .z4 t) ∧
      (∀ i : Fin 11, (w.handOver .z4 t).press.positions[i.val] = s.press.positions[i.val]) ∧
      (w.handOver .z4 t).pressEntry = s.pressEntry := by
  have hhand := hs.take (takenFrom_lastPosition ht)
  rw [← hw] at hhand
  obtain ⟨hover, hpress, hentry⟩ := Advanced.handOver hhand.notMem_head
  have htake : Advanced s w := by
    rw [hw]
    exact ⟨rfl, rfl⟩
  refine ⟨htake.trans hover, fun i => ?_, hentry.trans (by rw [hw])⟩
  have hi : (11 : Nat) ≠ i.val := by omega
  have hpositions : (w.handOver .z4 t).press.positions = s.press.positions.set 11 none := by rw [hpress, hw]
  rw [hpositions]
  exact Vector.getElem_set_ne _ _ hi

/-- R122, stage 2: only position 11 changes. -/
theorem State.discharge_advanced {s : State} (hs : InHand [] s) :
    Advanced s s.discharge ∧ (∀ i : Fin 11, s.discharge.press.positions[i.val] = s.press.positions[i.val]) ∧
      s.discharge.pressEntry = s.pressEntry := by
  unfold State.discharge
  split
  · exact ⟨.refl s, fun _ => rfl, rfl⟩
  · next t ht =>
    obtain ⟨hjudge, hpress, hentry⟩ := s.judgeDischarge_advanced t
    obtain ⟨hover, hpositions, hentry'⟩ := State.handOver_last (hs.thinnedBy (ThinnedBy.judgeDischarge s t))
      (by rw [hpress]; exact ht) rfl
    exact ⟨hjudge.trans hover, fun i => by rw [← hpress]; exact hpositions i, hentry'.trans hentry⟩

theorem State.shiftPress_exists (s : State) : ∃ pool, s.shiftPress = { s with
    pool := pool, press := { s.press with positions := shiftedPositions s.press.positions } } := by
  obtain ⟨pool, hpool⟩ := s.updatePieces_exists (s.press.positions.toList.filterMap id) Piece.shifted
  exact ⟨pool, by simp only [State.shiftPress, hpool]⟩

theorem shiftedPositions_zero (v : Vector (Option Tag) 12) : (shiftedPositions v)[0] = none := by
  simp [shiftedPositions]

theorem shiftedPositions_succ (v : Vector (Option Tag) 12) (i : Fin 11) : (shiftedPositions v)[i.val + 1] = v[i.val] := by
  simp [shiftedPositions]

theorem State.shiftPress_advanced (s : State) : Advanced s s.shiftPress ∧ s.shiftPress.pressEntry = s.pressEntry := by
  obtain ⟨pool, hpool⟩ := s.shiftPress_exists
  rw [hpool]
  exact ⟨⟨rfl, rfl⟩, rfl⟩

/-- R125: a piece enters position 0, its limits made. -/
theorem State.enterPress_running {s : State} {t : Tag} {p : Piece} (ht : s.pressEntry = some t) (hm : s.z3Mode ≠ .reset)
    (hp : s.piece t = some p) : s.enterPress = { s with
      pressEntry := none
      press := { s.press with positions := s.press.positions.set 0 (some t) }
      pool := s.pool.set t (some { p with place := .press 0, entryCount := none }) }.computeDwell t := by
  simp only [State.enterPress, ht, if_neg hm, State.updatePiece]
  have hpiece : ({ s with
      pressEntry := none
      press := { s.press with positions := s.press.positions.set 0 (some t) } } : State).piece t = some p := hp
  rw [hpiece]
  rfl

theorem State.computeDwell_advanced (s : State) (t : Tag) :
    Advanced s (s.computeDwell t) ∧ (s.computeDwell t).press = s.press ∧ (s.computeDwell t).pressEntry = s.pressEntry := by
  unfold State.computeDwell
  split
  · exact ⟨.refl s, rfl, rfl⟩
  · split
    · exact ⟨.refl s, rfl, rfl⟩
    · dsimp only
      split
      · exact ⟨(Advanced.of_pool s _).raise (by decide), rfl, rfl⟩
      · exact ⟨.of_pool s _, rfl, rfl⟩

/-- R122, stage 4: only position 0 changes. -/
theorem State.enterPress_advanced {s : State} (hs : InHand [] s) (h0 : s.press.positions[0] = none) :
    Advanced s s.enterPress ∧ (∀ i : Fin 11, s.enterPress.press.positions[i.val + 1] = s.press.positions[i.val + 1]) ∧
      s.enterPress.press.positions[0] = (if s.z3Mode = .reset then none else s.pressEntry) ∧
      s.enterPress.pressEntry = none := by
  cases ht : s.pressEntry with
  | none =>
    have he : s.enterPress = s := by simp only [State.enterPress, ht]
    rw [he]
    exact ⟨.refl s, fun _ => rfl, by simp [h0], ht⟩
  | some t =>
    have hhand := hs.take (takenFrom_pressEntry ht)
    by_cases hm : s.z3Mode = .reset
    · have he : s.enterPress = { s with pressEntry := none }.retire .spoiled t := by
        simp only [State.enterPress, ht, if_pos hm]
      have hframe := State.retire_spoiled_nowhere hhand.notMem_head
      have htake : Advanced s { s with pressEntry := none } := ⟨rfl, rfl⟩
      rw [he, if_pos hm]
      exact ⟨htake.trans ⟨by rw [hframe], State.flagSet_congr (State.retire_spoiled_flags _ t) _⟩,
        fun _ => by rw [hframe], by rw [hframe]; exact h0, by rw [hframe]⟩
    · obtain ⟨p, hp, -⟩ := (hs.others t (by simp)).isSome_of_mem (pl := .pressEntry) (by simp [State.occupants, ht])
      rw [State.enterPress_running ht hm hp, if_neg hm]
      generalize hw : ({ s with
        pressEntry := none
        press := { s.press with positions := s.press.positions.set 0 (some t) }
        pool := s.pool.set t (some { p with place := .press 0, entryCount := none }) } : State) = w
      have hput : Advanced s w := by
        rw [← hw]
        exact ⟨rfl, rfl⟩
      obtain ⟨hdwell, hpress, hentry⟩ := w.computeDwell_advanced t
      have hpositions : (w.computeDwell t).press.positions = s.press.positions.set 0 (some t) := by rw [hpress, ← hw]
      refine ⟨hput.trans hdwell, fun i => ?_, ?_, hentry.trans (by rw [← hw])⟩
      · rw [hpositions]
        exact Vector.getElem_set_ne _ _ (Nat.succ_ne_zero _).symm
      · rw [hpositions]
        exact Vector.getElem_set_self _

end Sys2Proof.Machine
end

section
/-! SUPPORT. The index of the press assembled from its stages (R122), and the closure it may begin (R117, log 16). -/

namespace Sys2Proof.Machine

open Sys2Proof.Safety

/-! ### Stages 1 and 5: the jaws -/

/-- R122, stages 1 and 5: jaws, timers and records may change, no piece moves. -/
structure JawsMoved (s u : State) : Prop where
  frame : u = { s with pool := u.pool, press := u.press, flags := u.flags, stations := u.stations }
  positions : u.press.positions = s.press.positions

theorem JawsMoved.trans {s u w : State} (h : JawsMoved s u) (g : JawsMoved u w) : JawsMoved s w := by
  refine ⟨?_, g.positions.trans h.positions⟩
  have hw := g.frame
  rw [h.frame] at hw
  exact hw

theorem JawsMoved.setPress {s u : State} (h : JawsMoved s u) {pr : Press} (hpr : pr.positions = u.press.positions) :
    JawsMoved s { u with press := pr } := h.trans ⟨rfl, hpr⟩

theorem State.qualifyOpen_moved (s : State) (o : Word32) : JawsMoved s (s.qualifyOpen o) := by
  obtain ⟨pool, hpool⟩ := s.qualifyOpen_exists o
  rw [hpool]
  exact ⟨rfl, rfl⟩

theorem State.markSequence_moved (s : State) : JawsMoved s s.markSequence := by
  obtain ⟨pool, hpool⟩ := s.markSequence_exists
  rw [hpool]
  exact ⟨rfl, rfl⟩

theorem State.indexJaws_moved (s : State) : JawsMoved s s.indexJaws := by
  unfold State.indexJaws
  split
  · exact ⟨rfl, rfl⟩
  · exact (s.qualifyOpen_moved _).trans (State.markSequence_moved _)
  · have hforced := (s.qualifyOpen_moved s.press.releaseTime).trans (State.markSequence_moved _)
    exact hforced.setPress rfl
  · exact ⟨rfl, rfl⟩

theorem State.qualifyClose_moved (s : State) (c : Word32) : JawsMoved s (s.qualifyClose c) := by
  refine ⟨?_, by rw [State.qualifyClose_press]⟩
  rcases s.qualifyClose_cases c with ⟨-, h⟩ | ⟨-, h⟩ <;> rw [h]
  · rfl
  · have he := (s.armClosure c).takeOverdwell_eq
    generalize (s.armClosure c).takeOverdwell = w at he ⊢
    rw [he]
    rfl

theorem State.settleJaws_moved (s : State) (found : JawState) : JawsMoved s (s.settleJaws found) := by
  cases found with
  | closed => exact s.qualifyClose_moved _
  | _ => exact ⟨rfl, rfl⟩

theorem State.flagSet_takeOverdwell (s : State) : s.takeOverdwell.flagSet .pressSequence = s.flagSet .pressSequence := by
  have hflags : s.takeOverdwell.flags = (s.raise .overdwell).flags := by
    rw [s.takeOverdwell_eq]
    rfl
  rw [State.flagSet_congr hflags, State.flagSet_raise (by decide)]

theorem State.flagSet_settleJaws (s : State) (found : JawState) :
    (s.settleJaws found).flagSet .pressSequence = s.flagSet .pressSequence := by
  cases found with
  | closed =>
    change (s.qualifyClose s.timeBase).flagSet .pressSequence = _
    rcases s.qualifyClose_cases s.timeBase with ⟨-, h⟩ | ⟨-, h⟩ <;> rw [h]
    · exact State.flagSet_congr rfl _
    · exact (State.flagSet_takeOverdwell _).trans (State.flagSet_congr rfl _)
  | _ => exact State.flagSet_congr rfl _

theorem State.flagSet_indexJaws_forced {s : State} (h : s.press.jaw = .closed ∨ s.press.jaw = .opening) :
    s.indexJaws.flagSet .pressSequence = true := by
  have hflags : s.indexJaws.flags = (s.raise .pressSequence).flags := by
    obtain ⟨pool', hpool'⟩ :=
      (s.qualifyOpen (if s.press.jaw = .closed then s.timeBase else s.press.releaseTime)).markSequence_exists
    rw [State.indexJaws_forced h]
    simp only [hpool', State.qualifyOpen_flags]
    rfl
  rw [State.flagSet_congr hflags, State.flagSet_raise_self]

theorem State.indexJaws_free {s : State} (h : s.press.jaw = .opened ∨ s.press.jaw = .closing) :
    s.indexJaws.flags = s.flags := by
  unfold State.indexJaws
  rcases h with h | h <;> simp only [h]

/-! ### The stages in their order -/

/-- R122: an index moves the pieces on, after the jaws have been forced open and before they are settled. -/
theorem State.index_stages {s : State} (hs : PlacesAgree s) : ∃ u, s.index = u.settleJaws s.press.jaw ∧
    Advanced s.indexJaws u ∧ u.pressEntry = none ∧
    (∀ i : Fin 11, u.press.positions[i.val + 1] = s.press.positions[i.val]) ∧
    u.press.positions[0] = (if s.z3Mode = .reset then none else s.pressEntry) := by
  have hjaws := s.indexJaws_moved
  have hhand := lineLaw_inHand.keptByOps.indexJaws ((inHand_nil_iff s).2 hs)
  obtain ⟨hdischarge, hlow, hentry⟩ := State.discharge_advanced hhand
  obtain ⟨hshift, hentry'⟩ := s.indexJaws.discharge.shiftPress_advanced
  have hshifted := s.indexJaws.discharge.positions_shiftPress
  have h0 : s.indexJaws.discharge.shiftPress.press.positions[0] = none := by
    simp only [hshifted]
    exact shiftedPositions_zero _
  obtain ⟨henter, hrest, hfirst, hnone⟩ := State.enterPress_advanced
    (lineLaw_inHand.keptByOps.shiftPress s.indexJaws.discharge_last (lineLaw_inHand.keptByOps.discharge hhand)) h0
  refine ⟨_, rfl, (hdischarge.trans hshift).trans henter, hnone, fun i => ?_, hfirst.trans ?_⟩
  · rw [hrest]
    simp only [hshifted]
    rw [shiftedPositions_succ, hlow, hjaws.positions]
  · have hmode : s.indexJaws.discharge.shiftPress.z3Mode = s.z3Mode := by
      rw [(hdischarge.trans hshift).frame]
      exact s.indexJaws_z3Mode
    rw [hmode, hentry', hentry, s.indexJaws_pressEntry]

/-- R122: what an index leaves as it was. -/
def IndexFrame (s u : State) : Prop := u = { s with
  pool := u.pool
  jobs := u.jobs
  copyTables := u.copyTables
  press := u.press
  z4 := { s.z4 with queue := u.z4.queue }
  pressEntry := u.pressEntry
  lost := u.lost
  stations := u.stations
  flags := u.flags }

theorem IndexFrame.trans {s u w : State} (h : IndexFrame s u) (g : IndexFrame u w) : IndexFrame s w := by
  unfold IndexFrame at h g ⊢
  rw [h] at g
  exact g

theorem JawsMoved.indexFrame {s u : State} (h : JawsMoved s u) : IndexFrame s u := by
  unfold IndexFrame
  rw [h.frame]

theorem Advanced.indexFrame {s u : State} (h : Advanced s u) : IndexFrame s u := by
  unfold IndexFrame
  rw [h.frame]

theorem State.index_frame {s : State} (hs : PlacesAgree s) : IndexFrame s s.index ∧ s.index.pressEntry = none := by
  obtain ⟨u, hindex, hadvanced, hentry, -, -⟩ := State.index_stages hs
  have hsettled := u.settleJaws_moved s.press.jaw
  rw [hindex]
  refine ⟨(s.indexJaws_moved.indexFrame.trans hadvanced.indexFrame).trans hsettled.indexFrame, ?_⟩
  rw [hsettled.frame]
  exact hentry

theorem State.indexJaws_press (s : State) : s.indexJaws.press =
    match s.press.jaw with
    | .opened => s.press
    | .closed => { s.press with overdwellTimer := none, overdwellDeferred := false }
    | .opening => { s.press with overdwellTimer := none, overdwellDeferred := false, bridgeTimer := none }
    | .closing => { s.press with hitTimer := none } := by
  unfold State.indexJaws
  split <;> simp [*]

/-- R122, R126: how the index leaves the jaws and the timers. -/
theorem State.index_press {s : State} (hs : PlacesAgree s) :
    (s.press.jaw = .opened ∧ s.index.press = { s.press with positions := s.index.press.positions }) ∨
    (s.press.jaw = .closing ∧ s.index.press = { s.press with
      positions := s.index.press.positions
      assertionTime := s.timeBase
      hitTimer := some (s.timeBase + BitVec.ofNat 32 s.press.hitTime) }) ∨
    (s.press.jaw = .closed ∧ s.index.press = { s.press with
      positions := s.index.press.positions
      jaw := .closed
      closeTime := s.timeBase
      hitTimer := none
      overdwellTimer := s.index.press.overdwellTimer
      overdwellDeferred := false }) ∨
    (s.press.jaw = .opening ∧ s.index.press = { s.press with
      positions := s.index.press.positions
      jaw := .opened
      bridgeTimer := none
      overdwellTimer := none
      overdwellDeferred := false }) := by
  obtain ⟨u, hindex, hadvanced, -, -, -⟩ := State.index_stages hs
  have hpress := congrArg State.press hadvanced.frame
  have htime : u.timeBase = s.timeBase := by
    rw [hadvanced.frame]
    exact s.indexJaws_timeBase
  have hfound := s.indexJaws_press
  rw [hindex]
  cases hj : s.press.jaw with
  | opened =>
    have hfound : s.indexJaws.press = s.press := by rw [hfound, hj]
    rw [hfound] at hpress
    exact .inl ⟨rfl, hpress⟩
  | closing =>
    have hfound : s.indexJaws.press = { s.press with hitTimer := none } := by rw [hfound, hj]
    rw [hfound] at hpress
    refine .inr (.inl ⟨rfl, ?_⟩)
    simp only [State.settleJaws, htime, later]
    rw [hpress]
  | closed =>
    have hfound : s.indexJaws.press = { s.press with overdwellTimer := none, overdwellDeferred := false } := by
      rw [hfound, hj]
    rw [hfound] at hpress
    refine .inr (.inr (.inl ⟨rfl, ?_⟩))
    have hclose := u.qualifyClose_press u.timeBase
    simp only [State.settleJaws]
    generalize u.qualifyClose u.timeBase = w at hclose ⊢
    rw [hpress, htime] at hclose
    rw [hclose]
  | opening =>
    have hfound : s.indexJaws.press =
        { s.press with overdwellTimer := none, overdwellDeferred := false, bridgeTimer := none } := by
      rw [hfound, hj]
    rw [hfound] at hpress
    refine .inr (.inr (.inr ⟨rfl, ?_⟩))
    simp only [State.settleJaws]
    rw [hpress]

/-- R122, R126: the press registers after an index, by the jaw state it found. -/
theorem State.index_timers {s : State} (hs : PlacesAgree s) :
    s.index.press.jaw =
      (match s.press.jaw with
        | .opened => .opened
        | .closed => .closed
        | .opening => .opened
        | .closing => .closing) ∧
    s.index.press.hitTimer =
      (match s.press.jaw with
        | .closing => some (s.timeBase + BitVec.ofNat 32 s.press.hitTime)
        | .closed => none
        | .opened => s.press.hitTimer
        | .opening => s.press.hitTimer) ∧
    s.index.press.bridgeTimer = (if s.press.jaw = .opening then none else s.press.bridgeTimer) ∧
    s.index.press.assertionTime = (if s.press.jaw = .closing then s.timeBase else s.press.assertionTime) ∧
    s.index.press.closeTime = (if s.press.jaw = .closed then s.timeBase else s.press.closeTime) ∧
    (s.press.jaw = .opened ∨ s.press.jaw = .closing → s.index.press.overdwellTimer = s.press.overdwellTimer ∧
      s.index.press.overdwellDeferred = s.press.overdwellDeferred) ∧
    (s.press.jaw = .opening → s.index.press.overdwellTimer = none ∧ s.index.press.overdwellDeferred = false) ∧
    (s.press.jaw = .closed → s.index.press.overdwellDeferred = false) ∧
    s.index.press.releaseTime = s.press.releaseTime ∧ s.index.press.hitTime = s.press.hitTime ∧
    s.index.press.bridgeTime = s.press.bridgeTime := by
  have hpress := State.index_press hs
  generalize s.index.press = pr at hpress ⊢
  rcases hpress with ⟨hj, hp⟩ | ⟨hj, hp⟩ | ⟨hj, hp⟩ | ⟨hj, hp⟩ <;> rw [hp] <;> simp [hj]

/-! ### The closure that begins at the index (R117, log 16) -/

/-- R119: an overdwell mark leaves a headroom as it was. -/
theorem Piece.headroom_markOverdue (p : Piece) (n : Nat) : (p.markOverdue n).headroom = p.headroom := by
  unfold Piece.markOverdue
  split <;> rfl

theorem State.headrooms_takeOverdwell (s : State) : s.takeOverdwell.headrooms = s.headrooms := by
  rw [State.headrooms, State.heated_congr (s := s) (by rw [s.takeOverdwell_press])]
  refine List.filterMap_congr fun t ht => ?_
  rw [State.piece_takeOverdwell, if_pos ht]
  cases s.piece t with
  | none => rfl
  | some p => exact p.headroom_markOverdue _

theorem State.headrooms_qualifyClose (s : State) (c : Word32) : (s.qualifyClose c).headrooms = s.headrooms := by
  rcases s.qualifyClose_cases c with ⟨-, h⟩ | ⟨-, h⟩ <;> rw [h]
  · rfl
  · exact State.headrooms_takeOverdwell _

/-- R117: a closure with no piece under the jaws runs no timer. -/
theorem State.qualifyClose_idle {s : State} (h : (s.qualifyClose s.timeBase).headrooms = []) :
    (s.qualifyClose s.timeBase).press.overdwellTimer = none := by
  rw [State.headrooms_qualifyClose] at h
  have harm : (s.armClosure s.timeBase).press.overdwellTimer = none := by simp [State.armClosure, h]
  rw [State.qualifyClose_unarmed harm, harm]

theorem State.overdwellTimer_armClosure {s : State} {h : Nat} (hmem : h ∈ s.headrooms) (hmin : ∀ n ∈ s.headrooms, h ≤ n)
    (c : Word32) : (s.armClosure c).press.overdwellTimer = some (c + BitVec.ofNat 32 h) := by
  have hmin? : s.headrooms.min? = some h := List.min?_eq_some_iff.2 ⟨hmem, hmin⟩
  simp only [State.armClosure, hmin?]
  rfl

theorem State.qualifyClose_now {s : State} {h : Nat} (hmem : h ∈ s.headrooms) (hmin : ∀ n ∈ s.headrooms, h ≤ n) :
    s.qualifyClose s.timeBase = if BitVec.ofNat 32 h = 0 then (s.armClosure s.timeBase).takeOverdwell
      else s.armClosure s.timeBase := by
  rw [State.qualifyClose_armed (State.overdwellTimer_armClosure hmem hmin s.timeBase)]
  refine if_congr ?_ rfl rfl
  have hleft : s.timeBase + BitVec.ofNat 32 h - s.timeBase = BitVec.ofNat 32 h := by
    rw [BitVec.add_comm, BitVec.add_sub_cancel]
  rw [hleft, BitVec.sub_self, ← BitVec.toNat_inj]
  exact Nat.le_zero

/-- R119, log 16: a timer that runs out at the index marks each piece with no headroom. -/
theorem State.marked_takeOverdwell {s : State} {t : Tag} {p : Piece} {l : DwellLimits} (ht : t ∈ s.heated)
    (hp : s.takeOverdwell.piece t = some p) (hl : p.limits = some l) (hle : l.dmax ≤ p.accumulated) :
    p.faults &&& 0x0200 ≠ 0 := by
  rw [State.piece_takeOverdwell, if_pos ht, Option.map_eq_some_iff] at hp
  obtain ⟨q, -, rfl⟩ := hp
  have hsame : ∀ n, (q.markOverdue n).limits = q.limits ∧ (q.markOverdue n).accumulated = q.accumulated := fun n => by
    unfold Piece.markOverdue
    split <;> exact ⟨rfl, rfl⟩
  rw [(hsame _).1] at hl
  rw [(hsame _).2] at hle
  rw [Piece.markOverdue_limits hl, if_pos (by omega)]
  simp only [Piece.addFault, FaultSet.add, FaultKind.bit, BitVec.and_or_distrib_right]
  intro h0
  have hbit := congrArg (BitVec.getLsbD · 9) h0
  simp at hbit

/-- R117, log 16: the closure that begins now, by the smallest headroom among the pieces under the jaws. -/
theorem State.qualifyClose_smallest {u t : State} {h : Nat} (ht : t = u.qualifyClose u.timeBase)
    (hmem : h ∈ t.headrooms) (hmin : ∀ n ∈ t.headrooms, h ≤ n) :
    (BitVec.ofNat 32 h ≠ 0 → t.press.overdwellTimer = some (u.timeBase + BitVec.ofNat 32 h)) ∧
    (BitVec.ofNat 32 h = 0 → t.press.overdwellTimer = none ∧ t.flagSet .overdwell = true ∧
      ∀ (v : Tag) (p : Piece) (l : DwellLimits), v ∈ t.heated → t.piece v = some p → p.limits = some l →
        l.dmax ≤ p.accumulated → p.faults &&& 0x0200 ≠ 0) := by
  rw [ht, State.headrooms_qualifyClose] at hmem hmin
  have hnow := State.qualifyClose_now hmem hmin
  subst ht
  refine ⟨fun h0 => ?_, fun h0 => ?_⟩
  · rw [hnow, if_neg h0]
    exact State.overdwellTimer_armClosure hmem hmin _
  · rw [hnow, if_pos h0]
    refine ⟨by rw [State.takeOverdwell_press], ?_, fun v p l hv hp hl hle => ?_⟩
    · have hflags : (u.armClosure u.timeBase).takeOverdwell.flags = ((u.armClosure u.timeBase).raise .overdwell).flags := by
        rw [(u.armClosure u.timeBase).takeOverdwell_eq]
        rfl
      rw [State.flagSet_congr hflags, State.flagSet_raise_self]
    · rw [State.heated_congr (s := u.armClosure u.timeBase) (by rw [State.takeOverdwell_press])] at hv
      exact State.marked_takeOverdwell hv hp hl hle

/-- Settles O36. -/
theorem pressIndexMovesPress : Obligations.PressIndexMovesPress := by
  refine ⟨fun now s => rfl, fun s => ⟨?_, ?_, fun i => ?_, fun i t p hi hp hplace => ?_, fun t ht => ?_⟩,
    fun s => ⟨fun h => by simp only [State.enterPress, h], fun t ht => ⟨fun hm => ?_, fun p hm hp =>
      State.enterPress_running ht hm hp⟩⟩, fun s => ⟨rfl, rfl, rfl, rfl⟩, fun now s hs => ?_⟩
  · obtain ⟨pool, hpool⟩ := s.shiftPress_exists
    rw [hpool]
  · simp only [State.positions_shiftPress]
    exact shiftedPositions_zero _
  · simp only [State.positions_shiftPress]
    exact shiftedPositions_succ _ i
  · have hin : t ∈ s.press.positions.toList.filterMap id := mem_positions (i := i.castSucc) (by
      simp [State.occupants, hi])
    rw [State.piece_shiftPress, if_pos hin, hp, Option.map_some, p.shifted_frame,
      Piece.place_shifted hplace (by simp)]
    congr
    simp
  · rw [State.piece_shiftPress, if_neg]
    intro hin
    obtain ⟨i, hi⟩ := exists_of_mem_positions hin
    exact ht i (by simpa [State.occupants] using hi)
  · simp only [State.enterPress, ht, if_pos hm]
  · have hs' : PlacesAgree (s.atReading now) := hs
    obtain ⟨u, hindex, hadvanced, hentry, hlater, hfirst⟩ := State.index_stages hs'
    have hpositions : (s.atReading now).index.press.positions = u.press.positions := by
      rw [hindex]
      exact (u.settleJaws_moved _).positions
    obtain ⟨hframe, hnone⟩ := State.index_frame hs'
    have hframe' : (s.atReading now).index = { s.atReading now with
        pool := (s.atReading now).index.pool
        jobs := (s.atReading now).index.jobs
        copyTables := (s.atReading now).index.copyTables
        press := (s.atReading now).index.press
        z4 := { s.z4 with queue := (s.atReading now).index.z4.queue }
        pressEntry := none
        lost := (s.atReading now).index.lost
        stations := (s.atReading now).index.stations
        flags := (s.atReading now).index.flags } := by
      rw [← hnone]
      exact hframe
    obtain ⟨hjaw, hhit, hbridge, hassertion, hclose, hfree, hopening, hclosed, hrelease, hhitTime, hbridgeTime⟩ :=
      State.index_timers hs'
    have htime : u.timeBase = now := by
      rw [hadvanced.frame]
      exact (s.atReading now).indexJaws_timeBase
    have hflag : (s.atReading now).index.flagSet .pressSequence = (s.atReading now).indexJaws.flagSet .pressSequence := by
      rw [hindex, State.flagSet_settleJaws, hadvanced.sequence]
    have hconveyors : ∀ z, z ≠ .z4 → (s.atReading now).index.conveyor z = s.conveyor z := fun z hz => by
      rw [hframe']
      cases z <;> first | rfl | exact absurd rfl hz
    have hplaces : (s.atReading now).index.casing = s.casing ∧ (s.atReading now).index.jacketing = s.jacketing ∧
        (s.atReading now).index.gateQueue = s.gateQueue := by
      rw [hframe']
      exact ⟨rfl, rfl, rfl⟩
    refine ⟨(s.atReading now).index, rfl, hnone, fun i => ?_, ?_, hjaw, hhit, hbridge, hassertion, hclose, hfree, hopening,
      fun hj => ⟨hclosed hj, ?_⟩, hrelease, hhitTime, hbridgeTime,
      fun hj => hflag.trans (State.flagSet_indexJaws_forced hj),
      fun hj => hflag.trans (State.flagSet_congr (State.indexJaws_free (s := s.atReading now) hj) _), hconveyors .z1 (by decide),
      hconveyors .z2 (by decide), hconveyors .z5 (by decide), ?_, hplaces.1, hplaces.2.1, hplaces.2.2, ?_⟩
    · simp only [hpositions]
      exact hlater i
    · simp only [hpositions]
      exact hfirst
    · have hq : (s.atReading now).index = u.qualifyClose u.timeBase :=
        hindex.trans (by rw [State.atReading_press, hj]; rfl)
      refine ⟨fun hidle => ?_, fun h hmem hmin => ?_⟩
      · have hnil := State.headrooms_eq_nil.2 hidle
        rw [hq] at hnil ⊢
        exact State.qualifyClose_idle hnil
      · obtain ⟨hruns, hout⟩ := State.qualifyClose_smallest hq (State.mem_headrooms.2 hmem) fun n hn => by
          obtain ⟨i, v, p, l, h1, h8, hi, hp, hl, rfl⟩ := State.mem_headrooms.1 hn
          exact hmin i v p l h1 h8 hi hp hl
        rw [htime] at hruns
        refine ⟨hruns, fun h0 => ?_⟩
        obtain ⟨hstopped, hflag, hmarks⟩ := hout h0
        exact ⟨hstopped, hflag, fun i v p l h1 h8 hi hp hl => hmarks v p l (State.mem_heated.2 ⟨i, h1, h8, hi⟩) hp hl⟩
    · rw [hframe']
    · rw [hframe']
      rfl

end Sys2Proof.Machine
end

section
/-! SUPPORT. Retirement (R18, R33 to R37, R76, R155, R156): all that it does to the piece, its job, its copy entry and the
lamps. -/

namespace Sys2Proof.Machine

open Sys2Proof.Safety

/-! ### The piece -/

theorem State.retire_some {s : State} {t : Tag} {p : Piece} (k : Retirement) (hp : s.piece t = some p) :
    s.retire k t = (((s.takeOut t).settleJob k p).retirePulse k).setPiece t none := by
  simp only [State.retire, hp]

/-- R18: the tag is free, and one more is. -/
theorem State.freeCount_retire {s : State} {t : Tag} {p : Piece} (k : Retirement) (hp : s.piece t = some p) :
    (s.retire k t).freeCount = s.freeCount + 1 := by
  simp only [State.freeCount, State.piece_retire]
  have ht : t ∈ List.finRange 96 := List.mem_finRange t
  have hcount : ∀ q : Tag → Bool, (List.finRange 96).countP q =
      (if q t then 1 else 0) + ((List.finRange 96).erase t).countP q := fun q => by
    rw [(List.perm_cons_erase ht).countP_eq, List.countP_cons, Nat.add_comm]
  have hrest : ((List.finRange 96).erase t).countP (fun u => (if u = t then none else s.piece u).isNone) =
      ((List.finRange 96).erase t).countP fun u => (s.piece u).isNone := by
    refine List.countP_congr fun u hu => ?_
    rw [if_neg fun e => (List.Nodup.not_mem_erase (List.nodup_finRange 96)) (e ▸ hu)]
  rw [hcount, hrest, hcount fun u => (s.piece u).isNone]
  simp [hp]
  omega

/-! ### The lamps -/

theorem State.lamps_retire {s : State} {t : Tag} {p : Piece} (k : Retirement) (hp : s.piece t = some p) :
    (s.retire k t).lamps = ((s.takeOut t).retirePulse k).lamps := by
  rw [State.retire_some k hp]
  cases k <;> simp [State.retirePulse, State.pulse]

/-- R156: only a delivery and a diversion pulse, each its own lamps. -/
theorem State.lamp_retirePulse (s : State) (k : Retirement) (l : LampId) : (s.retirePulse k).lamps[l] =
    if (k = .delivered ∧ s.lamps[l].source = .deliverPulse) ∨ (k = .diverted ∧ s.lamps[l].source = .divertPulse) then
      { s.lamps[l] with stretchEnd := some (s.timeBase + BitVec.ofNat 32 s.lamps[l].stretch) }
    else s.lamps[l] := by
  cases k <;> simp [State.retirePulse, State.pulse, later]

/-! ### The job -/

/-- R35: the retirement brings a RUNNING job to its ordered number. -/
def Completes (k : Retirement) (b : Job) : Prop := k = .delivered ∧ b.state = .running ∧ b.ordered ≤ b.good + 1

/-- R37: the retirement takes the last piece of a CLOSING job. -/
def Empties (b : Job) : Prop := b.state = .closing ∧ b.live ≤ 1

theorem Job.settled_eq (b : Job) (k : Retirement) : b.settled k = { b with
    live := b.live - 1
    good := if k = .delivered then b.good + 1 else b.good
    diverted := if k = .diverted then min (b.diverted + 1) 65535 else b.diverted
    spoiled := if k = .spoiled then min (b.spoiled + 1) 65535 else b.spoiled } := by
  cases k <;> rfl

theorem State.settleJob_jobless {s : State} {p : Piece} (k : Retirement) (h : p.job.bind s.job = none) :
    s.settleJob k p = s := by
  unfold State.settleJob
  cases hj : p.job with
  | none => rfl
  | some j =>
    rw [hj] at h
    have hb : s.job j = none := h
    simp only [hb]

variable {s : State} {k : Retirement} {p : Piece} {j : JobSlot} {b : Job}

theorem State.settleJob_completes (hj : p.job = some j) (hb : s.job j = some b) (h : Completes k b) :
    s.settleJob k p = ((s.setJob j (some (b.settled k))).settleCopy k p b).completeJob j (b.settled k) := by
  obtain ⟨rfl, hrunning, hordered⟩ := h
  simp only [State.settleJob, hj, hb]
  exact if_pos ⟨trivial, hrunning, hordered⟩

theorem State.settleJob_empties (hj : p.job = some j) (hb : s.job j = some b) (h : Empties b) :
    s.settleJob k p = ((s.setJob j (some (b.settled k))).settleCopy k p b).emptyJob j (b.settled k) := by
  simp only [State.settleJob, hj, hb]
  have hstate : (b.settled k).state = .closing := by rw [b.settled_eq]; exact h.1
  have hlive : (b.settled k).live = 0 := by
    rw [b.settled_eq]
    exact Nat.sub_eq_zero_of_le h.2
  rw [if_neg (fun hc => by cases hstate.symm.trans hc.2.1), if_pos ⟨hstate, hlive⟩]

theorem State.settleJob_continues (hj : p.job = some j) (hb : s.job j = some b) (hc : ¬Completes k b) (he : ¬Empties b) :
    s.settleJob k p = (s.setJob j (some (b.settled k))).settleCopy k p b := by
  simp only [State.settleJob, hj, hb]
  rw [if_neg, if_neg]
  · rw [b.settled_eq]
    exact fun h => he ⟨h.1, Nat.sub_eq_zero_iff_le.1 h.2⟩
  · rintro ⟨rfl, hrunning, hordered⟩
    exact hc ⟨rfl, hrunning, hordered⟩

theorem State.setJob_setJob (s : State) (j : JobSlot) (b c : Option Job) :
    (s.jobs.set j b).set j c = s.jobs.set j c := by
  refine Vector.ext fun i hi => ?_
  simp only [Vector.getElem_set]
  split <;> rfl

/-- R33 to R37: the job after the retirement of one of its pieces. -/
theorem State.jobs_settleJob (hj : p.job = some j) (hb : s.job j = some b) :
    (Completes k b → (s.settleJob k p).jobs = s.jobs.set j (some { b.settled k with state := .complete }) ∧
      (s.settleJob k p).flags = s.flags ||| 0x001) ∧
    (Empties b → (s.settleJob k p).jobs = s.jobs.set j none ∧ (s.settleJob k p).flags = s.flags) ∧
    (¬Completes k b → ¬Empties b →
      (s.settleJob k p).jobs = s.jobs.set j (some (b.settled k)) ∧ (s.settleJob k p).flags = s.flags) := by
  refine ⟨fun h => ?_, fun h => ?_, fun hc he => ?_⟩
  · rw [State.settleJob_completes hj hb h]
    refine ⟨?_, by simp [State.completeJob, Attention.bit]⟩
    simp only [State.completeJob, State.raise_jobs, State.setJob_jobs, State.settleCopy_jobs]
    exact s.setJob_setJob j _ _
  · rw [State.settleJob_empties hj hb h, State.emptyJob_frame]
    refine ⟨?_, by simp⟩
    simp only [State.setJob_jobs, State.settleCopy_jobs]
    exact s.setJob_setJob j _ _
  · rw [State.settleJob_continues hj hb hc he]
    exact ⟨by simp, by simp⟩

/-! ### The copy entry (R76) -/

theorem Retirement.copyState_eq (k : Retirement) (v : Bool) : k.copyState v =
    if k = .delivered then (if v = true then .delivered else .deliveredUnverified) else .spoiled := by
  cases k <;> cases v <;> rfl

theorem State.settleCopy_unnumbered (hn : b.numbered = none) : s.settleCopy k p b = s := by
  simp only [State.settleCopy, hn]

theorem State.settleCopy_clean {n : Numbering} {c : Nat} (hn : b.numbered = some n) (hc : p.copy = some c) (hlow : n.first ≤ c)
    (hhigh : c ≤ n.last) (hclean : p.faults &&& 0x000C = 0) : (s.settleCopy k p b).copyTables =
      s.copyTables.set n.table ((s.copyTables[n.table]).set (c - n.first) (k.copyState p.copyVerified)) := by
  simp only [State.settleCopy, hn, hc, if_pos ((FaultSet.cleanCopy_iff _).2 hclean), State.setCopyEntry,
    if_pos (And.intro hlow hhigh)]

theorem State.settleCopy_other {n : Numbering} (hn : b.numbered = some n)
    (h : ∀ c, p.copy = some c → c < n.first ∨ n.last < c ∨ p.faults &&& 0x000C ≠ 0) : s.settleCopy k p b = s := by
  unfold State.settleCopy State.setCopyEntry
  rw [hn]
  cases hc : p.copy with
  | none => rfl
  | some c =>
    rcases h c hc with h | h | h
    · simp only [show ¬(n.first ≤ c ∧ c ≤ n.last) by omega, if_false, ite_self]
    · simp only [show ¬(n.first ≤ c ∧ c ≤ n.last) by omega, if_false, ite_self]
    · exact if_neg fun hclean => h ((FaultSet.cleanCopy_iff _).1 hclean)

theorem State.copyTables_settleJob (hj : p.job = some j) (hb : s.job j = some b) :
    (b.numbered = none → (s.settleJob k p).copyTables = s.copyTables) ∧
    ∀ n, b.numbered = some n →
      (Empties b → (s.settleJob k p).copyTables = s.copyTables.set n.table []) ∧
      (¬Empties b → (s.settleJob k p).copyTables = (s.settleCopy k p b).copyTables) := by
  have hcopy : ((s.setJob j (some (b.settled k))).settleCopy k p b).copyTables = (s.settleCopy k p b).copyTables :=
    settleCopy_congr (s := s) (u := s.setJob j (some (b.settled k))) rfl k p b
  have hkeep : ¬Empties b → (s.settleJob k p).copyTables = (s.settleCopy k p b).copyTables := fun he => by
    by_cases hc : Completes k b
    · rw [State.settleJob_completes hj hb hc, State.completeJob_copyTables, hcopy]
    · rw [State.settleJob_continues hj hb hc he, hcopy]
  have hnumbered : (b.settled k).numbered = b.numbered := by rw [b.settled_eq]
  refine ⟨fun hn => ?_, fun n hn => ⟨fun he => ?_, hkeep⟩⟩
  · by_cases he : Empties b
    · rw [State.settleJob_empties hj hb he]
      simp only [State.emptyJob, hnumbered, hn, State.setJob_copyTables, State.settleCopy_unnumbered hn]
    · rw [hkeep he, State.settleCopy_unnumbered hn]
  · rw [State.settleJob_empties hj hb he]
    simp only [State.emptyJob, hnumbered, hn, hcopy]
    refine Vector.ext fun i hi => ?_
    by_cases hi' : n.table.val = i
    · simp only [Vector.getElem_set, if_pos hi']
    · simp only [Vector.getElem_set, if_neg hi']
      by_cases hother : ∀ c, p.copy = some c → c < n.first ∨ n.last < c ∨ p.faults &&& 0x000C ≠ 0
      · rw [State.settleCopy_other hn hother]
      · push Not at hother
        obtain ⟨c, hc, hlow, hhigh, hclean⟩ := hother
        rw [State.settleCopy_clean hn hc hlow hhigh hclean, Vector.getElem_set, if_neg hi']

/-! ### The retirement as a whole -/

/-- R155: what the books show after a retirement rests on the books alone. -/
theorem State.settleJob_congr {s u : State} (hjobs : u.jobs = s.jobs) (htables : u.copyTables = s.copyTables)
    (k : Retirement) (p : Piece) : (u.settleJob k p).jobs = (s.settleJob k p).jobs ∧
      (u.settleJob k p).copyTables = (s.settleJob k p).copyTables ∧
      (u.flags = s.flags → (u.settleJob k p).flags = (s.settleJob k p).flags) := by
  have hjob : u.job = s.job := State.job_congr hjobs
  cases hb : p.job.bind s.job with
  | none =>
    rw [State.settleJob_jobless k hb, State.settleJob_jobless k (by rw [hjob]; exact hb)]
    exact ⟨hjobs, htables, id⟩
  | some b =>
    obtain ⟨j, hj, hb⟩ := Option.bind_eq_some_iff.1 hb
    have hb' : u.job j = some b := by rw [hjob]; exact hb
    obtain ⟨hdone, hempty, hstays⟩ := State.jobs_settleJob (k := k) hj hb
    obtain ⟨hdone', hempty', hstays'⟩ := State.jobs_settleJob (k := k) hj hb'
    obtain ⟨hplain, hnumbered⟩ := State.copyTables_settleJob (k := k) hj hb
    obtain ⟨hplain', hnumbered'⟩ := State.copyTables_settleJob (k := k) hj hb'
    have hcopies : (u.settleJob k p).copyTables = (s.settleJob k p).copyTables := by
      cases hn : b.numbered with
      | none => rw [hplain hn, hplain' hn, htables]
      | some n =>
        by_cases he : Empties b
        · rw [(hnumbered n hn).1 he, (hnumbered' n hn).1 he, htables]
        · rw [(hnumbered n hn).2 he, (hnumbered' n hn).2 he, settleCopy_congr htables]
    by_cases hc : Completes k b
    · obtain ⟨h1, h2⟩ := hdone hc
      obtain ⟨h1', h2'⟩ := hdone' hc
      exact ⟨by rw [h1, h1', hjobs], hcopies, fun hflags => by rw [h2, h2', hflags]⟩
    · by_cases he : Empties b
      · obtain ⟨h1, h2⟩ := hempty he
        obtain ⟨h1', h2'⟩ := hempty' he
        exact ⟨by rw [h1, h1', hjobs], hcopies, fun hflags => by rw [h2, h2', hflags]⟩
      · obtain ⟨h1, h2⟩ := hstays hc he
        obtain ⟨h1', h2'⟩ := hstays' hc he
        exact ⟨by rw [h1, h1', hjobs], hcopies, fun hflags => by rw [h2, h2', hflags]⟩

/-- R18, R155: the books after a retirement are those of the settled job. -/
theorem State.retire_settled {t : Tag} (k : Retirement) (hp : s.piece t = some p) :
    (s.retire k t).jobs = (s.settleJob k p).jobs ∧ (s.retire k t).copyTables = (s.settleJob k p).copyTables ∧
      (s.retire k t).flags = (s.settleJob k p).flags := by
  rw [State.retire_some k hp, State.retirePulse_frame]
  obtain ⟨hjobs, htables, hflags⟩ := State.settleJob_congr (s := s) (u := s.takeOut t) rfl rfl k p
  exact ⟨hjobs, htables, hflags rfl⟩

theorem Order.spares_singleton (t : Tag) : (Order.spares [t]) = fun o => decide (gateTag o ≠ some t) := by
  funext o
  cases o <;> simp [Order.spares, gateTag]

theorem filter_notMem_singleton (t : Tag) (o : Option Tag) :
    o.filter (· ∉ [t]) = if o = some t then none else o := (emptyOf_eq_filter t o).symm

/-- Settles O45. -/
theorem retirementSettlesPiece : Obligations.RetirementSettlesPiece := by
  intro s k t p hp
  have hr := Removed.retire s k t
  obtain ⟨hjobs, htables, hflags⟩ := State.retire_settled k hp
  refine ⟨_, rfl, ?_, State.freeCount_retire k hp, fun i => ?_, fun a => ?_, fun l => ?_, fun hjobless => ?_,
    fun j b b' hj hb hb' => ?_⟩
  · have hframe := s.retire_frame k t
    have hpool : (s.retire k t).pool = s.pool.set t none := by
      rw [State.retire_some k hp, State.retirePulse_frame, State.settleJob_frame]
      rfl
    have hpositions := congrArg Press.positions (s.retire_press k t)
    have hstations : (s.retire k t).stations = (s.takeOut t).stations := by rw [hframe]
    refine hframe.trans ?_
    rw [hpool, hstations]
    dsimp only at hpositions
    rw [hpositions]
    rfl
  · rw [hr.positions, filter_notMem_singleton]
  · rw [hr.station, Order.spares_singleton]
  · rw [State.lamps_retire k hp]
    exact State.lamp_retirePulse _ _ _
  · rw [hjobs, htables, hflags, State.settleJob_jobless k hjobless]
    exact ⟨rfl, rfl, rfl⟩
  · rw [← b.settled_eq] at hb'
    subst hb'
    rw [hjobs, htables, hflags]
    obtain ⟨hdone, hempty, hstays⟩ := State.jobs_settleJob (k := k) hj hb
    obtain ⟨hplain, hnumbered⟩ := State.copyTables_settleJob (k := k) hj hb
    refine ⟨hdone, hempty, hstays, hplain, fun n hn => ?_⟩
    obtain ⟨he, hkept⟩ := hnumbered n hn
    refine ⟨he, fun hne => ⟨fun c hc hlow hhigh hclean => ?_, fun hother => ?_⟩⟩
    · rw [hkept hne, State.settleCopy_clean hn hc hlow hhigh hclean, Retirement.copyState_eq]
    · rw [hkept hne, State.settleCopy_other hn hother]

end Sys2Proof.Machine
end

section
/-! SUPPORT. Zone modes (R41, R42, R46), and what entry into RESET retires (R19, R43). -/

namespace Sys2Proof.Machine

open Sys2Proof.Safety

/-! ### SET_ZONE and SET_ZONE_MODE -/

theorem conveyorZoneOf_eq {b : Byte} {z : ConveyorZone}
    (h : (b.toNat, z) ∈ [(1, ConveyorZone.z1), (2, .z2), (4, .z4), (5, .z5)]) : conveyorZoneOf b = some z := by
  simp only [List.mem_cons, Prod.mk.injEq, List.not_mem_nil, or_false] at h
  rcases h with ⟨h, rfl⟩ | ⟨h, rfl⟩ | ⟨h, rfl⟩ | ⟨h, rfl⟩ <;> simp [conveyorZoneOf, h]

theorem conveyorZoneOf_none {b : Byte} (h : ∀ z ∈ [1, 2, 4, 5], b.toNat ≠ z) : conveyorZoneOf b = none := by
  simp only [List.mem_cons, List.not_mem_nil, or_false, forall_eq_or_imp, forall_eq] at h
  unfold conveyorZoneOf
  split <;> simp_all

theorem zoneOf_eq {b : Byte} {z : Zone}
    (h : (b.toNat, z) ∈ [(1, Zone.z1), (2, .z2), (3, .z3), (4, .z4), (5, .z5)]) : zoneOf b = some z := by
  simp only [List.mem_cons, Prod.mk.injEq, List.not_mem_nil, or_false] at h
  rcases h with ⟨h, rfl⟩ | ⟨h, rfl⟩ | ⟨h, rfl⟩ | ⟨h, rfl⟩ | ⟨h, rfl⟩ <;> simp [zoneOf, h]

theorem zoneOf_none {b : Byte} (h : b.toNat < 1 ∨ 5 < b.toNat) : zoneOf b = none := by
  unfold zoneOf
  split <;> first | rfl | omega

theorem modeOf_eq {b : Byte} {m : ZoneMode} (h : (b.toNat, m) ∈ [(0, ZoneMode.run), (1, .halt), (2, .reset)]) :
    modeOf b = some m := by
  simp only [List.mem_cons, Prod.mk.injEq, List.not_mem_nil, or_false] at h
  rcases h with ⟨h, rfl⟩ | ⟨h, rfl⟩ | ⟨h, rfl⟩ <;> simp [modeOf, h]

theorem modeOf_none {b : Byte} (h : 2 < b.toNat) : modeOf b = none := by
  unfold modeOf
  split <;> first | rfl | omega

theorem legalLength_iff {length window : Nat} : legalLength length window = true ↔
    (400 ≤ length ∧ length ≤ 30000) ∧ (40 ≤ window ∧ window ≤ 2000) ∧ length + window ≤ 32000 := by
  simp only [legalLength, Bool.and_eq_true, within_iff, decide_eq_true_eq, and_assoc]

theorem State.holdOutput_iff (s : State) (z : Zone) : s.holdOutput z = true ↔ s.mode z ≠ .run := bne_iff_ne

theorem State.setZoneMode_eq {zone mode : Byte} {z : Zone} {m : ZoneMode} (s : State) (hz : zoneOf zone = some z)
    (hm : modeOf mode = some m) : s.setZoneMode zone mode = (.ok [], s.changeMode z m) := by
  simp only [State.setZoneMode, hz, hm]

/-- Settles O38. -/
theorem setZoneAndModes : Obligations.SetZoneAndModes := by
  refine ⟨fun s m => ⟨⟨rfl, rfl⟩, ⟨rfl, rfl⟩, ⟨rfl, rfl⟩, ⟨rfl, rfl⟩, ⟨rfl, rfl⟩⟩,
    fun s c => ⟨⟨rfl, rfl⟩, ⟨rfl, rfl⟩, ⟨rfl, rfl⟩, ⟨rfl, rfl⟩⟩, fun s z => s.holdOutput_iff z,
    fun s hs => ⟨fun zone length window hbad => next_command hs ?_, fun zone z length window hz h1 h2 h3 h4 h5 => ?_,
      fun zone mode hbad => next_command hs ?_, fun zone mode z m hz hm => ⟨fun he => next_command hs ?_,
        fun hne hm' => next_command hs ?_, fun hne hm' => next_command hs ?_⟩⟩⟩
  · unfold State.setZone
    cases hz : conveyorZoneOf zone with
    | none => rfl
    | some z =>
      refine if_neg fun hlegal => ?_
      obtain ⟨hlength, hwindow, hsum⟩ := legalLength_iff.1 hlegal
      rcases hbad with h | h
      · cases hz.symm.trans (conveyorZoneOf_none h)
      · omega
  · have hset : s.setZone zone length window =
        if (s.conveyor z).mode = .reset then
          (.ok [], s.setConveyor z { s.conveyor z with length := length.toNat, window := window.toNat })
        else (.refuse .wrongState, s) := by
      simp only [State.setZone, conveyorZoneOf_eq hz, legalLength_iff.2 ⟨⟨h1, h2⟩, ⟨h3, h4⟩, h5⟩, if_true]
    split
    · next hr => exact next_command hs (hset.trans (if_pos hr))
    · next hr => exact next_command hs (hset.trans (if_neg hr))
  · unfold State.setZoneMode
    split
    · next hz hm =>
      rcases hbad with h | h | h
      · cases hz.symm.trans (zoneOf_none (.inl h))
      · cases hz.symm.trans (zoneOf_none (.inr h))
      · cases hm.symm.trans (modeOf_none h)
    · rfl
  · rw [s.setZoneMode_eq (zoneOf_eq hz) (modeOf_eq hm)]
    exact congrArg (Reply.ok [], ·) (if_pos he)
  · rw [s.setZoneMode_eq (zoneOf_eq hz) (modeOf_eq hm)]
    refine congrArg (Reply.ok [], ·) ((if_neg hne).trans ?_)
    cases m with
    | reset => exact absurd rfl hm'
    | run => rfl
    | halt => rfl
  · subst hm'
    rw [s.setZoneMode_eq (zoneOf_eq hz) (modeOf_eq hm)]
    exact congrArg (Reply.ok [], ·) (if_neg hne)

/-! ### Spoiled retirements (R19, R34, R37) -/

/-- R34, R37: a spoiled retirement of a piece of a job, in the job's slot. -/
theorem State.job_retire_spoiled (s : State) (t : Tag) (j : JobSlot) : (s.retire .spoiled t).job j =
    spoiledBy (if (s.piece t).bind Piece.job = some j then 1 else 0) (s.job j) := by
  cases hp : s.piece t with
  | none =>
    have hjobs : (s.retire .spoiled t).jobs = s.jobs := by
      simp only [State.retire, hp]
      rfl
    simp [State.job_congr hjobs]
  | some p =>
    obtain ⟨hjobs, -, -⟩ := State.retire_settled .spoiled hp
    rw [State.job_congr hjobs, Option.bind_some]
    cases hb : p.job.bind s.job with
    | none =>
      rw [State.settleJob_jobless _ hb]
      split
      · next hj =>
        rw [hj] at hb
        have hb' : s.job j = none := hb
        rw [hb', spoiledBy_none]
      · rw [spoiledBy_zero]
    | some b =>
      obtain ⟨i, hi, hb⟩ := Option.bind_eq_some_iff.1 hb
      obtain ⟨-, hempty, hstays⟩ := State.jobs_settleJob (k := .spoiled) hi hb
      have hc : ¬Completes .spoiled b := fun h => by cases h.1
      rw [hi]
      have hset : ∀ (x : Option Job), (s.settleJob .spoiled p).jobs = s.jobs.set i x →
          (s.settleJob .spoiled p).job j = if j = i then x else s.job j := fun x hx => by
        rw [State.job_congr (hx.trans (State.setJob_jobs s i x).symm), State.job_setJob]
      by_cases hij : j = i
      · subst hij
        rw [if_pos rfl, hb]
        by_cases he : Empties b
        · rw [hset _ (hempty he).1, if_pos rfl]
          exact (if_pos he).symm
        · rw [hset _ (hstays hc he).1, if_pos rfl]
          exact (if_neg he).symm
      · rw [if_neg fun e => hij (Option.some.inj e).symm, spoiledBy_zero]
        by_cases he : Empties b
        · rw [hset _ (hempty he).1, if_neg hij]
        · rw [hset _ (hstays hc he).1, if_neg hij]

/-- R19, R34, R37: each job loses its pieces of the list. -/
theorem State.job_retireAll_spoiled (ts : List Tag) (s : State) (hts : ts.Nodup) (j : JobSlot) :
    (s.retireAll .spoiled ts).job j =
      spoiledBy (ts.filter fun u => (s.piece u).bind Piece.job = some j).length (s.job j) := by
  induction ts generalizing s with
  | nil => simp [State.retireAll]
  | cons t ts ih =>
    obtain ⟨ht, hts⟩ := List.nodup_cons.1 hts
    have hrest : ts.filter (fun u => ((s.retire .spoiled t).piece u).bind Piece.job = some j) =
        ts.filter fun u => (s.piece u).bind Piece.job = some j := by
      refine List.filter_congr fun u hu => ?_
      have hne : u ≠ t := by
        rintro rfl
        exact ht hu
      rw [State.piece_retire, if_neg hne]
    have hstep : s.retireAll .spoiled (t :: ts) = (s.retire .spoiled t).retireAll .spoiled ts := rfl
    rw [hstep, ih _ hts, hrest, State.job_retire_spoiled, List.filter_cons]
    by_cases hj : (s.piece t).bind Piece.job = some j
    · rw [if_pos hj, if_pos (by simpa using hj), List.length_cons, ← spoiledBy_succ]
    · rw [if_neg hj, if_neg (by simpa using hj), spoiledBy_zero]

theorem State.retireAll_spoiled_outputs (ts : List Tag) (s : State) :
    (s.retireAll .spoiled ts).flags = s.flags ∧ (s.retireAll .spoiled ts).lamps = s.lamps := by
  induction ts generalizing s with
  | nil => exact ⟨rfl, rfl⟩
  | cons t ts ih =>
    obtain ⟨hflags, hlamps⟩ := ih (s.retire .spoiled t)
    exact ⟨hflags.trans (s.retire_spoiled_flags t), hlamps.trans (s.retire_spoiled_lamps t)⟩

/-! ### The pieces of a zone -/

theorem toList_filter_option {α : Type} (q : α → Bool) (o : Option α) : (o.filter q).toList = o.toList.filter q := by
  cases o with
  | none => rfl
  | some a => cases h : q a <;> simp [Option.filter, h]

theorem filterMap_id_filter {α : Type} (q : α → Bool) (l : List (Option α)) :
    (l.map (Option.filter q)).filterMap id = (l.filterMap id).filter q := by
  induction l with
  | nil => rfl
  | cons o l ih =>
    have hempty : ∀ l' : List (Option α), (none :: l').filterMap id = l'.filterMap id := fun _ => rfl
    cases o with
    | none => exact ih
    | some a =>
      have hheld : ∀ l', (some a :: l').filterMap id = a :: l'.filterMap id := fun _ => rfl
      rw [List.map_cons, hheld, List.filter_cons]
      by_cases h : q a = true
      · rw [Option.filter_some_pos h, hheld, ih, if_pos h]
      · rw [Option.filter_some_neg (Bool.eq_false_of_not_eq_true h), hempty, ih, if_neg h]

/-- R43: what is left in a zone's places when pieces have gone. -/
theorem Removed.piecesOf {ts : List Tag} {s t : State} (h : Removed ts s t) (z : Zone) :
    t.piecesOf z = (s.piecesOf z).filter (· ∉ ts) := by
  have hpositions : t.press.positions.toList = s.press.positions.toList.map (Option.filter (· ∉ ts)) := by
    refine List.ext_getElem (by simp) fun i hi hi' => ?_
    simpa using h.positions ⟨i, by simpa using hi⟩
  have hq1 : t.z1.queue = s.z1.queue.filter (· ∉ ts) := h.queue .z1
  have hq2 : t.z2.queue = s.z2.queue.filter (· ∉ ts) := h.queue .z2
  have hq4 : t.z4.queue = s.z4.queue.filter (· ∉ ts) := h.queue .z4
  have hq5 : t.z5.queue = s.z5.queue.filter (· ∉ ts) := h.queue .z5
  cases z <;> simp only [State.piecesOf, hq1, hq2, hq4, hq5, h.casing, h.pressEntry, h.jacketing, h.gateQueue,
    hpositions, toList_filter_option, filterMap_id_filter, List.filter_append]

theorem State.piecesOf_setMode (s : State) (z : Zone) (m : ZoneMode) : (s.setMode z m).piecesOf = s.piecesOf := by
  funext y
  cases z <;> cases y <;> rfl

/-- R13: a piece stands in the places of one zone. -/
theorem PlacesAgree.notMem_piecesOf {s : State} (hs : PlacesAgree s) {y z : Zone} (hyz : y ≠ z) {u : Tag}
    (hu : u ∈ s.piecesOf y) : u ∉ s.piecesOf z := fun hz => by
  obtain ⟨pl, hpl, hin⟩ := mem_piecesOf.1 hu
  obtain ⟨ql, hql, hin'⟩ := mem_piecesOf.1 hz
  have he := eq_of_mem_occupants (PlaceAgrees.timesPlaced_le (hs u)) hin hin'
  subst he
  exact hyz (Option.some.inj (hpl.symm.trans hql))

theorem PlacesAgree.notMem_lost {s : State} (hs : PlacesAgree s) {z : Zone} {u : Tag} (hu : u ∈ s.lost) :
    u ∉ s.piecesOf z := fun hz => by
  obtain ⟨pl, hpl, hin⟩ := mem_piecesOf.1 hz
  have hlost : u ∈ s.occupants .lost := hu
  have he := eq_of_mem_occupants (PlaceAgrees.timesPlaced_le (hs u)) hlost hin
  subst he
  cases hpl

/-- R13: no piece stands twice in a zone's places. -/
theorem nodup_of_count {l : List Tag} {s : State} (hs : PlacesAgree s) (h : ∀ u, l.count u ≤ timesPlaced s u) : l.Nodup :=
  List.nodup_iff_count_le_one.2 fun u => (h u).trans (PlaceAgrees.timesPlaced_le (hs u))

theorem PlacesAgree.nodup_piecesOf {s : State} (hs : PlacesAgree s) (z : Zone) : (s.piecesOf z).Nodup := by
  refine nodup_of_count hs fun u => ?_
  cases z <;> simp only [State.piecesOf, timesPlaced, List.count_append] <;> omega

end Sys2Proof.Machine
end

section
/-! SUPPORT. Entry of a zone into RESET (R19, R43, R127, R130, R154, R175). -/

namespace Sys2Proof.Machine

open Sys2Proof.Safety

/-- R43: the retirements that entry into RESET makes. -/
def State.spoilZone (s : State) (z : Zone) : State := (s.setMode z .reset).retireAll .spoiled (s.piecesOf z)

/-- R43, R127, R130, R154: entry into RESET beside its retirements. -/
theorem State.enterReset_eq {s : State} {z : Zone} (hz : s.mode z ≠ .reset) : s.enterReset z = { s.spoilZone z with
    press := { (s.spoilZone z).press with
      overdwellTimer := if z = .z3 then none else (s.spoilZone z).press.overdwellTimer
      overdwellDeferred := if z = .z3 then false else (s.spoilZone z).press.overdwellDeferred }
    casingMismatch := if z = .z1 then 0 else (s.spoilZone z).casingMismatch
    jacketingMismatch := if z = .z4 then 0 else (s.spoilZone z).jacketingMismatch
    stations := if z = .z5 then ((s.spoilZone z).withdrawGateOrders fun _ _ => true).stations
      else (s.spoilZone z).stations } := by
  rw [State.enterReset, if_neg hz]
  unfold State.spoilZone
  generalize (s.setMode z .reset).retireAll .spoiled (s.piecesOf z) = w
  cases z <;> rfl

theorem State.removed_spoilZone (s : State) (z : Zone) :
    Removed (s.piecesOf z) (s.setMode z .reset) (s.spoilZone z) := Removed.retireAll _ _ _

theorem State.piece_setMode (s : State) (z : Zone) (m : ZoneMode) : (s.setMode z m).piece = s.piece :=
  State.piece_congr (s.setMode_pool z m)

theorem State.station_withdrawGateOrders (s : State) (which : Disposition → Tag → Bool) (a : Address) :
    (s.withdrawGateOrders which).station a = { s.station a with orders := (s.station a).orders.filter fun
      | .gate o t => !which o t
      | .jawRelease => true } := by
  simp only [State.station, State.withdrawGateOrders, Fin.getElem_fin, Vector.getElem_map] <;> rfl

/-- R43: what entry into RESET does to places and modes. -/
structure Cleared (z : Zone) (s t : State) : Prop where
  piece : ∀ u, t.piece u = if u ∈ s.piecesOf z then none else s.piece u
  mode : ∀ y, t.mode y = if y = z then .reset else s.mode y
  places : ∀ y, t.piecesOf y = (s.piecesOf y).filter (· ∉ s.piecesOf z)
  conveyor : ∀ c, t.conveyor c = { s.conveyor c with mode := (t.conveyor c).mode, queue := (t.conveyor c).queue }
  press : t.press = { s.press with
    positions := t.press.positions
    overdwellTimer := if z = .z3 then none else s.press.overdwellTimer
    overdwellDeferred := if z = .z3 then false else s.press.overdwellDeferred }
  casingMismatch : t.casingMismatch = if z = .z1 then 0 else s.casingMismatch
  jacketingMismatch : t.jacketingMismatch = if z = .z4 then 0 else s.jacketingMismatch
  station : ∀ a, t.station a = { s.station a with
    orders := (s.station a).orders.filter fun o =>
      match o with
      | .gate _ u => decide (z ≠ .z5 ∧ u ∉ s.piecesOf z)
      | .jawRelease => true }
  lost : t.lost = s.lost.filter (· ∉ s.piecesOf z)
  frame : t = { s with
    pool := t.pool
    jobs := t.jobs
    copyTables := t.copyTables
    press := t.press
    z1 := t.z1
    z2 := t.z2
    z4 := t.z4
    z5 := t.z5
    z3Mode := t.z3Mode
    casing := t.casing
    pressEntry := t.pressEntry
    jacketing := t.jacketing
    lost := t.lost
    casingMismatch := t.casingMismatch
    jacketingMismatch := t.jacketingMismatch
    gateQueue := t.gateQueue
    stations := t.stations }

theorem State.cleared_enterReset {s : State} {z : Zone} (hz : s.mode z ≠ .reset) : Cleared z s (s.enterReset z) := by
  have hr := s.removed_spoilZone z
  have hframe := hr.frame
  obtain ⟨hflags, hlamps⟩ := State.retireAll_spoiled_outputs (s.piecesOf z) (s.setMode z .reset)
  change (s.spoilZone z).flags = _ at hflags
  change (s.spoilZone z).lamps = _ at hlamps
  rw [State.enterReset_eq hz]
  generalize s.spoilZone z = w at *
  refine ⟨fun u => ?_, fun y => ?_, fun y => ?_, fun c => ?_, ?_, ?_, ?_, fun a => ?_, ?_, ?_⟩
  · exact (hr.piece u).trans (by rw [State.piece_setMode])
  · have hmode : w.mode y = (s.setMode z .reset).mode y := by
      rw [hframe]
      cases y <;> rfl
    rw [← State.mode_setMode, ← hmode]
    cases y <;> rfl
  · have hw := hr.piecesOf y
    rw [State.piecesOf_setMode] at hw
    rw [← hw]
    cases y <;> rfl
  · rw [hframe]
    cases z <;> cases c <;> rfl
  · rw [hframe]
    simp
  · rw [hframe]
    simp
  · rw [hframe]
    simp
  · have hstation : w.station a = { s.station a with
        orders := (s.station a).orders.filter (Order.spares (s.piecesOf z)) } := by
      rw [hr.station, State.station_congr (s.setMode_stations z .reset)]
    by_cases h5 : z = .z5
    · have hwithdrawn : (if z = .z5 then (w.withdrawGateOrders fun _ _ => true).stations else w.stations) =
          (w.withdrawGateOrders fun _ _ => true).stations := if_pos h5
      rw [hwithdrawn]
      refine (w.station_withdrawGateOrders _ a).trans ?_
      rw [hstation]
      dsimp only
      rw [List.filter_filter]
      refine congrArg (fun l => ({ s.station a with orders := l } : Station)) (List.filter_congr fun o _ => ?_)
      cases o <;> simp [h5]
    · have hkept : (if z = .z5 then (w.withdrawGateOrders fun _ _ => true).stations else w.stations) = w.stations :=
        if_neg h5
      rw [hkept]
      refine hstation.trans ?_
      refine congrArg (fun l => ({ s.station a with orders := l } : Station)) (List.filter_congr fun o _ => ?_)
      cases o <;> simp [h5]
  · exact hr.lost.trans (by simp)
  · rw [hflags, hlamps] at hframe
    rw [hframe]
    cases z <;> rfl

theorem Cleared.empty {z : Zone} {s t : State} (h : Cleared z s t) : t.piecesOf z = [] := by
  rw [h.places]
  exact List.filter_eq_nil_iff.2 fun u hu => by simpa using hu

/-- R13, R43: the other zones keep their pieces. -/
theorem Cleared.others {z y : Zone} {s t : State} (h : Cleared z s t) (hs : PlacesAgree s) (hy : y ≠ z) :
    t.piecesOf y = s.piecesOf y := by
  rw [h.places]
  exact List.filter_eq_self.2 fun u hu => by simpa using PlacesAgree.notMem_piecesOf hs hy hu

theorem Cleared.lostSet {z : Zone} {s t : State} (h : Cleared z s t) (hs : PlacesAgree s) : t.lost = s.lost := by
  rw [h.lost]
  exact List.filter_eq_self.2 fun u hu => by simpa using PlacesAgree.notMem_lost hs hu

/-- Settles O39. -/
theorem zoneResetSpoilsItsPieces : Obligations.ZoneResetSpoilsItsPieces := by
  refine ⟨fun s => ⟨rfl, rfl, rfl, rfl, rfl⟩, fun z s hs hz => ?_⟩
  have hc := State.cleared_enterReset hz
  have hjobs : (s.enterReset z).jobs = (s.spoilZone z).jobs := by rw [State.enterReset_eq hz]
  have htables : (s.enterReset z).copyTables = (s.spoilZone z).copyTables := by rw [State.enterReset_eq hz]
  have hmode : (s.enterReset z).mode z = .reset := (hc.mode z).trans (if_pos rfl)
  refine ⟨_, s.spoilZone z, rfl, rfl, hjobs, htables, fun j => ?_, hmode, ?_, hc.empty, fun y hy =>
    ⟨(hc.mode y).trans (if_neg hy), hc.others hs hy⟩, hc.piece, hc.conveyor, hc.press, hc.casingMismatch,
    hc.jacketingMismatch, hc.station, ?_⟩
  · rw [State.job_congr hjobs]
    refine (State.job_retireAll_spoiled _ _ (PlacesAgree.nodup_piecesOf hs z) j).trans ?_
    rw [State.piece_setMode, State.job_congr (s.setMode_jobs z .reset)]
  · rw [State.holdOutput_iff, hmode]
    decide
  · have hframe := hc.frame
    rw [hc.lostSet hs] at hframe
    exact hframe

end Sys2Proof.Machine
end

section
/-! SUPPORT. LINE_CLEAR (R63): every zone enters RESET, and the lost set goes with the pieces of the line. -/

namespace Sys2Proof.Machine

open Sys2Proof.Safety

/-! ### The books of several retirements -/

/-- The records, the jobs and the copy tables are the same. -/
def SameRecords (s u : State) : Prop := u.pool = s.pool ∧ u.jobs = s.jobs ∧ u.copyTables = s.copyTables

theorem SameRecords.retire {s u : State} (h : SameRecords s u) (k : Retirement) (t : Tag) :
    SameRecords (s.retire k t) (u.retire k t) := by
  obtain ⟨hpool, hjobs, htables⟩ := h
  have hpiece : u.piece = s.piece := State.piece_congr hpool
  cases hp : s.piece t with
  | none =>
    simp only [State.retire, hp, hpiece]
    exact ⟨hpool, hjobs, htables⟩
  | some p =>
    have hp' : u.piece t = some p := by rw [hpiece, hp]
    obtain ⟨h1, h2, -⟩ := State.retire_settled k hp
    obtain ⟨h1', h2', -⟩ := State.retire_settled k hp'
    obtain ⟨hj, ht, -⟩ := State.settleJob_congr hjobs htables k p
    refine ⟨?_, by rw [h1, h1', hj], by rw [h2, h2', ht]⟩
    simp [State.retire_some k hp, State.retire_some k hp', hpool]

theorem SameRecords.retireAll {s u : State} (h : SameRecords s u) (k : Retirement) (ts : List Tag) :
    SameRecords (s.retireAll k ts) (u.retireAll k ts) := by
  induction ts generalizing s u with
  | nil => exact h
  | cons t ts ih => exact ih (h.retire k t)

theorem State.retireAll_append (s : State) (k : Retirement) (ts us : List Tag) :
    s.retireAll k (ts ++ us) = (s.retireAll k ts).retireAll k us := List.foldl_append

/-! ### Every zone enters RESET -/

/-- R63: the line, when some of its zones have entered RESET. -/
structure LineCleared (zs : List Zone) (s u : State) : Prop where
  books : SameRecords (s.retireAll .spoiled (zs.flatMap s.piecesOf)) u
  mode : ∀ y, u.mode y = if y ∈ zs then .reset else s.mode y
  places : ∀ y, u.piecesOf y = if y ∈ zs then [] else s.piecesOf y
  conveyor : ∀ c, u.conveyor c = { s.conveyor c with mode := (u.conveyor c).mode, queue := (u.conveyor c).queue }
  press : u.press = { s.press with
    positions := u.press.positions
    overdwellTimer := u.press.overdwellTimer
    overdwellDeferred := u.press.overdwellDeferred }
  lost : u.lost = s.lost
  station : ∀ a, u.station a = { s.station a with orders := (u.station a).orders }
  orders : ∀ a, (u.station a).orders.filter (fun o => decide (gateTag o = none)) =
    (s.station a).orders.filter fun o => decide (gateTag o = none)
  frame : u = { s with
    pool := u.pool
    jobs := u.jobs
    copyTables := u.copyTables
    press := u.press
    z1 := u.z1
    z2 := u.z2
    z4 := u.z4
    z5 := u.z5
    z3Mode := u.z3Mode
    casing := u.casing
    pressEntry := u.pressEntry
    jacketing := u.jacketing
    lost := u.lost
    casingMismatch := u.casingMismatch
    jacketingMismatch := u.jacketingMismatch
    gateQueue := u.gateQueue
    stations := u.stations }
  agree : PlacesAgree u
  rooms : ResetZonesEmpty u

theorem LineCleared.start {s : State} (hs : PlacesAgree s) (hr : ResetZonesEmpty s) : LineCleared [] s s where
  books := ⟨rfl, rfl, rfl⟩
  mode y := by simp
  places y := by simp
  conveyor _ := rfl
  press := rfl
  lost := rfl
  station _ := rfl
  orders _ := rfl
  frame := rfl
  agree := hs
  rooms := hr

theorem LineCleared.enterReset {zs : List Zone} {s u : State} (h : LineCleared zs s u) {z : Zone} (hz : z ∉ zs) :
    LineCleared (zs ++ [z]) s (u.enterReset z) := by
  have hhere : u.piecesOf z = s.piecesOf z := (h.places z).trans (if_neg hz)
  have hlist : (zs ++ [z]).flatMap s.piecesOf = zs.flatMap s.piecesOf ++ u.piecesOf z := by
    rw [List.flatMap_append, List.flatMap_singleton, hhere]
  have hmem : ∀ y, y ∈ zs ++ [z] ↔ y ∈ zs ∨ y = z := fun y => by simp
  by_cases hm : u.mode z = .reset
  · have hnone : u.piecesOf z = [] := h.rooms.1 z hm
    rw [hnone, List.append_nil] at hlist
    rw [State.enterReset, if_pos hm]
    refine { h with books := hlist ▸ h.books, mode := fun y => ?_, places := fun y => ?_ }
    · by_cases hy : y = z
      · rw [hy, hm, if_pos (by simp)]
      · rw [h.mode]
        exact if_congr (by simp [hy]) rfl rfl
    · by_cases hy : y = z
      · rw [hy, hnone, if_pos (by simp)]
      · rw [h.places]
        exact if_congr (by simp [hy]) rfl rfl
  · have hc := State.cleared_enterReset hm
    have hthin := ThinnedBy.enterReset u hm
    refine ⟨?_, fun y => ?_, fun y => ?_, fun c => ?_, ?_, (hc.lostSet h.agree).trans h.lost, fun a => ?_, fun a => ?_, ?_,
      (inHand_nil_iff _).1 (lineLaw_inHand.of_thinned ⟨_, hthin⟩ ((inHand_nil_iff u).2 h.agree)),
      ResetZonesEmpty.thinnedBy hthin h.rooms⟩
    · have hmode : SameRecords u (u.setMode z .reset) :=
        ⟨u.setMode_pool z _, u.setMode_jobs z _, u.setMode_copyTables z _⟩
      obtain ⟨h1, h2, h3⟩ := h.books.retireAll .spoiled (u.piecesOf z)
      obtain ⟨g1, g2, g3⟩ := hmode.retireAll .spoiled (u.piecesOf z)
      rw [hlist, State.retireAll_append, State.enterReset_eq hm]
      exact ⟨g1.trans h1, g2.trans h2, g3.trans h3⟩
    · rw [hc.mode, h.mode]
      by_cases hy : y = z
      · rw [if_pos hy, if_pos ((hmem y).2 (.inr hy))]
      · rw [if_neg hy]
        exact if_congr (by simp [hy]) rfl rfl
    · by_cases hy : y = z
      · rw [hy, hc.empty, if_pos (by simp)]
      · rw [hc.others h.agree hy, h.places]
        exact if_congr (by simp [hy]) rfl rfl
    · rw [hc.conveyor, h.conveyor]
    · rw [hc.press, h.press]
    · rw [hc.station, h.station]
    · rw [hc.station, ← h.orders, List.filter_filter]
      refine List.filter_congr fun o _ => ?_
      cases o <;> simp [gateTag]
    · have hframe := hc.frame
      clear hthin
      generalize u.enterReset z = t at hframe ⊢
      rw [h.frame] at hframe
      exact hframe

/-- R63: after LINE_CLEAR's first part every zone is in RESET and empty. -/
theorem State.lineCleared {s : State} (hs : PlacesAgree s) (hr : ResetZonesEmpty s) :
    LineCleared allZones s (allZones.foldl State.enterReset s) :=
  (((((LineCleared.start hs hr).enterReset (z := .z1) (by decide)).enterReset (z := .z2) (by decide)).enterReset
    (z := .z3) (by decide)).enterReset (z := .z4) (by decide)).enterReset (z := .z5) (by decide)

/-! ### All the pieces -/

/-- R13, R43: the pieces of the line and of the lost set. -/
def State.allPieces (s : State) : List Tag := allZones.flatMap s.piecesOf ++ s.lost

theorem PlacesAgree.nodup_allPieces {s : State} (hs : PlacesAgree s) : s.allPieces.Nodup := by
  refine nodup_of_count hs fun u => ?_
  simp only [State.allPieces, allZones, List.flatMap_cons, List.flatMap_nil, State.piecesOf, timesPlaced, List.count_append,
    List.count_nil]
  omega

theorem PlacesAgree.mem_allPieces {s : State} (hs : PlacesAgree s) (u : Tag) : u ∈ s.allPieces ↔ (s.piece u).isSome := by
  have hzones : ∀ z, z ∈ allZones := fun z => by cases z <;> decide
  constructor
  · intro hu
    obtain ⟨pl, hin⟩ : ∃ pl, u ∈ s.occupants pl := by
      rcases List.mem_append.1 hu with hu | hu
      · obtain ⟨z, -, hz⟩ := List.mem_flatMap.1 hu
        obtain ⟨pl, -, hin⟩ := mem_piecesOf.1 hz
        exact ⟨pl, hin⟩
      · exact ⟨.lost, hu⟩
    obtain ⟨p, hp, -⟩ := PlaceAgrees.isSome_of_mem (hs u) hin
    simp [hp]
  · intro hu
    obtain ⟨p, hp⟩ := Option.isSome_iff_exists.1 hu
    obtain ⟨-, hin, -⟩ := PlaceAgrees.elim (hs u) hp
    refine List.mem_append.2 ?_
    cases ho : p.place.owner with
    | none =>
      have hlost : p.place = .lost := by
        revert ho
        cases p.place <;> simp [Place.owner]
      rw [hlost] at hin
      exact .inr hin
    | some z => exact .inl (List.mem_flatMap.2 ⟨z, hzones z, mem_piecesOf.2 ⟨_, ho, hin⟩⟩)

theorem PlacesAgree.livePieces_eq {s : State} (hs : PlacesAgree s) (j : JobSlot) :
    (s.allPieces.filter fun u => (s.piece u).bind Piece.job = some j).length = livePieces s j := by
  rw [livePieces, List.countP_eq_length_filter]
  refine List.Perm.length_eq ((List.perm_ext_iff_of_nodup ((PlacesAgree.nodup_allPieces hs).filter _)
    ((List.nodup_finRange 96).filter _)).2 fun u => ?_)
  rw [List.mem_filter, List.mem_filter, PlacesAgree.mem_allPieces hs]
  cases s.piece u <;> simp

/-! ### LINE_CLEAR -/

/-- R63: after every zone has entered RESET and the lost set is retired, the line is empty. -/
theorem LineCleared.frame_emptied {s w v : State} (h : LineCleared allZones s w) (hr : Removed w.lost w v)
    (hflags : v.flags = w.flags) (hlamps : v.lamps = w.lamps) : v = { s with
      pool := v.pool
      jobs := v.jobs
      copyTables := v.copyTables
      press := v.press
      z1 := v.z1
      z2 := v.z2
      z4 := v.z4
      z5 := v.z5
      z3Mode := v.z3Mode
      casing := v.casing
      pressEntry := v.pressEntry
      jacketing := v.jacketing
      lost := v.lost
      casingMismatch := v.casingMismatch
      jacketingMismatch := v.jacketingMismatch
      gateQueue := v.gateQueue
      stations := v.stations } := by
  have hframe := hr.frame
  rw [hflags, hlamps] at hframe
  clear hr hflags hlamps
  rw [h.frame] at hframe
  rw [hframe]

theorem LineCleared.conveyor_emptied {s w v : State} (h : LineCleared allZones s w) (hr : Removed w.lost w v)
    (c : ConveyorZone) (hempty : (v.conveyor c).queue = []) :
    v.conveyor c = { s.conveyor c with mode := .reset, queue := [] } := by
  have hmode : (w.conveyor c).mode = .reset := by
    rw [← State.mode_conveyor, h.mode]
    cases c <;> rfl
  have hw := h.conveyor c
  rw [hmode] at hw
  have hv : v.conveyor c = { w.conveyor c with queue := (v.conveyor c).queue } := by
    rw [hr.frame]
    cases c <;> rfl
  rw [hv, hempty, hw]

/-- R63: the part when LINE_CLEAR's retirements are made. -/
structure LineEmptied (s v : State) : Prop where
  records : SameRecords (s.retireAll .spoiled s.allPieces) v
  piece : ∀ u, v.piece u = none
  mode : ∀ z, v.mode z = .reset
  places : ∀ z, v.piecesOf z = []
  lost : v.lost = []
  conveyor : ∀ c, v.conveyor c = { s.conveyor c with mode := .reset, queue := [] }
  press : v.press = { s.press with
    positions := v.press.positions
    overdwellTimer := v.press.overdwellTimer
    overdwellDeferred := v.press.overdwellDeferred }
  station : ∀ a, v.station a = { s.station a with orders := (s.station a).orders.filter fun o => gateTag o = none }
  frame : v = { s with
    pool := v.pool
    jobs := v.jobs
    copyTables := v.copyTables
    press := v.press
    z1 := v.z1
    z2 := v.z2
    z4 := v.z4
    z5 := v.z5
    z3Mode := v.z3Mode
    casing := none
    pressEntry := none
    jacketing := none
    lost := []
    casingMismatch := v.casingMismatch
    jacketingMismatch := v.jacketingMismatch
    gateQueue := []
    stations := v.stations }

theorem State.emptied {s : State} (hs : PlacesAgree s) (hr : ResetZonesEmpty s) :
    LineEmptied s ((allZones.foldl State.enterReset s).retireAll .spoiled (allZones.foldl State.enterReset s).lost) := by
  have h := State.lineCleared hs hr
  generalize allZones.foldl State.enterReset s = w at h
  have hremoved := Removed.retireAll w .spoiled w.lost
  obtain ⟨hflags, hlamps⟩ := State.retireAll_spoiled_outputs w.lost w
  have hrecords := h.books.retireAll .spoiled w.lost
  rw [← State.retireAll_append, h.lost] at hrecords
  change SameRecords (s.retireAll .spoiled s.allPieces) _ at hrecords
  have hframe := h.frame_emptied hremoved hflags hlamps
  rw [← h.lost] at hrecords
  generalize w.retireAll .spoiled w.lost = v at *
  have hzones : ∀ z, z ∈ allZones := fun z => by cases z <;> decide
  have hplaces : ∀ z, v.piecesOf z = [] := fun z => by
    rw [hremoved.piecesOf, h.places, if_pos (hzones z), List.filter_nil]
  have hqueue : ∀ c : ConveyorZone, (v.conveyor c).queue = [] := fun c => by
    cases c
    · exact (List.append_eq_nil_iff.1 (hplaces .z1)).1
    · exact (List.append_eq_nil_iff.1 (hplaces .z2)).1
    · exact (List.append_eq_nil_iff.1 (hplaces .z4)).1
    · exact (List.append_eq_nil_iff.1 (hplaces .z5)).1
  have hcasing : v.casing = none := by simpa using (List.append_eq_nil_iff.1 (hplaces .z1)).2
  have hentry : v.pressEntry = none := by simpa using (List.append_eq_nil_iff.1 (hplaces .z2)).2
  have hjacketing : v.jacketing = none := by simpa using (List.append_eq_nil_iff.1 (hplaces .z4)).2
  have hgate : v.gateQueue = [] := (List.append_eq_nil_iff.1 (hplaces .z5)).2
  have hlost : v.lost = [] := by
    rw [hremoved.lost]
    simp
  refine ⟨hrecords, fun u => ?_, fun z => ?_, hplaces, hlost, fun c => h.conveyor_emptied hremoved c (hqueue c), ?_,
    fun a => ?_, ?_⟩
  · rw [State.piece_congr hrecords.1, State.piece_retireAll]
    refine ite_eq_left_iff.2 fun hu => ?_
    simpa using mt (PlacesAgree.mem_allPieces hs u).2 hu
  · have hmode : v.mode z = w.mode z := by
      rw [hremoved.frame]
      cases z <;> rfl
    rw [hmode, h.mode, if_pos (hzones z)]
  · have hpress := h.press
    rw [hremoved.frame]
    dsimp only
    rw [hpress]
  · have hnoGate : ∀ o ∈ (w.station a).orders, gateTag o = none := fun o ho => by
      cases o with
      | gate d t => exact absurd ho (h.rooms.2 ((h.mode .z5).trans (if_pos (hzones _))) a d t)
      | jawRelease => rfl
    have horders : (w.station a).orders = (s.station a).orders.filter fun o => gateTag o = none := by
      rw [← h.orders, List.filter_eq_self.2 (by simpa using hnoGate)]
    have hspared : (w.station a).orders.filter (Order.spares w.lost) = (w.station a).orders :=
      List.filter_eq_self.2 fun o ho => by
        cases o with
        | gate d t => exact absurd (hnoGate _ ho) (by simp [gateTag])
        | jawRelease => rfl
    rw [hremoved.station, hspared, h.station, horders]
  · rw [hcasing, hentry, hjacketing, hlost, hgate] at hframe
    exact hframe

/-- Settles O40. -/
theorem lineClearEmptiesLine : Obligations.LineClearEmptiesLine := by
  intro s hs hplaces hrooms
  have h := State.emptied hplaces hrooms
  have hclear : s.lineClear = { (((allZones.foldl State.enterReset s).retireAll .spoiled
      (allZones.foldl State.enterReset s).lost).stopOverdwell) with casingMismatch := 0, jacketingMismatch := 0 } := rfl
  generalize (allZones.foldl State.enterReset s).retireAll .spoiled (allZones.foldl State.enterReset s).lost = v at h hclear
  have hmode : ∀ z, s.lineClear.mode z = .reset := fun z => by
    rw [hclear, ← h.mode z]
    cases z <;> rfl
  obtain ⟨-, hjobs, htables⟩ := h.records
  refine ⟨s.lineClear, next_command (n := 0) hs rfl, fun u => ?_, ?_, fun z => ⟨hmode z, ?_, ?_⟩, ?_, rfl, rfl, fun c => ?_,
    ?_, fun j => ?_, ⟨s.retireAll .spoiled s.allPieces, ?_, ?_⟩, fun a => ?_, ?_⟩
  · rw [hclear]
    exact h.piece u
  · rw [hclear]
    exact List.countP_eq_length.2 fun u _ => Option.isNone_iff_eq_none.2 (h.piece u)
  · rw [State.holdOutput_iff, hmode]
    decide
  · rw [hclear, ← h.places z]
    cases z <;> rfl
  · rw [hclear]
    exact h.lost
  · rw [← h.conveyor c, hclear]
    cases c <;> rfl
  · rw [hclear]
    simp only [State.stopOverdwell]
    rw [h.press]
  · rw [hclear, ← PlacesAgree.livePieces_eq hplaces, ← State.job_retireAll_spoiled _ _ (PlacesAgree.nodup_allPieces hplaces)]
    exact congrFun (State.job_congr hjobs) j
  · simp [State.retireAll, State.allPieces, allZones, List.append_assoc]
  · rw [hclear]
    exact ⟨hjobs, htables⟩
  · rw [hclear]
    exact h.station a
  · rw [hclear]
    simp only [State.stopOverdwell]
    conv_lhs => rw [h.frame]

end Sys2Proof.Machine
end

section
/-! SUPPORT. Zones and tracking (R47 to R57, R60, R61): encoder advances, exit-eye arrivals, lost pieces. -/

namespace Sys2Proof.Machine

open Sys2Proof.Safety

/-! ### Overdue pieces -/

/-- R49, R50. -/
theorem State.isOverdue_iff (s : State) (z : ConveyorZone) (u : Tag) : s.isOverdue z u = true ↔
    ∃ p e, s.piece u = some p ∧ p.entryCount = some e ∧
      (((s.conveyor z).length + (s.conveyor z).window : ℕ) : ℤ) < ((s.conveyor z).encoder - e).toInt := by
  unfold State.isOverdue
  cases hp : s.piece u with
  | none => simp
  | some p =>
    cases he : p.entryCount with
    | none => simp [Conveyor.travel, he]
    | some e =>
      simp only [Conveyor.travel, he, decide_eq_true_eq, Option.some.injEq, exists_eq_left', exists_and_left]
      omega

/-- R58: the record of a lost piece. -/
def Piece.asLost (p : Piece) : Piece := { p with faults := p.faults ||| 0x2000, place := .lost, entryCount := none }

/-- R50: what the check of the head leaves. -/
structure Dropped (z : ConveyorZone) (late kept : List Tag) (s t : State) : Prop where
  overdue : ∀ u ∈ late, s.isOverdue z u = true
  ends : ∀ u, kept.head? = some u → s.isOverdue z u = false
  piece : ∀ u, t.piece u = if u ∈ late then (s.piece u).map Piece.asLost else s.piece u
  frame : t = { s.setConveyor z { s.conveyor z with queue := kept } with
    pool := t.pool
    lost := s.lost ++ late
    flags := if late = [] then s.flags else s.flags ||| 0x002 }

theorem Dropped.none {z : ConveyorZone} {ts : List Tag} {s : State} (hq : (s.conveyor z).queue = ts)
    (hend : ∀ u, ts.head? = some u → s.isOverdue z u = false) : Dropped z [] ts s s where
  overdue u hu := absurd hu List.not_mem_nil
  ends := hend
  piece u := (if_neg List.not_mem_nil).symm
  frame := by
    rw [← hq, List.append_nil, if_pos rfl]
    cases z <;> rfl

/-- R50: the head of the queue is overdue and lost. -/
def State.dropHead (s : State) (z : ConveyorZone) (t : Tag) (rest : List Tag) : State :=
  (s.setConveyor z { s.conveyor z with queue := rest }).lose t

theorem State.piece_dropHead (s : State) (z : ConveyorZone) (t : Tag) (rest : List Tag) (u : Tag) :
    (s.dropHead z t rest).piece u = if u = t then (s.piece t).map Piece.asLost else s.piece u := by
  have hpool : (s.dropHead z t rest).pool = s.pool.set t ((s.piece t).map Piece.asLost) := by
    rw [State.dropHead, State.lose_pool, State.setConveyor_pool, State.piece_congr (s.setConveyor_pool z _)]
    rfl
  rw [State.piece_congr (s := s.dropHead z t rest) (t := s.setPiece t ((s.piece t).map Piece.asLost)) hpool, piece_setPiece]

theorem Dropped.cons {z : ConveyorZone} {t : Tag} {rest late kept : List Tag} {s w : State}
    (hrest : rest = late ++ kept) (hnew : t ∉ rest) (ht : s.isOverdue z t = true)
    (h : Dropped z late kept (s.dropHead z t rest) w) : Dropped z (t :: late) kept s w := by
  have hsame : ∀ u, u ≠ t → (s.dropHead z t rest).isOverdue z u = s.isOverdue z u := fun u hu => by
    rw [Bool.eq_iff_iff, State.isOverdue_iff, State.isOverdue_iff, State.piece_dropHead, if_neg hu]
    cases z <;> rfl
  have hlate : ∀ u ∈ late, u ≠ t := fun u hu e => hnew (by rw [hrest, ← e]; exact List.mem_append_left _ hu)
  refine ⟨fun u hu => ?_, fun u hu => ?_, fun u => ?_, ?_⟩
  · rcases List.mem_cons.1 hu with rfl | hu
    · exact ht
    · rw [← hsame u (hlate u hu)]
      exact h.overdue u hu
  · have hne : u ≠ t := fun e =>
      hnew (by rw [hrest, ← e]; exact List.mem_append_right _ (List.mem_of_mem_head? hu))
    rw [← hsame u hne]
    exact h.ends u hu
  · rw [h.piece, State.piece_dropHead]
    by_cases hu : u = t
    · rw [if_pos hu, if_neg (fun hin => hlate u hin hu), if_pos (by simp [hu]), hu]
    · rw [if_neg hu]
      exact if_congr (by simp [hu]) rfl rfl
  · have hflags : (if late = [] then s.flags ||| 0x002 else (s.flags ||| 0x002) ||| 0x002) = s.flags ||| 0x002 := by
      split
      · rfl
      · rw [BitVec.or_assoc, BitVec.or_self]
    rw [h.frame]
    cases z <;>
    · simp only [State.dropHead, State.lose_eq, State.setConveyor, State.conveyor, List.append_assoc, List.singleton_append,
        reduceCtorEq, if_false]
      rw [hflags]

theorem State.dropOverdue_dropped (z : ConveyorZone) (ts : List Tag) (s : State) (hts : ts.Nodup)
    (hq : (s.conveyor z).queue = ts) :
    ∃ late kept, ts = late ++ kept ∧ Dropped z late kept s (s.dropOverdue z ts) := by
  induction ts generalizing s with
  | nil => exact ⟨[], [], rfl, .none hq (by simp)⟩
  | cons t rest ih =>
    obtain ⟨hnew, hrest⟩ := List.nodup_cons.1 hts
    by_cases ht : s.isOverdue z t = true
    · obtain ⟨late, kept, hsplit, h⟩ := ih (s.dropHead z t rest) hrest (by cases z <;> rfl)
      refine ⟨t :: late, kept, by rw [hsplit, List.cons_append], ?_⟩
      rw [State.dropOverdue, if_pos ht]
      exact h.cons hsplit hnew ht
    · refine ⟨[], t :: rest, rfl, ?_⟩
      rw [State.dropOverdue, if_neg ht]
      refine .none hq fun u hu => ?_
      rw [← Option.some.inj (List.head?_cons.symm.trans hu)]
      simpa using ht

/-- R13: a queue holds a tag at most once. -/
theorem PlacesAgree.nodup_queue {s : State} (hs : PlacesAgree s) (z : ConveyorZone) : (s.conveyor z).queue.Nodup := by
  refine nodup_of_count hs fun u => ?_
  cases z <;>
  · simp only [State.conveyor, timesPlaced]
    omega

/-- Settles O41. -/
theorem encoderAdvancesCountAndDropOverdue : Obligations.EncoderAdvancesCountAndDropOverdue := by
  intro z s
  refine ⟨by rw [BitVec.sub_eq_add_neg]; rfl, fun hs => ?_⟩
  have hpiece : (s.turnEncoder z 1).piece = s.piece := State.piece_congr (s.setConveyor_pool z _)
  have hqueue : ((s.turnEncoder z 1).conveyor z).queue = (s.conveyor z).queue := by cases z <;> rfl
  obtain ⟨late, kept, hsplit, h⟩ := State.dropOverdue_dropped z _ (s.turnEncoder z 1) (PlacesAgree.nodup_queue hs z) hqueue
  have hiff : ∀ u, (s.turnEncoder z 1).isOverdue z u = true ↔ ∃ p e, s.piece u = some p ∧ p.entryCount = some e ∧
      (((s.conveyor z).length + (s.conveyor z).window : ℕ) : ℤ) < ((s.conveyor z).encoder + 1 - e).toInt := fun u => by
    rw [State.isOverdue_iff, hpiece]
    cases z <;> rfl
  refine ⟨late, kept, s.advance z, rfl, hsplit, fun u hu => (hiff u).1 (h.overdue u hu), fun u p e hu hp he => ?_,
    fun u => ?_, ?_⟩
  · by_contra hlt
    exact absurd ((hiff u).2 ⟨p, e, hp, he, by omega⟩) (ne_true_of_eq_false (h.ends u hu))
  · refine (h.piece u).trans ?_
    rw [hpiece]
    rfl
  · refine h.frame.trans ?_
    cases z <;> rfl

end Sys2Proof.Machine
end

section
/-! SUPPORT. The leading edge of an exit eye (R51 to R57). -/

namespace Sys2Proof.Machine

open Sys2Proof.Safety

/-! ### Travel and arrivals -/

theorem State.updatePiece_some {s : State} {t : Tag} {p : Piece} (hp : s.piece t = some p) (f : Piece → Piece) :
    s.updatePiece t f = { s with pool := s.pool.set t (some (f p)) } := by
  rw [State.updatePiece, hp]
  rfl

/-- R49, R51. -/
theorem State.hasArrived_iff {s : State} {z : ConveyorZone} {u : Tag} {p : Piece} {e : Word16} (hp : s.piece u = some p)
    (he : p.entryCount = some e) : s.hasArrived z u = true ↔
      (((s.conveyor z).length : ℤ) - ((s.conveyor z).window : ℤ)) ≤ max ((s.conveyor z).encoder - e).toInt 0 := by
  simp only [State.hasArrived, hp, Conveyor.travel, he, decide_eq_true_eq]
  omega

theorem State.exitEye_reset {s : State} {z : ConveyorZone} (hm : (s.conveyor z).mode = .reset) : s.exitEye z = s := if_pos hm

theorem State.exitEye_empty {s : State} {z : ConveyorZone} (hm : (s.conveyor z).mode ≠ .reset)
    (hq : (s.conveyor z).queue = []) : s.exitEye z = s.unforeseen z := by
  simp only [State.exitEye, if_neg hm, hq]

theorem State.exitEye_early {s : State} {z : ConveyorZone} {u : Tag} {rest : List Tag} (hm : (s.conveyor z).mode ≠ .reset)
    (hq : (s.conveyor z).queue = u :: rest) (hu : ¬ s.hasArrived z u = true) : s.exitEye z = s.unforeseen z := by
  simp only [State.exitEye, if_neg hm, hq, if_neg hu]

theorem State.exitEye_arrival {s : State} {z : ConveyorZone} {u : Tag} {rest : List Tag} (hm : (s.conveyor z).mode ≠ .reset)
    (hq : (s.conveyor z).queue = u :: rest) (hu : s.hasArrived z u = true) :
    s.exitEye z = (s.setConveyor z { s.conveyor z with queue := rest }).arrive z u := by
  simp only [State.exitEye, if_neg hm, hq, if_pos hu]

/-! ### The places beyond the queues -/

theorem State.enterCasing_some {s : State} {u : Tag} {p : Piece} (hp : s.piece u = some p) : s.enterCasing u = { s with
    casing := some u
    casingMismatch := 0
    pool := s.pool.set u (some { p with place := .casingSlot, entryCount := none }) } :=
  State.updatePiece_some (s := { s with casing := some u, casingMismatch := 0 }) hp _

theorem State.enterJacketing_some {s : State} {u : Tag} {p : Piece} (hp : s.piece u = some p) :
    s.enterJacketing u = { s with
      jacketing := some u
      jacketingMismatch := 0
      pool := s.pool.set u (some { p with place := .jacketingSlot, entryCount := none }) } :=
  State.updatePiece_some (s := { s with jacketing := some u, jacketingMismatch := 0 }) hp _

theorem State.enterHold_some {s : State} {u : Tag} {p : Piece} (hp : s.piece u = some p) : s.enterHold u = { s with
    pressEntry := some u
    pool := s.pool.set u (some { p with place := .pressEntry, entryCount := none }) } :=
  State.updatePiece_some (s := { s with pressEntry := some u }) hp _

/-- R55, step 1. -/
theorem Piece.passCasing_eq (q : Piece) : q.passCasing = { q with
    faults := q.faults ||| 0x0040
    caseStatus := if q.caseStatus = .pending then .skipped else q.caseStatus } := by
  have hbit : FaultKind.caseUnconfirmed.bit = 0x0040#16 := rfl
  unfold Piece.passCasing Piece.settleCase Piece.addFault FaultSet.add
  rw [hbit]
  split <;> simp_all

/-- R56, step 1. -/
theorem Piece.passJacketing_eq (q : Piece) : q.passJacketing = if q.jacketStatus = .notRequired then q else { q with
    faults := q.faults ||| 0x1000
    jacketStatus := if q.jacketStatus = .pending then .skipped else q.jacketStatus } := by
  have hbit : FaultKind.jacketUnconfirmed.bit = 0x1000#16 := rfl
  unfold Piece.passJacketing Piece.settleJacket Piece.addFault FaultSet.add
  rw [hbit]
  split
  · rfl
  · split <;> simp_all

/-- R57: the press entry hold is occupied. -/
theorem State.arriveHold_occupied {s : State} {o u : Tag} {p q : Piece} (ho : s.pressEntry = some o) (hne : o ≠ u)
    (hq : s.piece o = some q) (hp : s.piece u = some p) : s.arriveHold u = { s with
      z2 := { s.z2 with mode := .halt }
      pressEntry := some u
      lost := s.lost ++ [o]
      pool := (s.pool.set o (some { q with faults := q.faults ||| 0x2000, place := .lost, entryCount := none })).set u
        (some { p with place := .pressEntry, entryCount := none })
      flags := s.flags ||| 0x002 } := by
  generalize hw : ({ s with pressEntry := none } : State).lose o = w
  have hlost : w = { s with
      pressEntry := none
      lost := s.lost ++ [o]
      flags := s.flags ||| 0x002
      pool := s.pool.set o (some { q with faults := q.faults ||| 0x2000, place := .lost, entryCount := none }) } := by
    rw [← hw, State.lose_eq]
    rw [show ({ s with pressEntry := none } : State).piece o = some q from hq]
    rfl
  have hkept : (w.haltZone .z2).piece u = some p := by
    have hpool : (w.haltZone .z2).pool =
        (s.setPiece o (some { q with faults := q.faults ||| 0x2000, place := .lost, entryCount := none })).pool := by
      rw [hlost]
      rfl
    rw [State.piece_congr hpool, piece_setPiece, if_neg (Ne.symm hne), hp]
  have hflags : (s.flags ||| 0x002) ||| 0x002 = s.flags ||| 0x002 := by rw [BitVec.or_assoc, BitVec.or_self]
  simp only [State.arriveHold, ho, hw, State.enterHold_some hkept, State.raise]
  rw [hlost]
  conv_rhs => rw [← hflags]
  rfl

/-- Settles O42. -/
theorem exitEyeJudgesHead : Obligations.ExitEyeJudgesHead := by
  refine ⟨fun z => by cases z <;> simp [ConveyorZone.zone],
    fun s u p hp => ⟨State.enterCasing_some hp, State.enterJacketing_some hp⟩, fun z now s => ⟨fun hm => ?_, fun hm hnone => ?_,
    fun u rest p e hm hq hp he htravel => ?_⟩⟩
  · have hexec : exec (.exitEyeLeadingEdge z now) s = .next ((s.atReading now).exitEye z) := rfl
    rw [hexec, State.exitEye_reset (by cases z <;> exact hm)]
    rfl
  · have hexec : exec (.exitEyeLeadingEdge z now) s = .next ((s.atReading now).exitEye z) := rfl
    have hm' : ((s.atReading now).conveyor z).mode ≠ .reset := by cases z <;> exact hm
    have hstop : (s.atReading now).exitEye z = (s.atReading now).unforeseen z := by
      rcases hnone with hq | ⟨u, p, e, hhead, hp, he, hshort⟩
      · exact State.exitEye_empty hm' (by cases z <;> exact hq)
      · obtain ⟨rest, hq⟩ := List.head?_eq_some_iff.1 hhead
        refine State.exitEye_early (u := u) (rest := rest) hm' (by cases z <;> exact hq) fun hin => ?_
        have harrived := (State.hasArrived_iff (s := s.atReading now) (z := z) hp he).1 hin
        have hlong : (((s.conveyor z).length : ℤ) - ((s.conveyor z).window : ℤ)) ≤ max ((s.conveyor z).encoder - e).toInt 0 := by
          cases z <;> exact harrived
        omega
    rw [hexec, hstop]
    cases z <;> rfl
  · generalize hr : ({ s.setConveyor z { s.conveyor z with queue := rest } with timeBase := now } : State) = r
    have hexec : exec (.exitEyeLeadingEdge z now) s = .next (r.arrive z u) := by
      have harrived : (s.atReading now).hasArrived z u = true :=
        (State.hasArrived_iff (s := s.atReading now) hp he).2 (by cases z <;> exact htravel)
      change Host.Outcome.next ((s.atReading now).exitEye z) = _
      rw [State.exitEye_arrival (u := u) (rest := rest) (by cases z <;> exact hm) (by cases z <;> exact hq) harrived, ← hr]
      cases z <;> rfl
    have hpool : r.pool = s.pool := by
      rw [← hr]
      exact s.setConveyor_pool z _
    have hpiece : r.piece = s.piece := State.piece_congr hpool
    have hp' : r.piece u = some p := by rw [hpiece, hp]
    refine ⟨r, rfl, fun hz hfree => ?_, fun hz hfree => ?_, fun hz hfree => ?_, fun hz => ?_, fun o q hz ho hoq => ?_,
      fun o q hz ho hoq => ?_, fun o q hz ho hne hoq => ?_⟩
    · subst hz
      have hfree' : r.casing = none := by rw [← hr]; exact hfree
      rw [hexec, State.arrive, State.arriveCasing, hfree', ← hpool]
      exact congrArg _ (State.enterCasing_some hp')
    · subst hz
      have hfree' : r.pressEntry = none := by rw [← hr]; exact hfree
      rw [hexec, State.arrive, State.arriveHold, hfree', ← hpool]
      exact congrArg _ (State.enterHold_some hp')
    · subst hz
      have hfree' : r.jacketing = none := by rw [← hr]; exact hfree
      rw [hexec, State.arrive, State.arriveJacketing, hfree', ← hpool]
      exact congrArg _ (State.enterJacketing_some hp')
    · subst hz
      exact hexec
    · subst hz
      have ho' : r.casing = some o := by rw [← hr]; exact ho
      have hq' : ({ r with casing := none } : State).piece o = some q := by rw [← hoq, ← hpiece]; rfl
      rw [hexec, State.arrive, State.arriveCasing, ho']
      dsimp only
      rw [State.updatePiece_some hq', Piece.passCasing_eq, hpool]
    · subst hz
      have ho' : r.jacketing = some o := by rw [← hr]; exact ho
      have hq' : ({ r with jacketing := none } : State).piece o = some q := by rw [← hoq, ← hpiece]; rfl
      rw [hexec, State.arrive, State.arriveJacketing, ho']
      dsimp only
      rw [State.updatePiece_some hq', Piece.passJacketing_eq, hpool]
    · subst hz
      have ho' : r.pressEntry = some o := by rw [← hr]; exact ho
      rw [hexec, State.arrive, State.arriveHold_occupied ho' hne (by rw [hpiece, hoq]) hp', hpool, ← hr]
      rfl

end Sys2Proof.Machine
end

section
/-! SUPPORT. Reading zones and pieces (R20, R59, R62), and the lost set (R60, R61). -/

namespace Sys2Proof.Machine

open Sys2Proof.Safety

/-! ### A piece by its tag and admission number (R3) -/

theorem tagOf_byteOf (u : Tag) : tagOf (byteOf u.val) = some u := indexOf_byteOf (by decide) u

theorem tagOf_none {b : Byte} (h : 95 < b.toNat) : tagOf b = none := indexOf_eq_none.2 h

theorem State.named_some {s : State} {u : Tag} {p : Piece} (hp : s.piece u = some p) : s.named u p.admission = some p := by
  simp [State.named, hp]

theorem State.named_none {s : State} {u : Tag} {a : Word16} (h : ∀ p, s.piece u = some p → p.admission ≠ a) :
    s.named u a = none := by
  unfold State.named
  cases hp : s.piece u with
  | none => rfl
  | some p => exact if_neg (h p hp)

/-! ### READ_ZONE -/

theorem State.entryBytes_some {s : State} {u : Tag} {p : Piece} (hp : s.piece u = some p) :
    s.entryBytes u = byteOf u.val :: split16 p.admission := by
  simp only [State.entryBytes, hp]

theorem State.entryBytes_none {s : State} {u : Tag} (hp : s.piece u = none) : s.entryBytes u = [byteOf u.val, 0, 0] := by
  simp only [State.entryBytes, hp]
  rfl

/-- R62: a description of the entries is that of the part. -/
theorem State.entryBytes_unique {s : State} {entry : Tag → List Byte}
    (hsome : ∀ u p, s.piece u = some p → entry u = byteOf u.val :: split16 p.admission)
    (hnone : ∀ u, s.piece u = none → entry u = [byteOf u.val, 0, 0]) : entry = s.entryBytes := by
  funext u
  cases hp : s.piece u with
  | none => rw [hnone u hp, State.entryBytes_none hp]
  | some p => rw [hsome u p hp, State.entryBytes_some hp]

theorem State.placeBytes_unique {s : State} {place : Option Tag → List Byte} (hnone : place none = [0xFF, 0, 0])
    (hsome : ∀ u, place (some u) = s.entryBytes u) : place = s.placeBytes := by
  funext o
  cases o with
  | none => exact hnone
  | some u => exact hsome u

theorem exec_readZone {s : State} {zone : Byte} {r : Reply} (hs : s.check = .pass) (h : s.readZone zone = r) :
    exec (.readZone zone) s = .next (s.respond 4 r) :=
  next_command (n := 1) hs (by rw [h])

theorem State.readZone_eq {s : State} {zone : Byte} {z : Zone} (h : zoneOf zone = some z) :
    s.readZone zone = .ok (s.zoneBytes z) := by
  simp only [State.readZone, h]

/-! ### READ_PIECE -/

theorem exec_readPiece {s : State} {tag : Byte} {a : Word16} {r : Reply} (hs : s.check = .pass)
    (h : s.readPiece tag a = r) : exec (.readPiece tag a) s = .next (s.respond 6 r) :=
  next_command (n := 3) hs (by rw [h])

theorem State.readPiece_found {s : State} {u : Tag} {p : Piece} (hp : s.piece u = some p) :
    s.readPiece (byteOf u.val) p.admission = .ok (s.pieceBytes u p) := by
  simp only [State.readPiece, tagOf_byteOf, State.named_some hp]

theorem State.readPiece_unknown {s : State} {u : Tag} {a : Word16} (h : ∀ p, s.piece u = some p → p.admission ≠ a) :
    s.readPiece (byteOf u.val) a = .refuse .noSuchPiece := by
  simp only [State.readPiece, tagOf_byteOf, State.named_none h]

theorem State.readPiece_badTag {s : State} {tag : Byte} {a : Word16} (h : 95 < tag.toNat) :
    s.readPiece tag a = .refuse .badValue := by
  simp only [State.readPiece, tagOf_none h]

/-- R12: the loss position counts from 1 for the oldest of the lost set. -/
theorem State.lossPosition_split {s : State} {u : Tag} {older newer : List Tag} (h : s.lost = older ++ u :: newer)
    (hu : u ∉ older) : s.lossPosition u = older.length + 1 := by
  rw [State.lossPosition, if_pos (by rw [h]; simp), h, List.idxOf_append_of_notMem hu, List.idxOf_cons_self]

theorem State.lossByte_eq {s : State} {u : Tag} {p : Piece} {loss : Byte} (hin : p.place = .lost → u ∈ s.lost)
    (hlost : ∀ older newer, p.place = .lost → s.lost = older ++ u :: newer → u ∉ older → loss = byteOf (older.length + 1))
    (helse : p.place ≠ .lost → loss = 0) : loss = s.lossByte u p := by
  by_cases h : p.place = .lost
  · obtain ⟨older, newer, hsplit, hu⟩ := List.eq_append_cons_of_mem (hin h)
    rw [State.lossByte, if_pos h, State.lossPosition_split hsplit hu]
    exact hlost older newer h hsplit hu
  · rw [State.lossByte, if_neg h, helse h]

/-- R20: the bytes of a place. -/
theorem State.placeCode_eq (s : State) (u : Tag) (pl : Place) : (pl.code, byteOf (s.placeDetail u pl)) =
    match pl with
    | .conveyor .z1 => (0, byteOf (s.z1.queue.idxOf u))
    | .casingSlot => (1, 0)
    | .conveyor .z2 => (2, byteOf (s.z2.queue.idxOf u))
    | .pressEntry => (3, 0)
    | .press i => (4, byteOf i.val)
    | .conveyor .z4 => (5, byteOf (s.z4.queue.idxOf u))
    | .jacketingSlot => (6, 0)
    | .conveyor .z5 => (7, byteOf (s.z5.queue.idxOf u))
    | .gateQueue => (8, byteOf (s.gateQueue.idxOf u))
    | .lost => (9, 0) := by
  cases pl with
  | conveyor z => cases z <;> rfl
  | _ => rfl

theorem bytes16_zero : bytes16 0 = [0, 0] := rfl

/-- R20: the data of READ_PIECE. -/
theorem State.pieceBytes_eq {s : State} {u : Tag} {p : Piece} {place detail loss : Byte}
    (hplace : (place, detail) = (p.place.code, byteOf (s.placeDetail u p.place))) (hloss : loss = s.lossByte u p) :
    s.pieceBytes u p = [byteOf u.val] ++ split16 p.admission ++ [p.job.elim 0xFF fun j => byteOf j.val]
      ++ bytes16 (p.copy.getD 0) ++ bytes16 p.thickness ++ [byteOf p.cls.val]
      ++ bytes16 (p.limits.elim 0 DwellLimits.dmin) ++ bytes16 (p.limits.elim 0 DwellLimits.dmax)
      ++ bytes16 p.accumulated ++ [place, detail] ++ split16 (p.entryCount.getD 0)
      ++ [p.caseStatus.code, p.jacketStatus.code, if p.copyVerified then (1 : Byte) else 0]
      ++ split16 p.faults ++ [(s.disposition p).code, loss] := by
  obtain ⟨h1, h2⟩ := Prod.mk.injEq .. ▸ hplace
  rw [hloss, h1, h2]
  cases hj : p.job <;> cases hl : p.limits <;>
    simp [State.pieceBytes, hj, hl, boolByte, bytes16_zero]

/-- Settles O43. -/
theorem readsOfZonesAndPiecesAnswer : Obligations.ReadsOfZonesAndPiecesAnswer := by
  refine ⟨fun s u => rfl, fun s hs => ⟨fun zone hzone => ?_,
    fun entry place queue hentry hfree hempty hplace hqueue => ?_, fun first hfirst => ?_,
    fun tag admission htag => exec_readPiece hs (State.readPiece_badTag htag),
    fun u admission hu => exec_readPiece hs (State.readPiece_unknown hu),
    fun u p place detail loss hp hin hlost helse hplace => ?_⟩⟩
  · exact exec_readZone hs (by simp only [State.readZone, zoneOf_none hzone])
  · obtain rfl := State.entryBytes_unique hentry hfree
    obtain rfl := State.placeBytes_unique hempty hplace
    obtain rfl : queue = s.conveyorBytes := by
      funext c
      rw [hqueue, State.conveyorBytes]
      cases c.mode <;> rfl
    refine ⟨?_, ?_, ?_, ?_, ?_, fun first h1 h96 => ?_⟩
    · exact exec_readZone hs (State.readZone_eq (z := .z1) rfl)
    · exact exec_readZone hs (State.readZone_eq (z := .z2) rfl)
    · refine (exec_readZone hs (State.readZone_eq (z := .z3) rfl)).trans ?_
      rw [State.zoneBytes]
      cases s.z3Mode <;> rfl
    · exact exec_readZone hs (State.readZone_eq (z := .z4) rfl)
    · refine (exec_readZone hs (State.readZone_eq (z := .z5) rfl)).trans ?_
      rw [State.zoneBytes, List.append_assoc]
      rfl
    · exact next_command (n := 1) hs (by rw [State.listLost, if_pos (within_iff.2 ⟨h1, h96⟩)])
  · refine next_command (n := 1) hs ?_
    rw [State.listLost, if_neg fun h => ?_]
    obtain ⟨h1, h96⟩ := within_iff.1 h
    omega
  · refine (exec_readPiece hs (State.readPiece_found hp)).trans ?_
    rw [State.pieceBytes_eq (hplace.trans (s.placeCode_eq u p.place).symm) (State.lossByte_eq hin hlost helse)]
    rfl

/-! ### The lost set (R60, R61) -/

theorem exec_resolveLost {s u : State} {tag : Byte} {a : Word16} {r : Reply} (hs : s.check = .pass)
    (h : s.resolveLost tag a = (r, u)) : exec (.resolveLost tag a) s = .next (u.respond 6 r) :=
  next_command (n := 3) hs h

theorem exec_reinstate {s u : State} {tag zone : Byte} {a : Word16} {r : Reply} (hs : s.check = .pass)
    (h : s.reinstate tag a zone = (r, u)) : exec (.reinstate tag a zone) s = .next (u.respond 7 r) :=
  next_command (n := 4) hs h

/-- R61: REINSTATE of a tag and a zone that exist. -/
theorem State.reinstate_of {zone : Byte} {z : ConveyorZone} (s : State) (u : Tag) (a : Word16) (hz : conveyorZoneOf zone = some z) :
    s.reinstate (byteOf u.val) a zone = match s.named u a with
      | none => (.refuse .noSuchPiece, s)
      | some _ =>
        if u ∉ s.lost then (.refuse .wrongState, s)
        else if (s.conveyor z).mode = .reset then (.refuse .wrongState, s)
        else if z.capacity ≤ (s.conveyor z).queue.length then (.refuse .zoneFull, s)
        else (.ok [], s.returnTo z u) := by
  simp only [State.reinstate, tagOf_byteOf, hz] <;> rfl

theorem State.returnTo_some {s : State} {z : ConveyorZone} {u : Tag} {p : Piece} (hp : s.piece u = some p) :
    s.returnTo z u = { s.setConveyor z { s.conveyor z with queue := (s.conveyor z).queue ++ [u] } with
      lost := s.lost.filter (· ≠ u)
      pool := s.pool.set u (some { p with place := .conveyor z, entryCount := some (s.conveyor z).encoder }) } := by
  have hp' : ({ s with lost := s.lost.filter (· ≠ u) } : State).piece u = some p := hp
  rw [State.returnTo, State.joinQueue_eq, hp']
  cases z <;> rfl

/-- Settles O44. -/
theorem lostPiecesAreResolvedOrReinstated : Obligations.LostPiecesAreResolvedOrReinstated := by
  refine fun s hs => ⟨fun tag admission zone => ⟨fun htag => ?_, fun hbad => ?_⟩,
    fun u admission zone z hzone => ⟨fun hu => ⟨?_, ?_⟩, fun p hp hadmission => ?_⟩⟩
  · exact exec_resolveLost hs (by simp only [State.resolveLost, tagOf_none htag])
  · refine exec_reinstate hs ?_
    rcases hbad with htag | hzone
    · simp only [State.reinstate, tagOf_none htag]
    · simp only [State.reinstate, conveyorZoneOf_none hzone]
      cases tagOf tag <;> rfl
  · exact exec_resolveLost hs (by simp only [State.resolveLost, tagOf_byteOf, State.named_none hu])
  · exact exec_reinstate hs (by rw [State.reinstate_of s u admission (conveyorZoneOf_eq hzone), State.named_none hu])
  · subst hadmission
    have hre := State.reinstate_of s u p.admission (conveyorZoneOf_eq hzone)
    rw [State.named_some hp] at hre
    have hres : s.resolveLost (byteOf u.val) p.admission =
        if u ∈ s.lost then (.ok [], s.retire .spoiled u) else (.refuse .wrongState, s) := by
      simp only [State.resolveLost, tagOf_byteOf, State.named_some hp]
    refine ⟨fun hout => ⟨exec_resolveLost hs (by rw [hres, if_neg hout]), exec_reinstate hs (by rw [hre]; exact if_pos hout)⟩,
      fun hin => ⟨exec_resolveLost hs (by rw [hres, if_pos hin]), fun hm => exec_reinstate hs ?_, fun hm hfull => exec_reinstate hs ?_,
        fun hm hroom => exec_reinstate hs ?_⟩⟩
    · rw [hre]
      exact (if_neg (not_not.2 hin)).trans (if_pos hm)
    · rw [hre]
      exact (if_neg (not_not.2 hin)).trans ((if_neg hm).trans (if_pos hfull))
    · rw [hre, ← State.returnTo_some hp]
      exact (if_neg (not_not.2 hin)).trans ((if_neg hm).trans (if_neg (by omega)))

end Sys2Proof.Machine
end

section
/-! SUPPORT. The gate unit (R15, R148 to R153, R170). -/

namespace Sys2Proof.Machine

open Sys2Proof.Safety

/-! ### Holders and dispositions -/

/-- R170, law 11: the holder of a role is its one assigned claimant. -/
theorem State.holder_iff {s : State} (hs : StationsSound s) {a : Address} {r : Role} :
    s.holder r = some a ↔ Holds s a r := by
  refine ⟨fun h => holder_some h, fun h => ?_⟩
  cases hh : s.holder r with
  | none =>
    have hnot := List.find?_eq_none.1 hh a (List.mem_finRange a)
    simp [h.1, h.2] at hnot
  | some b => rw [hs.2 b a r (holder_some hh) h]

theorem State.holderHas_iff (s : State) (r : Role) (k : Ability) :
    s.holderHas r k = true ↔ ∃ a, s.holder r = some a ∧ (s.station a).abilities &&& k.bit ≠ 0 := by
  unfold State.holderHas
  cases s.holder r <;> simp [hasAbility]

/-- R15. -/
theorem State.disposition_eq (s : State) (p : Piece) : s.disposition p =
    if p.faults = 0 then .deliver
    else if p.faults = 0x0200 ∧ (∃ b, p.job.bind s.job = some b ∧ b.overdwellPolicy = .passMarked) ∧
        (∃ a, s.holder .gate = some a ∧ (s.station a).abilities &&& 0x40 ≠ 0) then .deliverMarked
    else .divert := by
  have hmark := s.holderHas_iff .gate .mark
  change _ ↔ ∃ a, s.holder .gate = some a ∧ (s.station a).abilities &&& 0x40 ≠ 0 at hmark
  have hmarked : (if p.faults = 0x0200 ∧ (∃ b, p.job.bind s.job = some b ∧ b.overdwellPolicy = .passMarked) ∧
        (∃ a, s.holder .gate = some a ∧ (s.station a).abilities &&& 0x40 ≠ 0) then Disposition.deliverMarked else .divert) =
      if p.faults = 0x0200 ∧ (∃ b, p.job.bind s.job = some b ∧ b.overdwellPolicy = .passMarked) ∧
        s.holderHas .gate .mark = true then Disposition.deliverMarked else .divert := if_congr (by rw [hmark]) rfl rfl
  rw [hmarked]
  change (if p.faults = 0 then _ else if p.faults = 0x0200 then _ else _) = _
  by_cases h0 : p.faults = 0
  · rw [if_pos h0, if_pos h0]
  · rw [if_neg h0, if_neg h0]
    by_cases hover : p.faults = 0x0200
    · cases hj : p.job.bind s.job with
      | none => simp [State.jobOf, hj]
      | some b => simp [State.jobOf, hj, hover]
    · rw [if_neg hover, if_neg fun h => hover h.1]

/-! ### Gate orders -/

theorem gateOrder_eq (j : JacketStatus) (d : Disposition) :
    gateOrder j d = if j = .pending ∨ j = .skipped then .divert else d := by
  cases j <;> rfl

theorem State.divertUnconfirmed_some {s : State} {t : Tag} {p : Piece} (hp : s.piece t = some p) :
    s.divertUnconfirmed t =
      { s with pool := s.pool.set t (some { p with faults := p.faults ||| 0x4000 }) }.retire .diverted t := by
  rw [State.divertUnconfirmed, State.addFault, State.updatePiece_some hp]
  rfl

theorem State.flightPresent_of {s : State} {f : GateFlight} {p : Piece} (hin : f.tag ∈ s.gateQueue)
    (hp : s.piece f.tag = some p) (ha : p.admission = f.admission) : s.flightPresent f = true := by
  simp [State.flightPresent, hin, hp, ha]

theorem State.flightPresent_gone {s : State} {f : GateFlight}
    (h : f.tag ∉ s.gateQueue ∨ ∀ p, s.piece f.tag = some p → p.admission ≠ f.admission) : s.flightPresent f = false := by
  rcases h with h | h
  · simp [State.flightPresent, h]
  · cases hp : s.piece f.tag with
    | none => simp [State.flightPresent, hp]
    | some p => simp [State.flightPresent, hp, h p hp]

theorem confirmedAs_eq (o : Disposition) : confirmedAs o = if o = .divert then .diverted else .delivered := by
  cases o <;> rfl

/-! ### The loss of the gate station, or of its MARK (R153) -/

theorem mem_markedTags {orders : List Order} {t : Tag} : t ∈ markedTags orders ↔ Order.gate .deliverMarked t ∈ orders := by
  simp only [markedTags, List.mem_filterMap]
  constructor
  · rintro ⟨o, ho, e⟩
    cases o with
    | gate d u => cases d <;> simp_all
    | jawRelease => simp at e
  · exact fun h => ⟨_, h, rfl⟩

theorem State.station_dropMark (s : State) (a c : Address) : (s.dropMark a).station c =
    { (s.divertAllUnconfirmed (markedTags (s.station a).orders)).station c with
      orders := ((s.divertAllUnconfirmed (markedTags (s.station a).orders)).station c).orders.filter fun o =>
        match o with
        | .gate .deliverMarked _ => false
        | _ => true } := by
  refine (State.station_withdrawGateOrders _ _ c).trans ?_
  refine congrArg (fun l => ({ State.station _ c with orders := l } : Station)) (List.filter_congr fun o _ => ?_)
  cases o with
  | gate d u => cases d <;> rfl
  | jawRelease => rfl

theorem State.gateOrder_dropMark (s : State) (a c : Address) (o : Disposition) (t : Tag) :
    Order.gate o t ∈ ((s.dropMark a).station c).orders ↔
      Order.gate o t ∈ (s.station c).orders ∧ o ≠ .deliverMarked ∧ Order.gate .deliverMarked t ∉ (s.station a).orders := by
  have hstation := (Removed.divertAllUnconfirmed s (markedTags (s.station a).orders)).station c
  rw [State.station_dropMark, hstation]
  simp only [List.mem_filter, Order.spares_gate]
  rw [← mem_markedTags (orders := (s.station a).orders)]
  cases o <;> simp

/-- Settles O46. -/
theorem gateUnitSettlesOrders : Obligations.GateUnitSettlesOrders := by
  refine ⟨fun s a r hs => State.holder_iff hs, fun s p => s.disposition_eq p, fun s t p hp => ⟨fun h => ?_, fun a ha hroom => ?_⟩,
    fun s hs => ?_, fun s f hf => ⟨fun p hin hp hadm => ?_, fun hgone => ?_⟩, fun s a unconfirmed hun => ?_⟩
  · rw [← State.divertUnconfirmed_some hp]
    simp only [State.gateArrival, hp]
    cases hh : s.holder .gate with
    | none => rfl
    | some a => exact if_pos (h.resolve_left (by simp [hh]))
  · have hqueue : s.gateArrival t = s.queueGateOrder a (gateOrder p.jacketStatus (s.disposition p)) t := by
      simp only [State.gateArrival, hp, ha, gateCapacity]
      exact if_neg (by omega)
    rw [hqueue, State.queueGateOrder, gateOrder_eq]
    refine (State.updatePiece_some (p := p) ?_ _).trans rfl
    exact hp
  · simp only [State.confirmFlight, State.failFlight, hs, and_self]
  · have hpresent : ({ s with gateInFlight := none } : State).flightPresent f = true := State.flightPresent_of hin hp hadm
    simp only [State.confirmFlight, State.failFlight, hf, if_pos hpresent, confirmedAs_eq, true_and]
    exact State.divertUnconfirmed_some (s := { s with gateInFlight := none }) hp
  · have hpresent : ({ s with gateInFlight := none } : State).flightPresent f = false := State.flightPresent_gone hgone
    simp only [State.confirmFlight, State.failFlight, hf, hpresent, Bool.false_eq_true, if_false, and_self]
  · obtain rfl : unconfirmed = State.divertUnconfirmed := funext fun w => funext fun t => hun w t
    have hmarked : ((s.station a).orders.filterMap fun o =>
        match o with
        | .gate .deliverMarked t => some t
        | _ => none) = markedTags (s.station a).orders := by
      refine congrArg (fun f => (s.station a).orders.filterMap f) (funext fun o => ?_)
      cases o with
      | gate d u => cases d <;> rfl
      | jawRelease => rfl
    have hlost := Removed.divertAllUnconfirmed s s.gateQueue
    have hdrop := Removed.divertAllUnconfirmed s (markedTags (s.station a).orders)
    refine ⟨rfl, ⟨s.divertAllUnconfirmed (markedTags (s.station a).orders), ?_, rfl, fun c => ?_⟩, ?_, hlost.piece,
      fun t => (hdrop.piece t).trans ?_, fun c o t => s.gateOrder_dropMark a c o t⟩
    · exact congrArg (fun l => List.foldl State.divertUnconfirmed s l) hmarked.symm
    · exact s.station_dropMark a c
    · rw [State.loseGateStation, hlost.gateQueue]
      simp
    · exact if_congr mem_markedTags rfl rfl

end Sys2Proof.Machine
end

section
/-! SUPPORT. The poll cycle and READ_STATION (R150, R159, R163, R166, R175, R176). -/

namespace Sys2Proof.Machine

open Sys2Proof.Safety

theorem addressOf_byteOf (a : Address) : addressOf (byteOf (a.val + 1)) = some a := by
  revert a
  decide

theorem addressOf_none {b : Byte} (h : b = 0 ∨ 8 < b.toNat) : addressOf b = none := by
  unfold addressOf
  rcases h with rfl | h
  · exact if_pos rfl
  · have hne : b ≠ 0 := by
      rintro rfl
      exact absurd h (by decide)
    rw [if_neg hne]
    exact indexOf_eq_none.2 (by bv_omega)

/-- R163, R176: a description of the codes of an order is that of the part. -/
theorem orderBytes_unique {code : Option Order → List Byte} (hnone : code none = [0, 0])
    (hjaw : code (some .jawRelease) = [4, 0]) (hdeliver : ∀ t, code (some (.gate .deliver t)) = [1, byteOf t.val])
    (hmarked : ∀ t, code (some (.gate .deliverMarked t)) = [2, byteOf t.val])
    (hdivert : ∀ t, code (some (.gate .divert t)) = [3, byteOf t.val]) : code = orderBytes := by
  funext o
  cases o with
  | none => exact hnone
  | some o =>
    cases o with
    | gate d t =>
      cases d
      · exact hdeliver t
      · exact hmarked t
      · exact hdivert t
    | jawRelease => exact hjaw

theorem State.carriedTo_eq (s : State) (a : Address) :
    s.carriedTo a = s.link.exchange.bind fun ex => if ex.address = a then ex.carried else none := by
  unfold State.carriedTo
  cases s.link.exchange <;> rfl

/-- R166: the cycle of the eight addresses. -/
theorem nextAddress_eq (a : Address) : a + 1 = if h : a.val + 1 < 8 then ⟨a.val + 1, h⟩ else 0 := by
  revert a
  decide

theorem pollPayload_eq {st : Station} {code tag : Byte}
    (h : (code, tag) =
      match st.orders.head? with
      | none => (0, 0)
      | some (.gate .deliver t) => (1, byteOf t.val)
      | some (.gate .deliverMarked t) => (2, byteOf t.val)
      | some (.gate .divert t) => (3, byteOf t.val)
      | some .jawRelease => (4, 0)) :
    pollPayload st st.orders.head? = [if st.role = none then 1 else 0, code, tag] := by
  have hrole : boolByte st.role.isNone = if st.role = none then 1 else 0 := by cases st.role <;> rfl
  rw [pollPayload, hrole]
  revert h
  rcases st.orders.head? with - | ⟨⟨⟩ | ⟨⟩ | ⟨⟩, t⟩ | - <;> rintro ⟨⟩ <;> rfl

/-- Settles O47. -/
theorem pollCarriesOldestOrder : Obligations.PollCarriesOldestOrder := by
  refine ⟨fun s a => rfl, fun s a code tag hs hex hnext horder => ?_, fun s a kind payload => ⟨_, rfl, rfl⟩,
    fun s bytes => rfl, fun s hex => ?_, fun address s hs haddress => ?_,
    fun a s orderCode hs hnone hjaw hdeliver hmarked hdivert => ?_⟩
  · change Host.Outcome.next s.sendPoll = _
    subst hnext
    rw [State.sendPoll, if_pos ⟨hs, hex⟩]
    dsimp only
    rw [State.sendFrame_eq, pollPayload_eq horder, nextAddress_eq]
    cases (s.station s.link.next).orders.head? with
    | none => rfl
    | some o => cases o <;> rfl
  · change Host.Outcome.next s.sendPoll = _
    rw [State.sendPoll, if_neg fun h => hex h.2]
  · exact next_command (n := 1) hs (by simp only [State.readStation, addressOf_none haddress])
  · obtain rfl := orderBytes_unique hnone hjaw hdeliver hmarked hdivert
    refine next_command (n := 1) hs ?_
    simp only [State.readStation, addressOf_byteOf, State.stationBytes, State.carriedTo_eq]
    cases (s.station a).role <;> cases (s.station a).standing <;> rfl

end Sys2Proof.Machine
end

section
/-! SUPPORT. The receiver (R161, R167). -/

namespace Sys2Proof.Machine

open Sys2Proof.Safety

theorem not_mem_marks {b : Byte} (h : b ∉ [0xF2, 0xF3, 0xF4]) : b ≠ startMark ∧ b ≠ endMark ∧ b ≠ escapeMark := by
  simpa [startMark, endMark, escapeMark] using h

/-! ### One byte by the receiver's state (R161) -/

theorem State.receiveByte_outside {s : State} {b : Byte} (h : s.link.rx = .outside) :
    s.receiveByte b = if b = startMark then s.beginFrame else s := by
  simp only [State.receiveByte, h]

theorem State.receiveByte_start (s : State) : s.receiveByte startMark = s.beginFrame := by
  unfold State.receiveByte
  cases s.link.rx <;> exact if_pos rfl

theorem State.receiveByte_end {s : State} (h : s.link.rx = .inFrame) : s.receiveByte endMark = s.completeFrame := by
  simp only [State.receiveByte, h, if_true]
  exact if_neg (by decide)

theorem State.receiveByte_escape {s : State} (h : s.link.rx = .inFrame) :
    s.receiveByte escapeMark = s.setReceiver .escaped s.link.buffer := by
  simp only [State.receiveByte, h, if_true]
  exact (if_neg (by decide)).trans (if_neg (by decide))

theorem State.receiveByte_content {s : State} {b : Byte} (h : s.link.rx = .inFrame) (hb : b ∉ [0xF2, 0xF3, 0xF4]) :
    s.receiveByte b = s.takeContent b := by
  obtain ⟨hstart, hend, hescape⟩ := not_mem_marks hb
  simp only [State.receiveByte, h, if_neg hstart, if_neg hend, if_neg hescape]

theorem State.receiveByte_escaped {s : State} {b : Byte} (h : s.link.rx = .escaped) (hb : b ∈ [0xE2, 0xE3, 0xE4]) :
    s.receiveByte b = s.takeContent (b ^^^ 0x10) := by
  have hstart : b ≠ startMark := by
    rintro rfl
    exact absurd hb (by decide)
  have hin : b = 0xE2 ∨ b = 0xE3 ∨ b = 0xE4 := by simpa using hb
  simp only [State.receiveByte, h, if_neg hstart, if_pos hin]

theorem State.receiveByte_badEscape {s : State} {b : Byte} (h : s.link.rx = .escaped) (hb : b ∉ [0xF2, 0xE2, 0xE3, 0xE4]) :
    s.receiveByte b = s.abandonFrame := by
  have hnot : b ≠ startMark ∧ ¬(b = 0xE2 ∨ b = 0xE3 ∨ b = 0xE4) := by simpa [startMark] using hb
  simp only [State.receiveByte, h, if_neg hnot.1, if_neg hnot.2]

theorem State.takeContent_room {s : State} {b : Byte} (h : s.link.buffer.length < 38) :
    s.takeContent b = s.setReceiver .inFrame (s.link.buffer ++ [b]) := if_neg (by omega)

theorem State.takeContent_full {s : State} {b : Byte} (h : 38 ≤ s.link.buffer.length) : s.takeContent b = s.abandonFrame :=
  if_pos h

/-! ### Abandoned frames -/

/-- R161, R167: the three ways in which a frame in progress is abandoned by a byte. -/
theorem State.receiveByte_abandons {s : State} {b : Byte}
    (h : (s.link.rx = .inFrame ∧ b ∉ [0xF2, 0xF3, 0xF4] ∧ 38 ≤ s.link.buffer.length) ∨
      (s.link.rx = .escaped ∧ b ∈ [0xE2, 0xE3, 0xE4] ∧ 38 ≤ s.link.buffer.length) ∨
      (s.link.rx = .escaped ∧ b ∉ [0xF2, 0xE2, 0xE3, 0xE4])) : s.receiveByte b = s.abandonFrame := by
  rcases h with ⟨hrx, hb, hfull⟩ | ⟨hrx, hb, hfull⟩ | ⟨hrx, hb⟩
  · rw [State.receiveByte_content hrx hb, State.takeContent_full hfull]
  · rw [State.receiveByte_escaped hrx hb, State.takeContent_full hfull]
  · exact State.receiveByte_badEscape hrx hb

theorem State.abandonFrame_unique {abandoned : State → State}
    (hnone : ∀ u : State, u.link.exchange = none →
      abandoned u = { u with link := { u.link with rx := .outside, buffer := [] } })
    (hwindow : ∀ (u : State) (ex : Exchange), u.link.exchange = some ex → ex.awaiting = .window →
      abandoned u = { u with link := { u.link with rx := .outside, buffer := [] } })
    (hcandidate : ∀ (u : State) (ex : Exchange), u.link.exchange = some ex → ex.awaiting = .candidate →
      abandoned u = { u with link := { u.link with rx := .outside, buffer := [] } }.silence ex) :
    abandoned = State.abandonFrame := by
  funext u
  have hkept : (u.setReceiver .outside []).link.exchange = u.link.exchange := rfl
  unfold State.abandonFrame
  cases hex : u.link.exchange with
  | none =>
    simp only [hkept, hex]
    exact hnone u hex
  | some ex =>
    simp only [hkept, hex]
    cases haw : ex.awaiting with
    | window =>
      rw [if_neg (by decide)]
      exact hwindow u ex hex haw
    | candidate =>
      rw [if_pos rfl]
      exact hcandidate u ex hex haw

theorem State.breakFrame_outside {s : State} (h : s.link.rx = .outside) : s.breakFrame = s := if_pos h

theorem State.breakFrame_inside {s : State} (h : s.link.rx ≠ .outside) : s.breakFrame = s.abandonFrame := if_neg h

/-- R161, R167: a START, by the exchange in progress. -/
theorem State.beginFrame_none {s : State} (h : s.link.exchange = none) :
    s.beginFrame = { s with link := { s.link with rx := .inFrame, buffer := [] } } := by
  simp only [State.beginFrame, State.setReceiver, h]

theorem State.beginFrame_some {s : State} {ex : Exchange} (h : s.link.exchange = some ex) : s.beginFrame = { s with
    link := { s.link with rx := .inFrame, buffer := [], exchange := some { ex with awaiting := .candidate } } } := by
  simp only [State.beginFrame, State.setReceiver, h]

/-! ### The commands that bring a byte -/

theorem exec_linkByteReceived {s : State} (hc : s.check = .pass) (hd : s.link.direction = false) (b : Byte) :
    exec (.linkByteReceived b) s = .next (s.receiveByte b) :=
  congrArg _ (if_pos ⟨hc, hd⟩)

theorem exec_replyFrame {s : State} (hc : s.check = .pass) (hd : s.link.direction = false) (now : Word32) :
    exec (.replyFrame now) s = .next (({ s with timeBase := now } : State).receiveByte endMark) :=
  exec_linkByteReceived (s := { s with timeBase := now }) hc hd endMark

theorem exec_frameAbandoned {s : State} (hc : s.check = .pass) (hd : s.link.direction = false) (b : Byte) (now : Word32) :
    exec (.frameAbandoned (.byte b) now) s = .next (({ s with timeBase := now } : State).receiveByte b) :=
  exec_linkByteReceived (s := { s with timeBase := now }) hc hd b

/-- Settles O48. -/
theorem linkBytesMoveReceiver : Obligations.LinkBytesMoveReceiver := by
  refine ⟨fun s b now hd => ⟨?_, ?_, ?_⟩, fun s hc hd => ⟨fun b hrx hb => ?_, rfl, fun now => rfl, fun b now => rfl, fun hex => ?_,
    fun ex hex => ?_, fun hrx => ?_, fun b hrx hb hroom => ?_, fun b hrx hb hroom => ?_,
    fun abandoned hnone hwindow hcandidate => ?_⟩⟩
  · exact congrArg _ (State.linkByte_driving hd b)
  · exact congrArg _ (State.linkByte_driving (s := { s with timeBase := now }) hd _)
  · exact congrArg _ (State.linkByte_driving (s := { s with timeBase := now }) hd b)
  · rw [exec_linkByteReceived hc hd, State.receiveByte_outside hrx]
    exact congrArg _ (if_neg hb)
  · rw [exec_linkByteReceived hc hd]
    exact congrArg _ ((s.receiveByte_start).trans (State.beginFrame_none hex))
  · rw [exec_linkByteReceived hc hd]
    exact congrArg _ ((s.receiveByte_start).trans (State.beginFrame_some hex))
  · rw [exec_linkByteReceived hc hd]
    exact congrArg _ (State.receiveByte_escape hrx)
  · rw [exec_linkByteReceived hc hd, State.receiveByte_content hrx hb, State.takeContent_room hroom, ← hrx]
    rfl
  · rw [exec_linkByteReceived hc hd, State.receiveByte_escaped hrx hb, State.takeContent_room hroom]
    rfl
  · obtain rfl := State.abandonFrame_unique hnone hwindow hcandidate
    refine ⟨fun b now h => ⟨?_, ?_⟩, fun now => ⟨fun hrx => ?_, fun hrx => ?_, fun hrx => ⟨?_, ?_⟩, fun hrx => ⟨?_, ?_⟩⟩⟩
    · rw [exec_linkByteReceived hc hd, State.receiveByte_abandons h]
    · rw [exec_frameAbandoned hc hd, State.receiveByte_abandons (s := { s with timeBase := now }) h]
    · rw [exec_replyFrame hc hd, State.receiveByte_outside (s := { s with timeBase := now }) hrx]
      exact congrArg _ (if_neg (by decide))
    · rw [exec_replyFrame hc hd, State.receiveByte_badEscape (s := { s with timeBase := now }) hrx (by decide)]
    · exact congrArg _ (State.breakFrame_inside (s := { s with timeBase := now }) hrx)
    · exact congrArg _ (State.breakFrame_inside (s := { s with timeBase := now }) hrx)
    · exact congrArg _ (State.breakFrame_outside (s := { s with timeBase := now }) hrx)
    · exact congrArg _ (State.breakFrame_outside (s := { s with timeBase := now }) hrx)

end Sys2Proof.Machine
end

section
/-! SUPPORT. How stations leave and claim roles (R153, R171 to R174): what becomes of the blocks, the filter, the flags and
the other stations. -/

namespace Sys2Proof.Machine

open Sys2Proof.Safety

/-! ### The loss of the gate station -/

/-- R34, R35: only a delivery raises attention. -/
theorem State.retire_flags (s : State) {k : Retirement} (hk : k ≠ .delivered) (t : Tag) : (s.retire k t).flags = s.flags := by
  have hjob : ∀ (u : State) (p : Piece), (u.settleJob k p).flags = u.flags := fun u p => by
    unfold State.settleJob
    split
    · rfl
    · split
      · rfl
      · dsimp only
        rw [if_neg fun h => hk h.1]
        split <;> simp
  have hpulse : ∀ u : State, (u.retirePulse k).flags = u.flags := fun u => by cases k <;> rfl
  unfold State.retire
  split
  · rfl
  · rw [State.setPiece_flags, hpulse, hjob]
    rfl

theorem State.divertAllUnconfirmed_flags (ts : List Tag) (s : State) : (s.divertAllUnconfirmed ts).flags = s.flags := by
  induction ts generalizing s with
  | nil => rfl
  | cons t ts ih => exact (ih _).trans (State.retire_flags _ (by decide) t)

/-- The states differ in their stations, flags and filter only. -/
def SameLine (s u : State) : Prop := ∃ st fl fi, u = { s with stations := st, flags := fl, filter := fi }

theorem SameLine.refl (s : State) : SameLine s s := ⟨_, _, _, rfl⟩

theorem SameLine.takeOut {s u : State} (h : SameLine s u) (t : Tag) : SameLine (s.takeOut t) (u.takeOut t) := by
  obtain ⟨st, fl, fi, rfl⟩ := h
  exact ⟨_, _, _, rfl⟩

theorem SameLine.settleJob {s u : State} (h : SameLine s u) (k : Retirement) (p : Piece) :
    SameLine (s.settleJob k p) (u.settleJob k p) := by
  obtain ⟨st, fl, fi, rfl⟩ := h
  obtain ⟨hjobs, htables, -⟩ :=
    State.settleJob_congr (s := s) (u := { s with stations := st, flags := fl, filter := fi }) rfl rfl k p
  have hu := State.settleJob_frame { s with stations := st, flags := fl, filter := fi } k p
  have hs := s.settleJob_frame k p
  generalize ({ s with stations := st, flags := fl, filter := fi } : State).settleJob k p = w at *
  generalize s.settleJob k p = v at *
  refine ⟨st, w.flags, fi, ?_⟩
  rw [hjobs, htables] at hu
  rw [hu, hs]

theorem SameLine.retirePulse {s u : State} (h : SameLine s u) (k : Retirement) :
    SameLine (s.retirePulse k) (u.retirePulse k) := by
  obtain ⟨st, fl, fi, rfl⟩ := h
  cases k <;> exact ⟨_, _, _, rfl⟩

theorem SameLine.setPiece {s u : State} (h : SameLine s u) (t : Tag) (p : Option Piece) :
    SameLine (s.setPiece t p) (u.setPiece t p) := by
  obtain ⟨st, fl, fi, rfl⟩ := h
  exact ⟨_, _, _, rfl⟩

theorem SameLine.piece {s u : State} (h : SameLine s u) : u.piece = s.piece := by
  obtain ⟨st, fl, fi, rfl⟩ := h
  rfl

/-- What a retirement does to the line rests on nothing else. -/
theorem SameLine.retire {s u : State} (h : SameLine s u) (k : Retirement) (t : Tag) :
    SameLine (s.retire k t) (u.retire k t) := by
  unfold State.retire
  rw [h.piece]
  cases s.piece t with
  | none => exact h.takeOut t
  | some p => exact (((h.takeOut t).settleJob k p).retirePulse k).setPiece t none

theorem SameLine.divertUnconfirmed {s u : State} (h : SameLine s u) (t : Tag) :
    SameLine (s.divertUnconfirmed t) (u.divertUnconfirmed t) := by
  unfold State.divertUnconfirmed State.addFault State.updatePiece
  rw [h.piece]
  exact (h.setPiece t _).retire .diverted t

theorem SameLine.divertAllUnconfirmed {s u : State} (h : SameLine s u) (ts : List Tag) :
    SameLine (s.divertAllUnconfirmed ts) (u.divertAllUnconfirmed ts) := by
  induction ts generalizing s u with
  | nil => exact h
  | cons t ts ih => exact ih (h.divertUnconfirmed t)

theorem SameLine.loseGateStation {s u : State} (h : SameLine s u) : SameLine s.loseGateStation u.loseGateStation := by
  have hqueue : u.gateQueue = s.gateQueue := by
    obtain ⟨st, fl, fi, rfl⟩ := h
    rfl
  unfold State.loseGateStation
  rw [hqueue]
  exact h.divertAllUnconfirmed s.gateQueue

theorem SameLine.trans {s u w : State} (h : SameLine s u) (g : SameLine u w) : SameLine s w := by
  obtain ⟨st, fl, fi, rfl⟩ := h
  obtain ⟨st', fl', fi', rfl⟩ := g
  exact ⟨_, _, _, rfl⟩

theorem SameLine.frame {s u : State} (h : SameLine s u) :
    u = { s with stations := u.stations, flags := u.flags, filter := u.filter } := by
  obtain ⟨st, fl, fi, rfl⟩ := h
  rfl

theorem State.removed_loseGateStation (s : State) : Removed s.gateQueue s s.loseGateStation :=
  Removed.divertAllUnconfirmed s s.gateQueue

theorem State.loseGateStation_flags (s : State) : s.loseGateStation.flags = s.flags :=
  State.divertAllUnconfirmed_flags s.gateQueue s

theorem State.loseGateStation_filter (s : State) : s.loseGateStation.filter = s.filter := by
  rw [s.removed_loseGateStation.frame]

theorem State.loseGateStation_link (s : State) : s.loseGateStation.link = s.link := by
  rw [s.removed_loseGateStation.frame]

theorem State.loseGateStation_gateQueue (s : State) : s.loseGateStation.gateQueue = [] := by
  rw [s.removed_loseGateStation.gateQueue]
  simp

theorem State.loseGateStation_again (s : State) : s.loseGateStation.loseGateStation = s.loseGateStation := by
  rw [State.loseGateStation, s.loseGateStation_gateQueue]
  rfl

/-! ### Changes of role -/

/-- R100, R153, R171 to R174: what changes of role make of the part beside its stations, where the holder of GATE or that
of PRESS is lost by them or is not. -/
structure RoleMove (gate press : Prop) (s u : State) : Prop where
  gone : gate → SameLine s.loseGateStation u
  kept : ¬gate → SameLine s u
  unsettled : press → u.filter = s.filter.unsettle
  settled : ¬press → u.filter = s.filter
  flags : u.flags = s.flags ∨ u.flags = s.flags ||| 0x040

namespace RoleMove

theorem stations (s : State) (st : Vector Station 8) : RoleMove False False s { s with stations := st } where
  gone := False.elim
  kept _ := ⟨_, _, _, rfl⟩
  unsettled := False.elim
  settled _ := rfl
  flags := .inl rfl

theorem setStation (s : State) (a : Address) (st : Station) : RoleMove False False s (s.setStation a st) := stations s _

theorem raise (s : State) : RoleMove False False s (s.raise .stationChange) where
  gone := False.elim
  kept _ := ⟨_, _, _, rfl⟩
  unsettled := False.elim
  settled _ := rfl
  flags := .inr rfl

theorem refl (s : State) : RoleMove False False s s := stations s s.stations

theorem unsettleFilter (s : State) : RoleMove False True s s.unsettleFilter where
  gone := False.elim
  kept _ := ⟨_, _, _, rfl⟩
  unsettled _ := rfl
  settled h := absurd trivial h
  flags := .inl rfl

theorem loseGateStation (s : State) : RoleMove True False s s.loseGateStation where
  gone _ := .refl _
  kept h := absurd trivial h
  unsettled := False.elim
  settled _ := s.loseGateStation_filter
  flags := .inl s.loseGateStation_flags

theorem trans {g p g' p' : Prop} {s u w : State} (h : RoleMove g p s u) (h' : RoleMove g' p' u w) :
    RoleMove (g ∨ g') (p ∨ p') s w where
  gone hor := by
    by_cases hg : g <;> by_cases hg' : g'
    · have hw := (h.gone hg).loseGateStation.trans (h'.gone hg')
      rwa [s.loseGateStation_again] at hw
    · exact (h.gone hg).trans (h'.kept hg')
    · exact (h.kept hg).loseGateStation.trans (h'.gone hg')
    · exact absurd hor (by simp [hg, hg'])
  kept hor := (h.kept fun hg => hor (.inl hg)).trans (h'.kept fun hg => hor (.inr hg))
  unsettled hor := by
    by_cases hp : p <;> by_cases hp' : p'
    · rw [h'.unsettled hp', h.unsettled hp]
      rfl
    · rw [h'.settled hp', h.unsettled hp]
    · rw [h'.unsettled hp', h.settled hp]
    · exact absurd hor (by simp [hp, hp'])
  settled hor := (h'.settled fun hp => hor (.inr hp)).trans (h.settled fun hp => hor (.inl hp))
  flags := by
    rcases h.flags with e | e <;> rcases h'.flags with e' | e' <;> rw [e', e]
    · exact .inl rfl
    · exact .inr rfl
    · exact .inr rfl
    · exact .inr (by rw [BitVec.or_assoc, BitVec.or_self])

theorem congr {g p g' p' : Prop} {s u : State} (h : RoleMove g p s u) (hg : g' ↔ g) (hp : p' ↔ p) : RoleMove g' p' s u := by
  rw [propext hg, propext hp]
  exact h

/-- After a change of standing attention STATION_CHANGE is raised. -/
theorem raised {g p : Prop} {s u : State} (h : RoleMove g p s u) : (u.raise .stationChange).flags = s.flags ||| 0x040 := by
  change u.flags ||| 0x040 = _
  rcases h.flags with e | e <;> rw [e]
  rw [BitVec.or_assoc, BitVec.or_self]

theorem thenStation {g p : Prop} {s u : State} (h : RoleMove g p s u) (a : Address) (st : Station) :
    RoleMove g p s (u.setStation a st) := (h.trans (setStation u a st)).congr (by simp) (by simp)

theorem thenRaise {g p : Prop} {s u : State} (h : RoleMove g p s u) : RoleMove g p s (u.raise .stationChange) :=
  (h.trans (raise u)).congr (by simp) (by simp)

theorem blocksLose (s : State) (r : Role) : RoleMove (r = .gate) (r = .press) s (s.blocksLose r) := by
  cases r
  case gate => exact (loseGateStation s).congr (by simp) (by simp)
  case press => exact (unsettleFilter s).congr (by simp) (by simp)
  all_goals exact (refl s).congr (by simp) (by simp)

theorem holderLost (s : State) (a : Address) (r : Role) : RoleMove (r = .gate) (r = .press) s (s.holderLost a r) :=
  (blocksLose s r).thenStation a _

theorem resolveConflict (s : State) (r : Role) : RoleMove False False s (s.resolveConflict r) := by
  unfold State.resolveConflict
  split
  · exact (setStation s _ _).thenRaise
  · exact refl s

theorem leaveRole (s : State) (a : Address) : RoleMove (Holds s a .gate) (Holds s a .press) s (s.leaveRole a) := by
  unfold State.leaveRole
  split
  · next r hr hst => exact ((holderLost s a r).thenStation a _).congr (by simp [Holds, hr, hst]) (by simp [Holds, hr, hst])
  · next r hr hst =>
    exact ((setStation s a _).trans (resolveConflict _ r)).congr (by simp [Holds, hst]) (by simp [Holds, hst])
  · next h1 h2 =>
    refine (setStation s a _).congr ?_ ?_ <;>
    · rw [iff_false]
      exact fun h => h1 _ h.1 h.2

end RoleMove

/-! ### The entries of the stations -/

theorem State.station_blocksLose (s : State) (r : Role) :
    (s.blocksLose r).station = if r = .gate then s.loseGateStation.station else s.station := by
  cases r <;> rfl

theorem State.station_holderLost (s : State) (a : Address) (r : Role) {b : Address} (hb : b ≠ a) :
    (s.holderLost a r).station b = if r = .gate then s.loseGateStation.station b else s.station b := by
  rw [State.holderLost, State.station_setStation, if_neg hb, State.station_blocksLose]
  split <;> rfl

/-- R174: a conflict is over when one PRESENT claimant is left. -/
theorem State.claimants_eq_singleton {s : State} {r : Role} {b : Address} : s.claimants r = [b] ↔
    ((s.station b).present = true ∧ (s.station b).role = some r) ∧
      ∀ c, c ≠ b → ¬((s.station c).present = true ∧ (s.station c).role = some r) := by
  have hnodup : (s.claimants r).Nodup := (List.nodup_finRange 8).filter _
  constructor
  · intro h
    refine ⟨State.mem_claimants.1 (h ▸ List.mem_singleton_self b), fun c hc hin => hc ?_⟩
    have hmem := State.mem_claimants.2 hin
    rwa [h, List.mem_singleton] at hmem
  · rintro ⟨hb, honly⟩
    refine List.perm_singleton.1 ((List.perm_ext_iff_of_nodup hnodup (List.nodup_singleton b)).2 fun c => ?_)
    rw [State.mem_claimants, List.mem_singleton]
    refine ⟨fun hc => ?_, fun hc => hc ▸ hb⟩
    by_contra hne
    exact honly c hne hc

theorem State.station_resolveConflict_last {s : State} {r : Role} {b : Address} (h : s.claimants r = [b]) :
    (s.resolveConflict r).station b = { s.station b with standing := some .assigned } := by
  have hset : s.resolveConflict r = s.setStanding b .assigned := by simp only [State.resolveConflict, h]
  rw [hset]
  exact (s.station_setStation b b _).trans (if_pos rfl)

theorem State.station_resolveConflict_other {s : State} {r : Role} {b : Address} (h : s.claimants r ≠ [b]) :
    (s.resolveConflict r).station b = s.station b := by
  unfold State.resolveConflict
  split
  · next c hc =>
    have hne : b ≠ c := fun e => h (e ▸ hc)
    exact (s.station_setStation c b _).trans (if_neg hne)
  · rfl

/-- R174: the station is the one PRESENT claimant left of the conflict that another one leaves. -/
def Recovers (s : State) (a b : Address) : Prop :=
  (s.station a).standing = some .conflict ∧ (s.station a).role.isSome ∧ (s.station b).present = true ∧
    (s.station b).role = (s.station a).role ∧
    ∀ c, c ≠ a → c ≠ b → ¬((s.station c).present = true ∧ (s.station c).role = (s.station a).role)

theorem State.claimants_clearRole {s : State} {a b : Address} {r : Role} (hr : (s.station a).role = some r)
    (hst : (s.station a).standing = some .conflict) (hb : b ≠ a) :
    (s.clearRole a).claimants r = [b] ↔ Recovers s a b := by
  have hother : ∀ c, c ≠ a → (s.clearRole a).station c = s.station c := fun c hc => by
    rw [State.station_clearRole, if_neg hc]
  have hself : ((s.clearRole a).station a).role = none := by rw [State.station_clearRole, if_pos rfl]
  rw [State.claimants_eq_singleton, hother b hb, Recovers, hr, hst]
  simp only [Option.isSome_some, true_and, and_assoc]
  refine and_congr_right fun _ => and_congr_right fun _ => ⟨fun h c hca hcb => ?_, fun h c hcb => ?_⟩
  · rw [← hother c hca]
    exact h c hcb
  · by_cases hca : c = a
    · rw [hca, hself]
      simp
    · rw [hother c hca]
      exact h c hca hcb

/-- R153, R174: the other stations when one leaves its role. -/
theorem State.station_leaveRole_other (s : State) {a b : Address} (hb : b ≠ a) :
    (Holds s a .gate → (s.leaveRole a).station b = s.loseGateStation.station b) ∧
    (¬Holds s a .gate → Recovers s a b → (s.leaveRole a).station b = { s.station b with standing := some .assigned }) ∧
    (¬Holds s a .gate → ¬Recovers s a b → (s.leaveRole a).station b = s.station b) := by
  unfold State.leaveRole
  split
  · next r hr hst =>
    have hstation : ((s.holderLost a r).clearRole a).station b =
        if r = .gate then s.loseGateStation.station b else s.station b := by
      rw [State.station_clearRole, if_neg hb, s.station_holderLost a r hb]
    have hgate : Holds s a .gate ↔ r = .gate := by simp [Holds, hr, hst]
    have hno : ¬Recovers s a b := fun h => absurd h.1 (by simp [hst])
    rw [hstation, hgate]
    exact ⟨fun h => if_pos h, fun _ h => absurd h hno, fun h _ => if_neg h⟩
  · next r hr hst =>
    have hno : ¬Holds s a .gate := fun h => absurd h.2 (by simp [hst])
    have hsame : (s.clearRole a).station b = s.station b := by rw [State.station_clearRole, if_neg hb]
    refine ⟨fun h => absurd h hno, fun _ h => ?_, fun _ h => ?_⟩
    · rw [State.station_resolveConflict_last ((State.claimants_clearRole hr hst hb).2 h), hsame]
    · rw [State.station_resolveConflict_other (mt (State.claimants_clearRole hr hst hb).1 h), hsame]
  · next h1 h2 =>
    have hsame : (s.clearRole a).station b = s.station b := by rw [State.station_clearRole, if_neg hb]
    refine ⟨fun h => absurd h.2 (h1 _ h.1), fun _ h => ?_, fun _ _ => hsame⟩
    obtain ⟨r, hr⟩ := Option.isSome_iff_exists.1 h.2.1
    exact absurd h.1 (h2 r hr)

/-- R174: a station that has left its role claims none. -/
theorem State.station_leaveRole_self (s : State) (a : Address) :
    ((s.leaveRole a).station a).role = none ∧ ((s.leaveRole a).station a).standing = none := by
  unfold State.leaveRole
  split
  · rw [State.station_clearRole, if_pos rfl]
    exact ⟨rfl, rfl⟩
  · have hself : ((s.clearRole a).station a).role = none := by rw [State.station_clearRole, if_pos rfl]
    rw [State.station_resolveConflict_of_roleless hself, State.station_clearRole, if_pos rfl]
    exact ⟨rfl, rfl⟩
  · rw [State.station_clearRole, if_pos rfl]
    exact ⟨rfl, rfl⟩

end Sys2Proof.Machine
end

section
/-! SUPPORT. The end of an exchange (R162, R166 to R169, R171, R174). -/

namespace Sys2Proof.Machine

open Sys2Proof.Safety

/-! ### A completed frame (R162, R167) -/

theorem State.completeFrame_none {s : State} (h : s.link.exchange = none) : s.completeFrame = s.setReceiver .outside [] := by
  simp only [State.completeFrame, State.setReceiver, h]

theorem State.completeFrame_window {s : State} {ex : Exchange} (h : s.link.exchange = some ex) (hw : ex.awaiting = .window) :
    s.completeFrame = s.setReceiver .outside [] := by
  simp only [State.completeFrame, State.setReceiver, h, hw, if_true]

theorem State.completeFrame_bad {s : State} {ex : Exchange} (h : s.link.exchange = some ex) (hw : ex.awaiting = .candidate)
    (hj : judgeReply s.link.buffer = none) : s.completeFrame = (s.setReceiver .outside []).silence ex := by
  simp only [State.completeFrame, State.setReceiver, h, hw, hj, reduceCtorEq, if_false]

theorem State.completeFrame_reply {s : State} {ex : Exchange} {source : Byte} {payload : List Byte}
    (h : s.link.exchange = some ex) (hw : ex.awaiting = .candidate) (hj : judgeReply s.link.buffer = some (source, payload)) :
    s.completeFrame = if source = byteOf (ex.address.val + 1) then (s.setReceiver .outside []).validReply ex payload
      else (s.setReceiver .outside []).silence ex := by
  simp only [State.completeFrame, State.setReceiver, h, hw, hj, reduceCtorEq, if_false]
  rfl

theorem State.replyTimeout_window {s : State} {ex : Exchange} (h : s.link.exchange = some ex) (hw : ex.awaiting = .window) :
    s.replyTimeout = s.silence ex := by
  simp only [State.replyTimeout, h, hw, if_true]

theorem State.replyTimeout_still {s : State} (h : ∀ ex, s.link.exchange = some ex → ex.awaiting = .candidate) :
    s.replyTimeout = s := by
  unfold State.replyTimeout
  cases hex : s.link.exchange with
  | none => rfl
  | some ex =>
    dsimp only
    rw [h ex hex]
    rfl

/-! ### Silence (R169, R171) -/

/-- R152, R168, R169: the order in flight ends where the POLL carried one. -/
theorem endFlight_eq (ex : Exchange) (s u : State) : (if ex.carriesGate then u else s) =
    match ex.carried with
    | some (.gate _ _) => u
    | some .jawRelease => s
    | none => s := by
  unfold Exchange.carriesGate
  rcases ex.carried with - | ⟨d, t⟩ | - <;> rfl

theorem State.countSilence_present {s : State} {a : Address} (hp : (s.station a).present = true)
    (hs : (s.station a).silent < 2) :
    s.countSilence a = s.setStation a { s.station a with silent := (s.station a).silent + 1 } := by
  simp only [State.countSilence, hp, if_true]
  exact if_pos (by omega)

theorem State.countSilence_absent {s : State} {a : Address} (hp : (s.station a).present = false) :
    s.countSilence a = s.setStation a { s.station a with silent := 3 } := by
  simp only [State.countSilence, hp, Bool.false_eq_true, if_false]

theorem State.countSilence_third {s : State} {a : Address} (hp : (s.station a).present = true)
    (hs : 2 ≤ (s.station a).silent) : s.countSilence a = s.goAbsent a := by
  simp only [State.countSilence, hp, if_true]
  exact if_neg (by omega)

/-- R171: the entry of a station that has gone ABSENT. -/
theorem State.station_goAbsent_self (s : State) (a : Address) : (s.goAbsent a).station a =
    { present := false, latch := true, silent := 3, role := none, standing := none, abilities := 0, orders := [] } := by
  obtain ⟨hrole, hstanding⟩ := s.station_leaveRole_self a
  refine ((s.leaveRole a).station_setStation a a _).trans ?_
  rw [if_pos rfl]
  dsimp only
  rw [hrole, hstanding]

theorem State.station_goAbsent_other (s : State) {a b : Address} (hb : b ≠ a) :
    (s.goAbsent a).station b = (s.leaveRole a).station b :=
  ((s.leaveRole a).station_setStation a b _).trans (if_neg hb)

theorem RoleMove.goAbsent (s : State) (a : Address) : RoleMove (Holds s a .gate) (Holds s a .press) s (s.goAbsent a) :=
  ((RoleMove.leaveRole s a).thenStation a _).thenRaise

theorem State.goAbsent_flags (s : State) (a : Address) : (s.goAbsent a).flags = s.flags ||| 0x040 :=
  ((RoleMove.leaveRole s a).thenStation a _).raised

/-- R153, R174: the line, when the station that goes ABSENT held GATE. -/
theorem State.goAbsent_gate {s : State} {a : Address} (h : Holds s a .gate) : s.goAbsent a =
    { s.loseGateStation with stations := (s.goAbsent a).stations, flags := s.flags ||| 0x040 } := by
  have hframe := ((RoleMove.goAbsent s a).gone h).frame
  have hfilter := (RoleMove.goAbsent s a).settled fun hp => absurd (h.1.symm.trans hp.1) (by simp)
  rw [s.goAbsent_flags, hfilter, ← s.loseGateStation_filter] at hframe
  exact hframe

theorem State.goAbsent_noGate {s : State} {a : Address} (h : ¬Holds s a .gate) : s.goAbsent a =
    { s with stations := (s.goAbsent a).stations, flags := s.flags ||| 0x040, filter := (s.goAbsent a).filter } := by
  have hframe := ((RoleMove.goAbsent s a).kept h).frame
  rw [s.goAbsent_flags] at hframe
  exact hframe

theorem State.goAbsent_link (s : State) (a : Address) : (s.goAbsent a).link = s.link := by
  by_cases h : Holds s a .gate
  · rw [State.goAbsent_gate h]
    exact s.loseGateStation_link
  · rw [State.goAbsent_noGate h]

/-- R171, R174: what a third silence makes of the part. -/
theorem State.thirdSilence (g : State) (a : Address) : ∃ t, t = (g.goAbsent a).endExchange ∧
    t.link = { g.link with exchange := none } ∧ t.flagSet .stationChange = true ∧
    t.station a =
      { present := false, latch := true, silent := 3, role := none, standing := none, abilities := 0, orders := [] } ∧
    (Holds g a .gate → t = { g.loseGateStation with
        stations := t.stations
        flags := g.flags ||| 0x040
        link := { g.link with exchange := none } } ∧
      ∀ b, b ≠ a → t.station b = g.loseGateStation.station b) ∧
    (¬Holds g a .gate → t = { g with
        stations := t.stations
        flags := g.flags ||| 0x040
        filter := t.filter
        link := { g.link with exchange := none } } ∧
      ∀ b, b ≠ a → (Recovers g a b → t.station b = { g.station b with standing := some .assigned }) ∧
        (¬Recovers g a b → t.station b = g.station b)) ∧
    (¬Holds g a .press → t.filter = g.filter) ∧ (Holds g a .press → t.filter = g.filter.unsettle) := by
  have hlink := g.goAbsent_link a
  have hmove := RoleMove.goAbsent g a
  refine ⟨_, rfl, ?_, (g.leaveRole a).setStation a _ |>.flagSet_raise_self _, g.station_goAbsent_self a, fun hgate => ⟨?_, fun b hb => ?_⟩,
    fun hgate => ⟨?_, fun b hb => ⟨fun hrec => ?_, fun hrec => ?_⟩⟩, hmove.settled, hmove.unsettled⟩
  · rw [State.endExchange, hlink]
  · have hframe := State.goAbsent_gate hgate
    generalize g.goAbsent a = v at hframe hlink ⊢
    rw [State.endExchange, hlink]
    conv_lhs => rw [hframe]
  · exact (g.station_goAbsent_other hb).trans ((g.station_leaveRole_other hb).1 hgate)
  · have hframe := State.goAbsent_noGate hgate
    generalize g.goAbsent a = v at hframe hlink ⊢
    rw [State.endExchange, hlink]
    conv_lhs => rw [hframe]
  · exact (g.station_goAbsent_other hb).trans ((g.station_leaveRole_other hb).2.1 hgate hrec)
  · exact (g.station_goAbsent_other hb).trans ((g.station_leaveRole_other hb).2.2 hgate hrec)

/-- R168: a valid reply from the polled station. -/
theorem State.markPresent_eq (s : State) (a : Address) : s.markPresent a = { s with
    stations := s.stations.set a { s.station a with present := true, silent := 0 }
    flags := if (s.station a).present = true then s.flags else s.flags ||| 0x040 } := by
  cases hp : (s.station a).present <;> simp only [State.markPresent, hp, State.raiseIf] <;> rfl

/-- Settles O49. -/
theorem replyOrSilenceEndsExchange : Obligations.ReplyOrSilenceEndsExchange := by
  refine ⟨fun s now u hc hd hrx hu => ?_, fun s now => ⟨fun ex hex hw => ?_, fun h => ?_⟩, fun s ex g hg => ?_,
    fun s ex payload m c hm hcc => ?_⟩
  · rw [exec_replyFrame hc hd, State.receiveByte_end (s := { s with timeBase := now }) hrx]
    subst hu
    exact ⟨fun hex => congrArg _ (State.completeFrame_none (s := { s with timeBase := now }) hex),
      fun ex hex => ⟨fun hw => congrArg _ (State.completeFrame_window (s := { s with timeBase := now }) hex hw),
        fun hw hj => congrArg _ (State.completeFrame_bad (s := { s with timeBase := now }) hex hw hj),
        fun source payload hw hj => congrArg _ (State.completeFrame_reply (s := { s with timeBase := now }) hex hw hj)⟩⟩
  · exact congrArg _ (State.replyTimeout_window (s := { s with timeBase := now }) hex hw)
  · exact congrArg _ (State.replyTimeout_still (s := { s with timeBase := now }) h)
  · have hsilence : s.silence ex = (g.countSilence ex.address).endExchange := by
      rw [State.silence, endFlight_eq, hg] <;> rfl
    rw [hsilence]
    refine ⟨fun hp hlow => ?_, fun hp => ?_, fun hp hthird => ?_⟩
    · rw [State.countSilence_present hp hlow]
      rfl
    · rw [State.countSilence_absent hp]
      rfl
    · rw [State.countSilence_third hp hthird]
      obtain ⟨t, ht, hlink, hflag, hself, hgate, hnoGate, hkept, hunsettled⟩ := g.thirdSilence ex.address
      refine ⟨t, ht, hlink, hflag, hself, fun hr hst => ?_, fun hno => ⟨(hnoGate hno).1, fun b hb => ?_⟩, hkept,
        fun hr hst => hunsettled ⟨hr, hst⟩⟩
      · obtain ⟨hframe, hothers⟩ := hgate ⟨hr, hst⟩
        refine ⟨?_, ?_, ?_, ?_, ?_, hframe, hothers⟩ <;> rw [hframe]
        exact g.loseGateStation_gateQueue
      · obtain ⟨hrec, hsame⟩ := (hnoGate hno).2 b hb
        split
        · next h => exact hrec h
        · next h => exact hsame h
  · rw [State.validReply]
    dsimp only
    rw [State.markPresent_eq, ← hm, endFlight_eq, hcc] <;> rfl

end Sys2Proof.Machine
end

section
/-! SUPPORT. Reports and verdicts (R64, R95, R131, R164, R165, R168). -/

namespace Sys2Proof.Machine

open Sys2Proof.Safety

/-! ### The bytes of a report (R164) -/

theorem parseReport_bytes (report : Report) : parseReport report.bytes = some report := by
  cases report <;>
    simp [Report.bytes, parseReport, split16, split24, split32, join16_split, join24_split, join32_split]

theorem bytes_of_parseReport {payload : List Byte} {report : Report} (h : parseReport payload = some report) :
    payload = report.bytes := by
  revert h
  unfold parseReport
  split
  · next t k0 k1 k2 k3 c0 c1 h0 h1 =>
    split
    · next ht =>
      rintro ⟨⟩
      simp [Report.bytes, join32, join16, split32_append, split16_append, ht]
    · simp
  · next t c0 c1 c2 =>
    split
    · next ht =>
      rintro ⟨⟩
      simp [Report.bytes, join24, split24_append, ht]
    · simp
  · next t b c =>
    split
    · next ht =>
      rintro ⟨⟩
      simp [Report.bytes, join16, split16_append, ht]
    · split
      · next ht =>
        rintro ⟨⟩
        simp [Report.bytes, ht]
      · simp
  · next t c0 c1 c2 n0 n1 =>
    split
    · next ht =>
      rintro ⟨⟩
      simp [Report.bytes, join24, join16, split24_append, split16_append, ht]
    · simp
  · simp

/-! ### A report in a valid reply (R168) -/

theorem State.takePayload_malformed {s : State} {a : Address} {payload : List Byte} (h : parseReport payload = none) :
    s.takePayload a payload = s := by
  simp only [State.takePayload, h]

theorem State.takePayload_quiet {s t : State} {a : Address} {report : Report} (h : s.takeReport a report = (none, t)) :
    s.takePayload a report.bytes = t := by
  simp only [State.takePayload, parseReport_bytes, h]

theorem State.takePayload_answered {s t : State} {a : Address} {report : Report} {v : Verdict}
    (h : s.takeReport a report = (some v, t)) : s.takePayload a report.bytes = t.sendFrame a kindVerdict v.bytes := by
  simp only [State.takePayload, parseReport_bytes, h]

theorem State.takeReport_held {s : State} {a : Address} {r : Role} {report : Report} (h : Holds s a r)
    (hreport : ∀ role abilities, report ≠ .announce role abilities) :
    s.takeReport a report = s.handReport r (s.station a).abilities report := by
  obtain ⟨hrole, hstanding⟩ := h
  cases report
  case announce role abilities => exact absurd rfl (hreport role abilities)
  all_goals simp only [State.takeReport, hrole, hstanding]

theorem State.takeReport_unheld {s : State} {a : Address} {report : Report} (h : (s.station a).standing ≠ some .assigned)
    (hreport : ∀ role abilities, report ≠ .announce role abilities) : s.takeReport a report = (none, s) := by
  cases report
  case announce role abilities => exact absurd rfl (hreport role abilities)
  all_goals
    simp only [State.takeReport]
    split
    · next hst => exact absurd hst h
    · rfl

theorem hasAbility_eq (abilities : Byte) (k : Ability) : hasAbility abilities k = decide (abilities &&& k.bit ≠ 0) := by
  rw [Bool.eq_iff_iff]
  simp [hasAbility]

/-- R168: a scan that its block answers. -/
theorem State.takePayload_scan {s : State} {a : Address} {r r' : Role} {report : Report} {o : Verdict × State}
    {answer : Verdict × State → State} (h : Holds s a r) (hreport : ∀ role abilities, report ≠ .announce role abilities)
    (hanswer : ∀ v t, answer (v, t) = { t with link := { t.link with
      rx := .outside
      buffer := []
      sent := onLine (frameContent (byteOf (a.val + 1)) 0x00 0x56 v.bytes)
      direction := false } })
    (hown : s.handReport r' (s.station a).abilities report = (some o.1, o.2))
    (hother : r ≠ r' → s.handReport r (s.station a).abilities report = (none, s)) :
    s.takePayload a report.bytes = if r = r' then answer o else s := by
  have htake := State.takeReport_held h hreport
  by_cases hr : r = r'
  · subst hr
    rw [if_pos rfl, State.takePayload_answered (htake.trans hown), State.sendFrame_eq]
    exact (hanswer o.1 o.2).symm
  · rw [if_neg hr, State.takePayload_quiet (htake.trans (hother hr))]

theorem Verdict.bytes_eq (v : Verdict) : v.bytes =
    match v with
    | .admitted t n f => [0x01, byteOf t.val] ++ split16 n ++ split16 f
    | .admitReject t n f => [0x02, byteOf t.val] ++ split16 n ++ split16 f
    | .holdFeed .zoneStopped => [0x03, 1]
    | .holdFeed .queueFull => [0x03, 2]
    | .holdFeed .noRecord => [0x03, 3]
    | .holdFeed .jobWaiting => [0x03, 4]
    | .accept => [0x10]
    | .skip => [0x11]
    | .rejectPass => [0x12]
    | .rejectHold => [0x13]
    | .hold => [0x14] := by
  cases v with
  | holdFeed r => cases r <;> rfl
  | _ => rfl

/-- Settles O50. -/
theorem reportsReachTheirBlocks : Obligations.ReportsReachTheirBlocks := by
  refine ⟨fun report => by cases report <;> rfl, parseReport_bytes, fun payload report => bytes_of_parseReport,
    fun s a payload h => ?_, fun s a role abilities => State.takePayload_quiet rfl,
    fun s a report hreport h => State.takePayload_quiet (State.takeReport_unheld h hreport), fun v => ?_,
    fun s a r answer h hanswer => ⟨fun key copy thickness => ?_, fun code => ?_, fun code copy => ?_, fun sample => ?_⟩⟩
  · refine State.takePayload_malformed ?_
    cases hp : parseReport payload with
    | none => rfl
    | some report => exact absurd (bytes_of_parseReport hp) (h report)
  · rw [Verdict.bytes_eq] <;> rfl
  · refine State.takePayload_scan h nofun hanswer ?_ fun hr => ?_
    · rw [State.handReport, hasAbility_eq] <;> rfl
    · cases r <;> first | rfl | exact absurd rfl hr
  · refine State.takePayload_scan h nofun hanswer ?_ fun hr => ?_
    · rw [State.handReport, hasAbility_eq] <;> rfl
    · cases r <;> first | rfl | exact absurd rfl hr
  · refine State.takePayload_scan h nofun hanswer ?_ fun hr => ?_
    · rw [State.handReport, hasAbility_eq, hasAbility_eq] <;> rfl
    · cases r <;> first | rfl | exact absurd rfl hr
  · refine State.takePayload_quiet ((State.takeReport_held (report := .temp sample) h nofun).trans ?_)
    cases r
    case press =>
      rw [State.handReport, hasAbility_eq]
      exact congrArg _ (if_congr (decide_eq_true_iff.trans ⟨fun hbit => ⟨rfl, hbit⟩, And.right⟩) rfl rfl)
    all_goals rfl

end Sys2Proof.Machine
end

section
/-! SUPPORT. The CRC of a link frame (R160): bit by bit, what it leaves, and that it settles its two bytes. -/

namespace Sys2Proof.Machine

open Sys2Proof.Safety

/-! ### One bit of the register -/

theorem crcBit_eq (c : Word16) : crcBit c = (c <<< 1) ^^^ (if c.msb then 0x8005 else 0) := by
  unfold crcBit
  split <;> simp

theorem xor_both (x y p : Word16) : (x ^^^ p) ^^^ (y ^^^ p) = x ^^^ y := by
  have h : (x ^^^ p) ^^^ (y ^^^ p) = (x ^^^ y) ^^^ (p ^^^ p) := by ac_rfl
  rw [h, BitVec.xor_self, BitVec.xor_zero]

theorem crcBit_xor (a b : Word16) : crcBit (a ^^^ b) = crcBit a ^^^ crcBit b := by
  rw [crcBit_eq, crcBit_eq, crcBit_eq, BitVec.msb_xor, BitVec.shiftLeft_xor_distrib]
  cases a.msb <;> cases b.msb
  · simp
  · simp [BitVec.xor_assoc]
  · simp only [Bool.bne_false, if_true, Bool.false_eq_true, if_false]
    ac_rfl
  · exact (BitVec.xor_zero).trans (xor_both _ _ _).symm

/-- The register after eight bits. -/
def crcShift (c : Word16) : Word16 := (List.range 8).foldl (fun c _ => crcBit c) c

theorem crcByte_eq (c : Word16) (b : Byte) : crcByte c b = crcShift (c ^^^ (b.setWidth 16 <<< 8)) := rfl

theorem crcShift_xor (a b : Word16) : crcShift (a ^^^ b) = crcShift a ^^^ crcShift b := by
  simp only [crcShift, List.range_succ, List.range_zero, List.nil_append, List.foldl_append, List.foldl_cons, List.foldl_nil,
    crcBit_xor]

/-- One step of the division, the next bit of the byte taken against the register's first. -/
def crcStep (b : Byte) (c : Word16) (i : Nat) : Word16 := (c <<< 1) ^^^ (if c.msb = b.getLsbD i then 0 else 0x8005)

/-- The byte waits at the register's top, its next bit first. -/
theorem crcBit_waiting (b : Byte) (c : Word16) (k : Nat) (hk : k < 8) :
    crcBit (c ^^^ (b.setWidth 16 <<< (8 + k))) = crcStep b c (7 - k) ^^^ (b.setWidth 16 <<< (8 + (k + 1))) := by
  have hbit : (b.setWidth 16 <<< (8 + k)).msb = b.getLsbD (7 - k) := by
    rw [BitVec.msb_eq_getLsbD_last, BitVec.getLsbD_shiftLeft, BitVec.getLsbD_setWidth]
    have h1 : ¬(16 - 1 < 8 + k) := by omega
    have h2 : 16 - 1 - (8 + k) = 7 - k := by omega
    have h3 : 7 - k < 16 := by omega
    simp [h1, h2, h3]
  have hshift : (b.setWidth 16 <<< (8 + k)) <<< 1 = (b.setWidth 16 <<< (8 + (k + 1)) : Word16) := by
    rw [← BitVec.shiftLeft_add]
    rfl
  rw [crcBit_eq, BitVec.msb_xor, BitVec.shiftLeft_xor_distrib, hbit, hshift, crcStep]
  cases c.msb <;> cases b.getLsbD (7 - k) <;> simp <;> ac_rfl

theorem crcByte_eq_steps (c : Word16) (b : Byte) : crcByte c b = [7, 6, 5, 4, 3, 2, 1, 0].foldl (crcStep b) c := by
  have hend : (b.setWidth 16 <<< (8 + 8) : Word16) = 0 := BitVec.shiftLeft_eq_zero (by decide)
  have h0 : crcByte c b = crcShift (c ^^^ (b.setWidth 16 <<< (8 + 0))) := rfl
  rw [h0]
  simp only [crcShift, List.range_succ, List.range_zero, List.nil_append, List.foldl_append, List.foldl_cons, List.foldl_nil]
  rw [crcBit_waiting b _ 0 (by decide), crcBit_waiting b _ 1 (by decide), crcBit_waiting b _ 2 (by decide),
    crcBit_waiting b _ 3 (by decide), crcBit_waiting b _ 4 (by decide), crcBit_waiting b _ 5 (by decide),
    crcBit_waiting b _ 6 (by decide), crcBit_waiting b _ 7 (by decide), hend]
  exact BitVec.xor_zero

theorem crc16_append (xs ys : List Byte) : crc16 (xs ++ ys) = ys.foldl crcByte (crc16 xs) := List.foldl_append

/-! ### The register against its own bytes -/

/-- The register's high byte takes it eight places on. -/
theorem crcByte_high (c : Word16) : crcByte c (c.extractLsb' 8 8) = c <<< 8 := by
  have hstep : ∀ k, k < 8 → crcStep (c.extractLsb' 8 8) (c <<< k) (7 - k) = c <<< (k + 1) := fun k hk => by
    have hbit : (c <<< k).msb = (c.extractLsb' 8 8).getLsbD (7 - k) := by
      rw [BitVec.msb_eq_getLsbD_last, BitVec.getLsbD_shiftLeft, BitVec.getLsbD_extractLsb']
      have h1 : ¬(16 - 1 < k) := by omega
      have h2 : 8 + (7 - k) = 16 - 1 - k := by omega
      have h3 : 7 - k < 8 := by omega
      simp [h1, h2, h3]
    rw [crcStep, if_pos hbit, ← BitVec.shiftLeft_add]
    exact BitVec.xor_zero
  rw [crcByte_eq_steps]
  simp only [List.foldl_cons, List.foldl_nil]
  have h0 := hstep 0 (by decide)
  rw [BitVec.shiftLeft_zero] at h0
  rw [h0, hstep 1 (by decide), hstep 2 (by decide), hstep 3 (by decide), hstep 4 (by decide), hstep 5 (by decide),
    hstep 6 (by decide), hstep 7 (by decide)]

theorem shiftLeft_high (c : Word16) : (c <<< 8).extractLsb' 8 8 = c.extractLsb' 0 8 := by
  ext i hi
  simp
  omega

/-- R160: the CRC over a content, CRC included, leaves 0. -/
theorem crc16_settled (body : List Byte) : crc16 (body ++ split16 (crc16 body)) = 0 := by
  rw [crc16_append]
  generalize crc16 body = c
  change crcByte (crcByte c (c.extractLsb' 8 8)) (c.extractLsb' 0 8) = 0
  rw [crcByte_high, ← shiftLeft_high, crcByte_high, ← BitVec.shiftLeft_add]
  exact BitVec.shiftLeft_eq_zero (by decide)

theorem crcBit_injective {a b : Word16} (h : crcBit a = crcBit b) : a = b := by
  have hlow : ∀ c : Word16, (crcBit c).getLsbD 0 = c.msb := fun c => by
    rw [crcBit_eq]
    cases c.msb <;> simp
  have hmsb : a.msb = b.msb := by rw [← hlow, ← hlow, h]
  have hhigh : a <<< 1 = b <<< 1 := by
    have hxor := congrArg (fun c => c ^^^ (if b.msb then 0x8005 else 0)) h
    simp only [crcBit_eq, hmsb, BitVec.xor_assoc, BitVec.xor_self, BitVec.xor_zero] at hxor
    exact hxor
  refine BitVec.eq_of_getLsbD_eq fun i hi => ?_
  by_cases htop : i = 15
  · rw [htop]
    simpa [BitVec.msb_eq_getLsbD_last] using hmsb
  · have hbit := congrArg (fun c => c.getLsbD (i + 1)) hhigh
    simpa [show i + 1 < 16 by omega, BitVec.getLsbD_eq_getElem hi] using hbit

theorem crcShift_injective {a b : Word16} (h : crcShift a = crcShift b) : a = b := by
  simp only [crcShift, List.range_succ, List.range_zero, List.nil_append, List.foldl_append, List.foldl_cons,
    List.foldl_nil] at h
  exact crcBit_injective (crcBit_injective (crcBit_injective (crcBit_injective (crcBit_injective (crcBit_injective
    (crcBit_injective (crcBit_injective h)))))))

/-- A byte whose remainder has an empty low byte is 0. -/
theorem crcShift_low (d : Byte) (h : (crcShift (d.setWidth 16 <<< 8)).extractLsb' 0 8 = 0) : d = 0 := by
  revert d
  decide

/-- R160: the two bytes that settle a CRC are its own. -/
theorem split16_of_crc {body : List Byte} {x y : Byte} (h : crc16 (body ++ [x, y]) = 0) : [x, y] = split16 (crc16 body) := by
  rw [crc16_append] at h
  generalize crc16 body = c at h ⊢
  have hy : crcByte c x = y.setWidth 16 <<< 8 := by
    have hzero : crcShift (crcByte c x ^^^ (y.setWidth 16 <<< 8)) = crcShift 0 := h
    have hcancel := congrArg (fun w => w ^^^ (y.setWidth 16 <<< 8 : Word16)) (crcShift_injective hzero)
    simpa [BitVec.xor_assoc] using hcancel
  have hx : c.extractLsb' 8 8 ^^^ x = 0 := by
    have hsplit : c ^^^ (x.setWidth 16 <<< 8) =
        (c ^^^ ((c.extractLsb' 8 8).setWidth 16 <<< 8)) ^^^ ((c.extractLsb' 8 8 ^^^ x).setWidth 16 <<< 8) := by
      rw [BitVec.setWidth_xor, BitVec.shiftLeft_xor_distrib, BitVec.xor_assoc, ← BitVec.xor_assoc _ _ (x.setWidth 16 <<< 8),
        BitVec.xor_self, BitVec.zero_xor]
    have hsum : (c <<< 8) ^^^ crcShift ((c.extractLsb' 8 8 ^^^ x).setWidth 16 <<< 8) = y.setWidth 16 <<< 8 := by
      rw [← crcByte_high, crcByte_eq, ← crcShift_xor, ← hsplit]
      exact hy
    refine crcShift_low _ ?_
    have hremainder : crcShift ((c.extractLsb' 8 8 ^^^ x).setWidth 16 <<< 8) = (c <<< 8) ^^^ (y.setWidth 16 <<< 8) := by
      rw [← hsum, ← BitVec.xor_assoc, BitVec.xor_self, BitVec.zero_xor]
    rw [hremainder]
    ext i hi
    simp [hi]
  have hxc : x = c.extractLsb' 8 8 := (BitVec.xor_eq_zero_iff.1 hx).symm
  have hyc : y = c.extractLsb' 0 8 := by
    have hshift : y.setWidth 16 <<< 8 = c <<< 8 := by rw [← hy, hxc, crcByte_high]
    ext i hi
    have hbit := congrArg (fun w => w.getLsbD (8 + i)) hshift
    simpa [hi, show 8 + i < 16 by omega, show i < 16 by omega] using hbit
  rw [hxc, hyc]
  rfl

end Sys2Proof.Machine
end

section
/-! SUPPORT. A reply on the line (R160, R161, R162, R164, R167): its frame, and how the receiver takes it. -/

namespace Sys2Proof.Machine

open Sys2Proof.Safety

/-! ### The frame (R160, R162) -/

/-- R160: a frame's content before its CRC. -/
def frameBody (destination source kind : Byte) (payload : List Byte) : List Byte :=
  [destination, source, kind, BitVec.ofNat 8 payload.length] ++ payload

theorem frameContent_eq (destination source kind : Byte) (payload : List Byte) :
    frameContent destination source kind payload =
      frameBody destination source kind payload ++ split16 (crc16 (frameBody destination source kind payload)) := rfl

theorem length_frameContent (destination source kind : Byte) (payload : List Byte) :
    (frameContent destination source kind payload).length = payload.length + 6 := by
  simp [frameContent_eq, frameBody, split16]

theorem crc16_frameContent (destination source kind : Byte) (payload : List Byte) :
    crc16 (frameContent destination source kind payload) = 0 := crc16_settled _

theorem judgeReply_frameContent (source : Byte) {payload : List Byte} (h : payload.length ≤ 32) :
    judgeReply (frameContent 0x00 source 0x5A payload) = some (source, payload) := by
  have hn : (byteOf payload.length).toNat = payload.length := toNat_byteOf (by omega)
  have hcrc := crc16_frameContent 0x00 source 0x5A payload
  have hlength := length_frameContent 0x00 source 0x5A payload
  have hcons : frameContent 0x00 source 0x5A payload = 0x00 :: source :: 0x5A :: byteOf payload.length ::
      (payload ++ split16 (crc16 (frameBody 0x00 source 0x5A payload))) := rfl
  rw [hcons] at hcrc hlength ⊢
  simp only [judgeReply, hn, hcrc, hlength]
  rw [if_neg (by simp only [ne_eq, not_true, or_false]; omega), if_neg (not_not.2 rfl), if_neg (not_not.2 rfl)]
  exact (if_neg (by decide)).trans (by rw [List.take_left])

/-- R162: what a valid reply is. -/
theorem eq_of_judgeReply {buffer : List Byte} {source : Byte} {payload : List Byte}
    (h : judgeReply buffer = some (source, payload)) :
    payload.length ≤ 32 ∧ buffer = frameContent 0x00 source 0x5A payload := by
  unfold judgeReply at h
  split at h
  · next destination src kind n rest =>
    split at h
    · exact absurd h nofun
    · next hlength =>
      split at h
      · exact absurd h nofun
      · next hcrc =>
        split at h
        · exact absurd h nofun
        · next hdestination =>
          split at h
          · exact absurd h nofun
          · next hkind =>
            simp only [not_or, not_not, ne_eq, List.length_cons] at hlength hcrc hdestination hkind
            obtain ⟨hshort, hlong⟩ := hlength
            obtain ⟨rfl, rfl⟩ : src = source ∧ rest.take n.toNat = payload := by simpa using h
            have htake : (rest.take n.toNat).length = n.toNat := by rw [List.length_take]; omega
            obtain ⟨x, y, hxy⟩ := List.length_eq_two.1 (show (rest.drop n.toNat).length = 2 by rw [List.length_drop]; omega)
            have hrest : rest = rest.take n.toNat ++ [x, y] := by rw [← hxy, List.take_append_drop]
            have hnumber : n = BitVec.ofNat 8 (rest.take n.toNat).length := by rw [htake, BitVec.ofNat_toNat, BitVec.setWidth_eq]
            have hbuffer : destination :: src :: kind :: n :: rest =
                frameBody 0x00 src 0x5A (rest.take n.toNat) ++ [x, y] := by
              rw [frameBody, ← hnumber, List.append_assoc, ← hrest, hdestination, hkind]
              rfl
            refine ⟨by omega, ?_⟩
            rw [hbuffer] at hcrc ⊢
            rw [frameContent_eq, split16_of_crc hcrc]
  · exact absurd h nofun

theorem escapeByte_eq (b : Byte) : escapeByte b = if b ∈ [0xF2, 0xF3, 0xF4] then [0xF4, b ^^^ 0x10] else [b] :=
  if_congr (by simp [startMark, endMark, escapeMark]) rfl rfl

/-! ### The receiver takes the frame (R161) -/

theorem escaped_of_mark {b : Byte} (h : b ∈ [0xF2, 0xF3, 0xF4]) :
    b ^^^ 0x10 ∈ [0xE2, 0xE3, 0xE4] ∧ b ^^^ 0x10 ^^^ 0x10 = b := by
  revert b
  decide

/-- A state in which the receiver has taken a part of a frame. -/
def State.taking (s : State) (buffer : List Byte) : State := s.setReceiver .inFrame buffer

theorem State.taking_content {s : State} {buffer : List Byte} (hc : s.check = .pass) (hd : s.link.direction = false)
    (hroom : buffer.length < 38) (b : Byte) :
    (escapeByte b).foldl State.linkByte (s.taking buffer) = s.taking (buffer ++ [b]) := by
  rw [escapeByte_eq]
  by_cases hb : b ∈ [0xF2, 0xF3, 0xF4]
  · obtain ⟨hescaped, hback⟩ := escaped_of_mark hb
    have hescape : (s.taking buffer).receiveByte 0xF4 = s.setReceiver .escaped buffer :=
      State.receiveByte_escape (s := s.taking buffer) rfl
    rw [if_pos hb, List.foldl_cons, List.foldl_cons, List.foldl_nil,
      State.linkByte_listening (s := s.taking buffer) hc hd, hescape]
    refine (State.linkByte_listening (s := s.setReceiver .escaped buffer) hc hd _).trans ?_
    rw [State.receiveByte_escaped (s := s.setReceiver .escaped buffer) rfl hescaped,
      State.takeContent_room (s := s.setReceiver .escaped buffer) hroom, hback]
    rfl
  · rw [if_neg hb, List.foldl_cons, List.foldl_nil, State.linkByte_listening (s := s.taking buffer) hc hd,
      State.receiveByte_content (s := s.taking buffer) rfl hb, State.takeContent_room (s := s.taking buffer) hroom]
    rfl

theorem State.taking_all {s : State} (hc : s.check = .pass) (hd : s.link.direction = false) (content buffer : List Byte)
    (hroom : buffer.length + content.length ≤ 38) :
    (content.flatMap escapeByte).foldl State.linkByte (s.taking buffer) = s.taking (buffer ++ content) := by
  induction content generalizing buffer with
  | nil => simp
  | cons b content ih =>
    rw [List.length_cons] at hroom
    rw [List.flatMap_cons, List.foldl_append, State.taking_content hc hd (by omega), ih _ (by simp; omega)]
    simp

/-- Settles O51. -/
theorem sentReplyIsTakenAsSent : Obligations.SentReplyIsTakenAsSent := by
  refine ⟨fun destination source kind payload => ⟨_, rfl, rfl⟩, rfl, fun bytes b => ?_, fun content => ?_, crc16_frameContent,
    fun source payload => judgeReply_frameContent source, fun buffer source payload => eq_of_judgeReply,
    fun s ex payload hc hex hd hrx hshort => ?_⟩
  · have hstep : crcStep b = fun (c : Word16) i => (c <<< 1) ^^^ (if c.msb = b.getLsbD i then 0 else 0x8005) := rfl
    rw [← hstep, crc16_append, List.foldl_cons, List.foldl_nil, crcByte_eq_steps]
  · have hescape : escapeByte = fun b => if b ∈ [0xF2, 0xF3, 0xF4] then [0xF4, b ^^^ 0x10] else [b] := funext escapeByte_eq
    rw [onLine, hescape]
    rfl
  · generalize hw : ({ s with link := { s.link with exchange := some { ex with awaiting := .candidate } } } : State) = w
    have hwc : w.check = .pass := hw ▸ hc
    have hwd : w.link.direction = false := hw ▸ hd
    have hwex : w.link.exchange = some { ex with awaiting := .candidate } := hw ▸ rfl
    have hstart : s.linkByte startMark = w.taking [] := by
      rw [State.linkByte_listening hc hd, State.receiveByte_start, State.beginFrame_some hex, ← hw]
      rfl
    have hcontent := length_frameContent 0x00 (byteOf (ex.address.val + 1)) 0x5A payload
    have hjudged := judgeReply_frameContent (byteOf (ex.address.val + 1)) hshort
    generalize frameContent 0x00 (byteOf (ex.address.val + 1)) 0x5A payload = content at hcontent hjudged ⊢
    rw [onLine, List.cons_append, List.foldl_cons, List.foldl_append, hstart, State.taking_all hwc hwd _ _ (by simp; omega),
      List.nil_append, List.foldl_cons, List.foldl_nil, State.linkByte_listening (s := w.taking content) hwc hwd,
      State.receiveByte_end (s := w.taking content) rfl,
      State.completeFrame_reply (s := w.taking content) hwex rfl hjudged, if_pos rfl, ← hw]
    rfl

end Sys2Proof.Machine
end

section
/-! SUPPORT. A station claims a role (R173): the holder it meets, the standings, and the rest of the part. -/

namespace Sys2Proof.Machine

open Sys2Proof.Safety

/-! ### The holder that a claim meets -/

/-- R173: the entry of a station that claims a role. -/
def State.claim (s : State) (a : Address) (r : Role) (standing : Standing) (abilities : Byte) : State :=
  (s.setStation a { s.station a with role := some r, standing := some standing, abilities := abilities }).raise .stationChange

theorem SoundBut.others_isEmpty {quiet : Prop} {w : State} {a : Address} (hw : SoundBut quiet a w) (r : Role) :
    ((w.claimants r).filter (· ≠ a)).isEmpty = false ↔ ∃ b, b ≠ a ∧ (w.station b).role = some r := by
  rw [List.isEmpty_eq_false_iff_exists_mem]
  refine exists_congr fun b => ?_
  simp only [List.mem_filter, State.mem_claimants, decide_eq_true_eq]
  exact ⟨fun h => ⟨h.2, h.1.2⟩, fun h => ⟨⟨(hw.others b h.1).present h.2, h.2⟩, h.1⟩⟩

/-- R173: nobody holds the role. -/
theorem SoundBut.claimRole_free {quiet : Prop} {w : State} {a : Address} (hw : SoundBut quiet a w) {r : Role}
    (hfree : ∀ b, b ≠ a → ¬Holds w b r) (abilities : Byte) :
    w.claimRole a r abilities =
      w.claim a r (if ∃ b, b ≠ a ∧ (w.station b).role = some r then .conflict else .assigned) abilities := by
  have hfind : (((w.claimants r).filter (· ≠ a)).find? fun b => (w.station b).standing == some .assigned) = none := by
    refine List.find?_eq_none.2 fun b hb hst => ?_
    obtain ⟨hclaim, hne⟩ := List.mem_filter.1 hb
    exact hfree b (by simpa using hne) ⟨(State.mem_claimants.1 hclaim).2, by simpa using hst⟩
  have hstanding : (if ((w.claimants r).filter (· ≠ a)).isEmpty then Standing.assigned else .conflict) =
      if ∃ b, b ≠ a ∧ (w.station b).role = some r then .conflict else .assigned := by
    by_cases hr : ∃ b, b ≠ a ∧ (w.station b).role = some r
    · rw [if_pos hr, (hw.others_isEmpty r).2 hr]
      rfl
    · rw [if_neg hr, Bool.eq_true_of_not_eq_false (mt (hw.others_isEmpty r).1 hr)]
      rfl
  simp only [State.claimRole, hfind, hstanding, State.claim]

/-- R173: the role has a holder. -/
theorem SoundBut.claimRole_held {quiet : Prop} {w : State} {a b : Address} (hw : SoundBut quiet a w) {r : Role} (hb : b ≠ a)
    (hheld : Holds w b r) (abilities : Byte) :
    w.claimRole a r abilities = (w.putInConflict b r).claim a r .conflict abilities := by
  have hmem : b ∈ (w.claimants r).filter (· ≠ a) :=
    List.mem_filter.2 ⟨State.mem_claimants.2 ⟨(hw.others b hb).present hheld.1, hheld.1⟩, by simpa using hb⟩
  have hfind : (((w.claimants r).filter (· ≠ a)).find? fun b => (w.station b).standing == some .assigned) = some b := by
    cases hf : ((w.claimants r).filter (· ≠ a)).find? fun b => (w.station b).standing == some .assigned with
    | none => exact absurd hheld.2 (by simpa using List.find?_eq_none.1 hf b hmem)
    | some c =>
      obtain ⟨hclaim, hne⟩ := List.mem_filter.1 (List.mem_of_find?_eq_some hf)
      have hst := List.find?_some hf
      rw [hw.unique c b r (by simpa using hne) hb ⟨(State.mem_claimants.1 hclaim).2, by simpa using hst⟩ hheld]
  have hsome : ((w.claimants r).filter (· ≠ a)).isEmpty = false := List.isEmpty_eq_false_iff_exists_mem.2 ⟨b, hmem⟩
  simp only [State.claimRole, hfind, hsome, State.claim, Bool.false_eq_true, if_false]

/-! ### The stations after a claim -/

theorem State.station_claim_self (s : State) (a : Address) (r : Role) (st : Standing) (abilities : Byte) :
    (s.claim a r st abilities).station a =
      { s.station a with role := some r, standing := some st, abilities := abilities } :=
  (s.station_setStation a a _).trans (if_pos rfl)

theorem State.station_claim_other (s : State) {a c : Address} (hc : c ≠ a) (r : Role) (st : Standing) (abilities : Byte) :
    (s.claim a r st abilities).station c = s.station c :=
  (s.station_setStation a c _).trans (if_neg hc)

/-- R153: the blocks take orders out of the stations' queues, and nothing else. -/
theorem State.station_blocksLose_orders (s : State) (r : Role) (c : Address) :
    ∃ os, os.Sublist (s.station c).orders ∧ (s.blocksLose r).station c = { s.station c with orders := os } := by
  cases r
  case gate => exact ⟨_, List.filter_sublist, s.removed_loseGateStation.station c⟩
  all_goals exact ⟨_, List.Sublist.refl _, rfl⟩

theorem State.station_putInConflict_self (s : State) (b : Address) (r : Role) :
    (s.putInConflict b r).station b = { s.station b with standing := some .conflict, orders := [] } := by
  obtain ⟨os, -, hstation⟩ := s.station_blocksLose_orders r b
  have hheld : (s.holderLost b r).station b = { s.station b with orders := [] } := by
    rw [State.holderLost, State.station_setStation, if_pos rfl, hstation]
  refine ((s.holderLost b r).station_setStation b b _).trans ((if_pos rfl).trans ?_)
  rw [hheld]

theorem State.station_putInConflict_other (s : State) {b c : Address} (hc : c ≠ b) (r : Role) :
    (s.putInConflict b r).station c = (s.blocksLose r).station c :=
  ((s.holderLost b r).station_setStation b c _).trans ((if_neg hc).trans
    (((s.blocksLose r).station_setStation b c _).trans (if_neg hc)))

/-- R173: what a claim makes of the part. -/
structure Claimed (a : Address) (r : Role) (abilities : Byte) (w u : State) : Prop where
  self : (w.station a).orders = [] → u.station a = { w.station a with
    role := some r
    standing := if ∃ b, b ≠ a ∧ (w.station b).role = some r then some .conflict else some .assigned
    abilities := abilities }
  rivals : ∀ c, c ≠ a → (w.station c).role = some r →
    u.station c = { w.station c with standing := some .conflict, orders := [] }
  gone : (r = .gate ∧ ∃ b, b ≠ a ∧ Holds w b r) → ∀ c, c ≠ a → (w.station c).role ≠ some r →
    u.station c = w.loseGateStation.station c
  kept : ¬(r = .gate ∧ ∃ b, b ≠ a ∧ Holds w b r) → ∀ c, c ≠ a → (w.station c).role ≠ some r → u.station c = w.station c
  move : RoleMove (r = .gate ∧ ∃ b, b ≠ a ∧ Holds w b r) (r = .press ∧ ∃ b, b ≠ a ∧ Holds w b r) w u
  flags : u.flags = w.flags ||| 0x040

/-- R173, R174: a claimant that does not hold its role stands in CONFLICT, with no orders. -/
theorem SoundBut.rival {quiet : Prop} {w : State} {a c : Address} (hw : SoundBut quiet a w) (hc : c ≠ a) {r : Role}
    (hr : (w.station c).role = some r) (hnot : ¬Holds w c r) :
    w.station c = { w.station c with standing := some .conflict, orders := [] } := by
  obtain ⟨hboth, -, -, -, -, hidle, -, -⟩ := hw.others c hc
  have hst : (w.station c).standing = some .conflict := by
    obtain ⟨st, hst⟩ := Option.isSome_iff_exists.1 (hboth.1 (by simp [hr]))
    cases st
    · exact absurd ⟨hr, hst⟩ hnot
    · exact hst
  have horders := hidle (by simp [hst])
  rw [← hst, ← horders]

theorem SoundBut.claimed {quiet : Prop} {w : State} {a : Address} (hw : SoundBut quiet a w) (r : Role) (abilities : Byte) :
    Claimed a r abilities w (w.claimRole a r abilities) := by
  by_cases hheld : ∃ b, b ≠ a ∧ Holds w b r
  · obtain ⟨b, hb, hh⟩ := hheld
    have hex : ∃ b, b ≠ a ∧ Holds w b r := ⟨b, hb, hh⟩
    have hconflict : ∀ c, c ≠ a → (((w.putInConflict b r).claim a r .conflict abilities).station c) =
        (w.putInConflict b r).station c := fun c hc => State.station_claim_other _ hc _ _ _
    have hmove : RoleMove (r = .gate) (r = .press) w (w.putInConflict b r) :=
      ((RoleMove.holderLost w b r).thenStation b _).thenRaise
    rw [hw.claimRole_held hb hh]
    refine ⟨fun horders => ?_, fun c hc hr => ?_, fun hgate c hc hr => ?_, fun hgate c hc hr => ?_, ?_, ?_⟩
    · obtain ⟨os, hos, hstation⟩ := w.station_blocksLose_orders r a
      rw [horders] at hos
      have hsame : (w.putInConflict b r).station a = w.station a := by
        have hab : a ≠ b := Ne.symm hb
        rw [w.station_putInConflict_other hab, hstation,
          List.sublist_nil.1 hos, ← horders]
      rw [State.station_claim_self, hsame, if_pos ⟨b, hb, hh.1⟩]
    · rw [hconflict c hc]
      by_cases hcb : c = b
      · rw [hcb, State.station_putInConflict_self]
      · have hnot : ¬Holds w c r := fun h => hcb (hw.unique c b r hc hb h hh)
        have hrival := hw.rival hc hr hnot
        obtain ⟨os, hos, hstation⟩ := w.station_blocksLose_orders r c
        have horders : (w.station c).orders = [] := by rw [hrival]
        rw [horders] at hos
        have hempty : ({ w.station c with orders := [] } : Station) = w.station c := by rw [← horders]
        rw [w.station_putInConflict_other hcb, hstation, List.sublist_nil.1 hos, hempty]
        exact hrival
    · have hcb : c ≠ b := fun e => hr (e ▸ hh.1)
      rw [hconflict c hc, w.station_putInConflict_other hcb, State.station_blocksLose, if_pos hgate.1]
    · have hcb : c ≠ b := fun e => hr (e ▸ hh.1)
      rw [hconflict c hc, w.station_putInConflict_other hcb, State.station_blocksLose, if_neg fun e => hgate ⟨e, hex⟩]
    · exact ((hmove.thenStation a _).thenRaise).congr (by simp [hex]) (by simp [hex])
    · exact (hmove.thenStation a _).raised
  · have hfree : ∀ b, b ≠ a → ¬Holds w b r := fun b hb hh => hheld ⟨b, hb, hh⟩
    have hmove := RoleMove.setStation w a { w.station a with
      role := some r
      standing := some (if ∃ b, b ≠ a ∧ (w.station b).role = some r then .conflict else .assigned)
      abilities := abilities }
    rw [hw.claimRole_free hfree]
    refine ⟨fun _ => ?_, fun c hc hr => ?_, fun hgate => absurd hgate.2 hheld, fun _ c hc _ => State.station_claim_other _ hc _ _ _,
      hmove.thenRaise.congr (by simp [hheld]) (by simp [hheld]), hmove.raised⟩
    · rw [State.station_claim_self]
      split <;> rfl
    · rw [State.station_claim_other _ hc]
      exact hw.rival hc hr (hfree c hc)

end Sys2Proof.Machine
end

section
/-! SUPPORT. An ANNOUNCE (R100, R172 to R174): a station changes its role, or states its abilities anew. -/

namespace Sys2Proof.Machine

open Sys2Proof.Safety

/-! ### A station leaves one role and claims another -/

theorem StationsSound.leaveRole {s : State} (hs : StationsSound s) (a : Address) : SoundBut False a (s.leaveRole a) :=
  LinkSound.leaveRole (quiet := False) ⟨hs, False.elim⟩ False.elim a

theorem StationsSound.station_leaveRole {s : State} (hs : StationsSound s) (a : Address) :
    (s.leaveRole a).station a = { s.station a with role := none, standing := none, orders := [] } :=
  LinkSound.station_leaveRole (quiet := False) ⟨hs, False.elim⟩ a

theorem State.station_loseGateStation (s : State) (c : Address) : s.loseGateStation.station c =
    { s.station c with orders := (s.station c).orders.filter (Order.spares s.gateQueue) } :=
  s.removed_loseGateStation.station c

/-- R174: of another station only the orders change, and the standing of the one that recovers. -/
theorem State.station_leaveRole_still (s : State) {a c : Address} (hc : c ≠ a) (hrec : ¬Recovers s a c) :
    (s.leaveRole a).station c = { s.station c with orders := ((s.leaveRole a).station c).orders } := by
  obtain ⟨hgone, -, hkept⟩ := s.station_leaveRole_other hc
  by_cases hgate : Holds s a .gate
  · rw [hgone hgate, State.station_loseGateStation]
  · rw [hkept hgate hrec]

theorem State.station_leaveRole_recovers (s : State) {a c : Address} (hc : c ≠ a) (hrec : Recovers s a c) :
    (s.leaveRole a).station c = { s.station c with standing := some .assigned } := by
  refine (s.station_leaveRole_other hc).2.1 (fun hgate => ?_) hrec
  exact absurd (hgate.2.symm.trans hrec.1) (by simp)

theorem State.role_leaveRole (s : State) {a c : Address} (hc : c ≠ a) :
    ((s.leaveRole a).station c).role = (s.station c).role := by
  by_cases hrec : Recovers s a c
  · rw [s.station_leaveRole_recovers hc hrec]
  · rw [s.station_leaveRole_still hc hrec]

theorem State.holds_leaveRole {s : State} {a c : Address} {r : Role} (hc : c ≠ a) (hr : (s.station a).role ≠ some r) :
    Holds (s.leaveRole a) c r ↔ Holds s c r := by
  by_cases hrec : Recovers s a c
  · have hother : (s.station c).role ≠ some r := fun e => hr (hrec.2.2.2.1.symm.trans e)
    rw [Holds, s.role_leaveRole hc, Holds]
    simp [hother]
  · rw [Holds, s.station_leaveRole_still hc hrec, Holds]

theorem State.held_leaveRole {s : State} {a : Address} {r : Role} (hr : (s.station a).role ≠ some r) :
    (∃ b, b ≠ a ∧ Holds (s.leaveRole a) b r) ↔ ∃ b, Holds s b r := by
  refine exists_congr fun b => ⟨fun ⟨hb, h⟩ => (State.holds_leaveRole hb hr).1 h, fun h => ?_⟩
  have hb : b ≠ a := fun e => hr (e ▸ h.1)
  exact ⟨hb, (State.holds_leaveRole hb hr).2 h⟩

/-- R100, R153, R173, R174: a station that does not claim a role announces it. -/
structure Rejoined (a : Address) (r : Role) (taken : Byte) (s u : State) : Prop where
  move : RoleMove (Holds s a .gate ∨ (r = .gate ∧ ∃ b, Holds s b .gate)) (Holds s a .press ∨ (r = .press ∧ ∃ b, Holds s b .press))
    s u
  flags : u.flags = s.flags ||| 0x040
  self : u.station a = { s.station a with
    role := some r
    standing := if ∃ b, b ≠ a ∧ (s.station b).role = some r then some .conflict else some .assigned
    abilities := taken
    orders := [] }
  rivals : ∀ c, c ≠ a → (s.station c).role = some r → u.station c = { s.station c with standing := some .conflict, orders := [] }
  recovers : ∀ c, c ≠ a → (s.station c).role ≠ some r → Recovers s a c →
    u.station c = { s.station c with standing := some .assigned, orders := (u.station c).orders }
  still : ∀ c, c ≠ a → (s.station c).role ≠ some r → ¬Recovers s a c →
    u.station c = { s.station c with orders := (u.station c).orders }
  ordersGone : (Holds s a .gate ∨ (r = .gate ∧ ∃ b, Holds s b .gate)) → ∀ c, c ≠ a → (s.station c).role ≠ some r →
    (u.station c).orders = (s.loseGateStation.station c).orders
  ordersKept : ¬(Holds s a .gate ∨ (r = .gate ∧ ∃ b, Holds s b .gate)) → ∀ c, c ≠ a → (s.station c).role ≠ some r →
    (u.station c).orders = (s.station c).orders

theorem Claimed.orders_only {a c : Address} {r : Role} {ab : Byte} {w u : State} (h : Claimed a r ab w u) (hc : c ≠ a)
    (hr : (w.station c).role ≠ some r) : u.station c = { w.station c with orders := (u.station c).orders } := by
  by_cases hgate : r = .gate ∧ ∃ b, b ≠ a ∧ Holds w b r
  · rw [h.gone hgate c hc hr, State.station_loseGateStation]
  · rw [h.kept hgate c hc hr]

theorem StationsSound.rejoined {s : State} (hs : StationsSound s) {a : Address} {r : Role} (hr : (s.station a).role ≠ some r)
    (taken : Byte) : Rejoined a r taken s ((s.leaveRole a).claimRole a r taken) := by
  have hw := StationsSound.leaveRole hs a
  have hself := StationsSound.station_leaveRole hs a
  have hmove := RoleMove.leaveRole s a
  have h := hw.claimed r taken
  have hheld := State.held_leaveRole hr
  have hrole : ∀ c, c ≠ a → ((s.leaveRole a).station c).role = (s.station c).role := fun c hc => s.role_leaveRole hc
  have hothers := fun {c : Address} (hc : c ≠ a) => s.station_leaveRole_other hc
  have hrecovers := fun {c : Address} (hc : c ≠ a) => s.station_leaveRole_recovers hc
  have hstill := fun {c : Address} (hc : c ≠ a) => s.station_leaveRole_still hc
  have hgateHeld : (r = .gate ∧ ∃ b, b ≠ a ∧ Holds (s.leaveRole a) b r) ↔ (r = .gate ∧ ∃ b, Holds s b .gate) := by
    rw [hheld]
    exact and_congr_right fun e => by rw [e]
  have hpressHeld : (r = .press ∧ ∃ b, b ≠ a ∧ Holds (s.leaveRole a) b r) ↔ (r = .press ∧ ∃ b, Holds s b .press) := by
    rw [hheld]
    exact and_congr_right fun e => by rw [e]
  have hall := hmove.trans h.move
  generalize (s.leaveRole a).claimRole a r taken = u at h hall
  generalize s.leaveRole a = w at *
  have hrivals : ∀ c, c ≠ a → (s.station c).role = some r → ¬Recovers s a c := fun c _ hcr hrec =>
    hr (hrec.2.2.2.1.symm.trans hcr)
  refine ⟨hall.congr (by rw [hgateHeld]) (by rw [hpressHeld]), ?_, ?_, fun c hc hcr => ?_, fun c hc hcr hrec => ?_,
    fun c hc hcr hrec => ?_, fun hgate c hc hcr => ?_, fun hgate c hc hcr => ?_⟩
  · rw [h.flags]
    rcases hmove.flags with e | e <;> rw [e]
    rw [BitVec.or_assoc, BitVec.or_self]
  · have hclaims : (∃ b, b ≠ a ∧ (w.station b).role = some r) ↔ ∃ b, b ≠ a ∧ (s.station b).role = some r :=
      exists_congr fun b => and_congr_right fun hb => by rw [hrole b hb]
    rw [h.self (by rw [hself]), hself]
    simp only [hclaims]
  · rw [h.rivals c hc ((hrole c hc).trans hcr), hstill hc (hrivals c hc hcr)]
  · rw [h.orders_only hc (by rwa [hrole c hc]), hrecovers hc hrec]
  · have hwc := hstill hc hrec
    rw [h.orders_only hc (by rwa [hrole c hc]), hwc]
  · by_cases hmine : Holds s a .gate
    · have hnot : ¬(r = .gate ∧ ∃ b, b ≠ a ∧ Holds w b r) := fun e => hr (e.1 ▸ hmine.1)
      rw [h.kept hnot c hc (by rwa [hrole c hc]), (hothers hc).1 hmine]
    · have hqueue : w.gateQueue = s.gateQueue := by rw [(hmove.kept hmine).frame]
      have horders : (w.station c).orders = (s.station c).orders := by
        by_cases hrec : Recovers s a c
        · rw [hrecovers hc hrec]
        · rw [(hothers hc).2.2 hmine hrec]
      rw [h.gone (hgateHeld.2 (hgate.resolve_left hmine)) c hc (by rwa [hrole c hc]), State.station_loseGateStation,
        State.station_loseGateStation, horders, hqueue]
  · obtain ⟨hmine, hnot⟩ := not_or.1 hgate
    rw [h.kept (mt hgateHeld.1 hnot) c hc (by rwa [hrole c hc])]
    by_cases hrec : Recovers s a c
    · rw [hrecovers hc hrec]
    · rw [(hothers hc).2.2 hmine hrec]

end Sys2Proof.Machine
end

section
/-! SUPPORT. A station states its abilities anew (R153, R173), and the whole of an ANNOUNCE. -/

namespace Sys2Proof.Machine

open Sys2Proof.Safety

/-! ### Abilities -/

theorem and_eq_self {x m : Byte} (h : x &&& ~~~m = 0) : x &&& m = x := by
  ext i hi
  have hbit : (x &&& ~~~m)[i] = (0#8)[i] := by rw [h]; rfl
  simp only [BitVec.getElem_and, BitVec.getElem_not, BitVec.getElem_zero] at hbit ⊢
  cases hx : x[i] <;> simp_all

theorem hasAbility_iff {abilities : Byte} {k : Ability} : hasAbility abilities k = true ↔ abilities &&& k.bit ≠ 0 := bne_iff_ne

theorem hasAbility_false {abilities : Byte} {k : Ability} : hasAbility abilities k = false ↔ abilities &&& k.bit = 0 :=
  bne_eq_false_iff_eq

/-- The abilities of a GATE holder are MARK or none. -/
theorem gate_hasMark {abilities : Byte} (h : abilities &&& 0x40 = abilities) :
    hasAbility abilities .mark = true ↔ abilities ≠ 0 := by
  rw [hasAbility_iff, show Ability.mark.bit = 0x40 from rfl, h]

theorem State.setStation_station (s : State) (a : Address) : s.setStation a (s.station a) = s := by
  have hset : s.stations.set a (s.station a) = s.stations := by
    ext i hi
    simp only [State.station, Vector.getElem_set]
    split
    · next h => simp [← h]
    · rfl
  rw [State.setStation, hset]

theorem State.setStation_twice (s : State) (a : Address) (st st' : Station) :
    (s.setStation a st).setStation a st' = s.setStation a st' := by
  simp [State.setStation]

/-! ### The abilities of a claim are replaced -/

/-- R173: the orders that stay at the station whose abilities are replaced, where it does not drop MARK. -/
def keptOrders (r : Role) (st : Station) (taken : Byte) : List Order :=
  if r = .press ∧ st.standing = some .assigned ∧ st.abilities &&& 0x08 ≠ 0 ∧ taken &&& 0x08 = 0 then
    st.orders.filter (· ≠ .jawRelease)
  else st.orders

theorem State.reannounce_same {s : State} {a : Address} {r : Role} {taken : Byte} (h : (s.station a).abilities = taken) :
    s.reannounce a r taken = s := if_pos h

/-- R153: the holder of GATE drops MARK. -/
theorem State.reannounce_unmarked {s : State} {a : Address} (hnew : (s.station a).abilities ≠ 0)
    (hold : (s.station a).abilities &&& 0x40 = (s.station a).abilities) (hst : (s.station a).standing = some .assigned) :
    s.reannounce a .gate 0 =
      ((s.dropMark a).setStation a { (s.dropMark a).station a with abilities := 0 }).raise .stationChange := by
  have hmark : (hasAbility (s.station a).abilities .mark && !hasAbility 0 .mark) = true := by
    rw [(gate_hasMark hold).2 hnew]
    rfl
  rw [State.reannounce]
  dsimp only
  rw [if_neg hnew, if_pos hst, State.holderAbilities, if_pos hmark]

theorem State.reannounce_kept {s : State} {a : Address} {r : Role} {taken : Byte} (hnew : (s.station a).abilities ≠ taken)
    (htaken : r = .gate → taken &&& 0x40 = taken)
    (hkeep : ¬(r = .gate ∧ taken = 0 ∧ (s.station a).standing = some .assigned)) : s.reannounce a r taken =
      (s.setStation a { s.station a with abilities := taken, orders := keptOrders r (s.station a) taken }).raise
        .stationChange := by
  have hcore : (if (s.station a).standing = some .assigned then s.holderAbilities a r (s.station a).abilities taken else s) =
      s.setStation a { s.station a with orders := keptOrders r (s.station a) taken } := by
    have hnone : ∀ {x : State}, x = s → keptOrders r (s.station a) taken = (s.station a).orders →
        x = s.setStation a { s.station a with orders := keptOrders r (s.station a) taken } := fun e h => by
      rw [e, h, s.setStation_station]
    by_cases hst : (s.station a).standing = some .assigned
    · rw [if_pos hst]
      cases r
      case gate =>
        have hmark : hasAbility taken .mark = true :=
          (gate_hasMark (htaken rfl)).2 fun h0 => hkeep ⟨rfl, h0, hst⟩
        exact hnone (by rw [State.holderAbilities, hmark]; simp) (if_neg (by simp))
      case press =>
        by_cases hdrop : (s.station a).abilities &&& 0x08 ≠ 0 ∧ taken &&& 0x08 = 0
        · have hbit : (hasAbility (s.station a).abilities .jawRelease && !hasAbility taken .jawRelease) = true := by
            rw [Bool.and_eq_true, Bool.not_eq_true', hasAbility_iff, hasAbility_false]
            exact hdrop
          rw [State.holderAbilities, if_pos hbit, keptOrders, if_pos ⟨rfl, hst, hdrop⟩]
        · have hbit : ¬(hasAbility (s.station a).abilities .jawRelease && !hasAbility taken .jawRelease) = true := by
            rw [Bool.and_eq_true, Bool.not_eq_true', hasAbility_iff, hasAbility_false]
            exact hdrop
          exact hnone (if_neg hbit) (if_neg fun h => hdrop h.2.2)
      all_goals exact hnone rfl (if_neg (by simp))
    · rw [if_neg hst]
      exact hnone rfl (if_neg fun h => hst h.2.1)
  rw [State.reannounce]
  dsimp only
  rw [if_neg hnew, hcore, State.setStation_twice, State.station_setStation, if_pos rfl]

/-- R153, R173: what the replacement of a claim's abilities makes of the part. -/
structure Replaced (a : Address) (r : Role) (taken : Byte) (s u : State) : Prop where
  flags : u.flags = s.flags ||| 0x040
  filter : u.filter = s.filter
  self : u.station a = { s.station a with abilities := taken, orders := (u.station a).orders }
  others : ∀ b, b ≠ a → u.station b = { s.station b with orders := (u.station b).orders }
  unmarked : r = .gate → taken = 0 → ∀ v, Order.gate .deliverMarked v ∉ (u.station a).orders
  released : r = .press → (s.station a).abilities &&& 0x08 ≠ 0 → taken &&& 0x08 = 0 → Order.jawRelease ∉ (u.station a).orders
  dropped : r = .gate → taken = 0 → (s.station a).standing = some .assigned → u = { s.dropMark a with
    stations := (s.dropMark a).stations.set a { (s.dropMark a).station a with abilities := 0 }
    flags := s.flags ||| 0x040 }
  kept : ¬(r = .gate ∧ taken = 0 ∧ (s.station a).standing = some .assigned) → u = { s with
    stations := s.stations.set a { s.station a with abilities := taken, orders := keptOrders r (s.station a) taken }
    flags := s.flags ||| 0x040 }

theorem State.dropMark_flags (s : State) (a : Address) : (s.dropMark a).flags = s.flags :=
  State.divertAllUnconfirmed_flags _ s

theorem State.dropMark_filter (s : State) (a : Address) : (s.dropMark a).filter = s.filter := by
  have hframe := (Removed.divertAllUnconfirmed s (markedTags (s.station a).orders)).frame
  exact (congrArg State.filter hframe : _)

theorem State.station_dropMark_orders (s : State) (a c : Address) :
    (s.dropMark a).station c = { s.station c with orders := ((s.dropMark a).station c).orders } := by
  rw [State.station_dropMark, (Removed.divertAllUnconfirmed s (markedTags (s.station a).orders)).station c]

theorem EntrySound.abilities_gate {st : Station} (h : EntrySound st) (hr : st.role = some .gate) :
    st.abilities &&& 0x40 = st.abilities := by
  obtain ⟨-, -, htaken, -⟩ := h
  exact and_eq_self (htaken _ hr)

theorem StationsSound.replaced {s : State} (hs : StationsSound s) {a : Address} {r : Role} {taken : Byte}
    (hr : (s.station a).role = some r) (hnew : (s.station a).abilities ≠ taken)
    (htaken : taken &&& r.mayAnnounce = taken) : Replaced a r taken s (s.reannounce a r taken) := by
  have hentry : EntrySound (s.station a) := hs.1 a
  obtain ⟨-, -, -, -, -, hidle, -, -⟩ := hs.1 a
  by_cases hdrop : r = .gate ∧ taken = 0 ∧ (s.station a).standing = some .assigned
  · obtain ⟨rfl, rfl, hst⟩ := hdrop
    rw [State.reannounce_unmarked hnew (EntrySound.abilities_gate hentry hr) hst]
    generalize hu : ((s.dropMark a).setStation a { (s.dropMark a).station a with abilities := 0 }).raise .stationChange = u
    have hframe : u = { s.dropMark a with
        stations := (s.dropMark a).stations.set a { (s.dropMark a).station a with abilities := 0 }
        flags := s.flags ||| 0x040 } := by
      rw [← hu, ← s.dropMark_flags a]
      rfl
    have hself : u.station a = { (s.dropMark a).station a with abilities := 0 } := by
      rw [← hu]
      exact ((s.dropMark a).station_setStation a a _).trans (if_pos rfl)
    have hothers : ∀ b, b ≠ a → u.station b = (s.dropMark a).station b := fun b hb => by
      rw [← hu]
      exact ((s.dropMark a).station_setStation a b _).trans (if_neg hb)
    refine ⟨?_, ?_, ?_, fun b hb => ?_, fun _ _ v hv => ?_, nofun, fun _ _ _ => hframe,
      fun h => absurd ⟨rfl, rfl, hst⟩ h⟩
    · rw [hframe]
    · rw [hframe]
      exact s.dropMark_filter a
    · rw [hself]
      conv_lhs => rw [s.station_dropMark_orders a a]
    · rw [hothers b hb]
      exact s.station_dropMark_orders a b
    · rw [hself] at hv
      exact ((s.gateOrder_dropMark a a _ v).1 hv).2.1 rfl
  · have hbit : r = .gate → taken &&& 0x40 = taken := fun e => by
      subst e
      exact htaken
    rw [State.reannounce_kept hnew hbit hdrop]
    generalize hu : (s.setStation a { s.station a with
      abilities := taken, orders := keptOrders r (s.station a) taken }).raise .stationChange = u
    have hself : u.station a = { s.station a with abilities := taken, orders := keptOrders r (s.station a) taken } := by
      rw [← hu]
      exact (s.station_setStation a a _).trans (if_pos rfl)
    have hothers : ∀ b, b ≠ a → u.station b = s.station b := fun b hb => by
      rw [← hu]
      exact (s.station_setStation a b _).trans (if_neg hb)
    have hsub : ∀ o, o ∈ keptOrders r (s.station a) taken → o ∈ (s.station a).orders := fun o ho => by
      unfold keptOrders at ho
      split at ho
      · exact (List.mem_filter.1 ho).1
      · exact ho
    refine ⟨?_, ?_, ?_, fun b hb => ?_, fun hgate h0 v hv => ?_, fun hpress hbefore hafter hin => ?_,
      fun hgate h0 hst => absurd ⟨hgate, h0, hst⟩ hdrop, fun _ => hu.symm⟩
    · rw [← hu]
      rfl
    · rw [← hu]
      rfl
    · rw [hself]
    · rw [hothers b hb]
    · rw [hself] at hv
      have hempty := hidle fun hst => hdrop ⟨hgate, h0, hst⟩
      have hmem := hsub _ hv
      rw [hempty] at hmem
      exact absurd hmem List.not_mem_nil
    · rw [hself] at hin
      change _ ∈ keptOrders r (s.station a) taken at hin
      by_cases hst : (s.station a).standing = some .assigned
      · rw [keptOrders, if_pos ⟨hpress, hst, hbefore, hafter⟩] at hin
        simpa using (List.mem_filter.1 hin).2
      · have hmem := hsub _ hin
        rw [hidle hst] at hmem
        exact absurd hmem List.not_mem_nil

end Sys2Proof.Machine
end

section
/-! SUPPORT. The whole of an ANNOUNCE (R100, R172 to R174). -/

namespace Sys2Proof.Machine

open Sys2Proof.Safety

theorem roleOf_none {b : Byte} (h : b = 0 ∨ 5 < b.toNat) : roleOf b = none := by
  have hn : b.toNat = 0 ∨ 5 < b.toNat := h.imp (fun e => by rw [e]; rfl) id
  unfold roleOf
  split <;> first | rfl | omega

/-- R172: the role an ANNOUNCE names, and the abilities that are taken. -/
theorem roleOf_announced {role abilities taken : Byte} {r : Role}
    (h : (role.toNat, r, taken) ∈ [(1, Role.infeed, abilities &&& 0x01), (2, .casing, abilities &&& 0x02),
        (3, .press, abilities &&& 0x0C), (4, .jacketing, abilities &&& 0x30), (5, .gate, abilities &&& 0x40)]) :
    roleOf role = some r ∧ taken = abilities &&& r.mayAnnounce := by
  simp only [List.mem_cons, Prod.mk.injEq, List.not_mem_nil, or_false] at h
  rcases h with ⟨h, rfl, rfl⟩ | ⟨h, rfl, rfl⟩ | ⟨h, rfl, rfl⟩ | ⟨h, rfl, rfl⟩ | ⟨h, rfl, rfl⟩ <;>
    exact ⟨by simp [roleOf, h], rfl⟩

/-- R100: an ANNOUNCE of PRESS without TEMP_REPORT unsettles the filter. -/
def Unsettles (r : Role) (taken : Byte) : Prop := r = .press ∧ taken &&& 0x04 = 0

theorem State.announce_eq {s : State} {a : Address} {role abilities : Byte} {r : Role} (h : roleOf role = some r) :
    s.announce a role abilities =
      (fun u : State => if r = .press ∧ hasAbility (abilities &&& r.mayAnnounce) .tempReport = false then u.unsettleFilter else u)
        (if (s.station a).role = some r then s.reannounce a r (abilities &&& r.mayAnnounce)
          else (s.leaveRole a).claimRole a r (abilities &&& r.mayAnnounce)) := by
  simp only [State.announce, h]

theorem State.announce_filter {s u : State} {a : Address} {role abilities : Byte} {r : Role} (h : roleOf role = some r)
    (hu : (if (s.station a).role = some r then s.reannounce a r (abilities &&& r.mayAnnounce)
      else (s.leaveRole a).claimRole a r (abilities &&& r.mayAnnounce)) = u) :
    (Unsettles r (abilities &&& r.mayAnnounce) → s.announce a role abilities = u.unsettleFilter) ∧
      (¬Unsettles r (abilities &&& r.mayAnnounce) → s.announce a role abilities = u) := by
  have hiff : (r = .press ∧ hasAbility (abilities &&& r.mayAnnounce) .tempReport = false) ↔
      Unsettles r (abilities &&& r.mayAnnounce) := and_congr_right fun _ => hasAbility_false
  rw [State.announce_eq h, hu]
  exact ⟨fun hun => if_pos (hiff.2 hun), fun hun => if_neg (mt hiff.1 hun)⟩

/-- R174: in a sound table a station that recovers is the only other claimant. -/
theorem StationsSound.recovers_iff {s : State} (hs : StationsSound s) {a b : Address} : Recovers s a b ↔
    ((s.station a).role.isSome ∧ (s.station b).role = (s.station a).role ∧ (s.station a).standing = some .conflict ∧
      ∀ c, c ≠ a → c ≠ b → (s.station c).role ≠ (s.station a).role) := by
  have hpresent : ∀ c, (s.station a).role.isSome → (s.station c).role = (s.station a).role → (s.station c).present = true :=
    fun c hsome he => by
      obtain ⟨r, hr⟩ := Option.isSome_iff_exists.1 hsome
      exact EntrySound.present (hs.1 c) (he.trans hr)
  constructor
  · rintro ⟨hst, hsome, -, hb, honly⟩
    exact ⟨hsome, hb, hst, fun c hca hcb he => honly c hca hcb ⟨hpresent c hsome he, he⟩⟩
  · rintro ⟨hsome, hb, hst, honly⟩
    exact ⟨hst, hsome, hpresent b hsome hb, hb, fun c hca hcb hc => honly c hca hcb hc.2⟩

/-- Settles O54. -/
theorem announceClaimsRole : Obligations.AnnounceClaimsRole := by
  intro s a role abilities hs hpresent
  refine ⟨fun h => by simp only [State.announce, roleOf_none h], fun r taken t hmem ht => ?_⟩
  obtain ⟨hrole, rfl⟩ := roleOf_announced hmem
  have hmask : abilities &&& r.mayAnnounce &&& r.mayAnnounce = abilities &&& r.mayAnnounce := by
    rw [BitVec.and_assoc, BitVec.and_self]
  generalize hu : (if (s.station a).role = some r then s.reannounce a r (abilities &&& r.mayAnnounce)
    else (s.leaveRole a).claimRole a r (abilities &&& r.mayAnnounce)) = u
  obtain ⟨hun, hset⟩ := State.announce_filter hrole hu
  rw [← ht] at hun hset
  clear ht hmem
  generalize abilities &&& r.mayAnnounce = taken at *
  change ((Unsettles r taken ∨ _ → _) ∧ (¬(Unsettles r taken ∨ _) → _) ∧ (_ → _ → _ ∧ (¬Unsettles r taken → _)) ∧ _)
  have hframe : t = { u with filter := t.filter } := by
    by_cases h : Unsettles r taken
    · rw [hun h]
      rfl
    · rw [hset h]
  have hstation : t.station = u.station := State.station_congr (by rw [hframe])
  have hflags : t.flags = u.flags := by rw [hframe]
  by_cases hr : (s.station a).role = some r
  · rw [if_pos hr] at hu
    have hfilter : u.filter = s.filter := by
      by_cases hab : (s.station a).abilities = taken
      · rw [← hu, State.reannounce_same hab]
      · rw [← hu, (StationsSound.replaced hs hr hab hmask).filter]
    have hother : ¬(r ≠ .press ∧ Holds s a .press) := fun h => h.1 (Option.some.inj (hr.symm.trans h.2.1))
    refine ⟨fun h => ?_, fun h => ?_, fun _ hab => ?_, fun _ hab => ?_, fun h => absurd hr h⟩
    · have hp : Unsettles r taken := h.resolve_right fun h => h.elim (fun h => h.2.1 hr) hother
      rw [hun hp, ← hfilter]
      rfl
    · rw [hset fun hp => h (.inl hp), hfilter]
    · have hus : u = s := by rw [← hu, State.reannounce_same hab]
      rw [hus] at hframe hset
      exact ⟨hframe, hset⟩
    · have hrep := StationsSound.replaced hs hr hab hmask
      rw [hu] at hrep
      have hkept : ¬(r = .gate ∧ taken = 0 ∧ (s.station a).standing = some .assigned) →
          t = { s with
            stations := s.stations.set a { s.station a with abilities := taken, orders := keptOrders r (s.station a) taken }
            flags := s.flags ||| 0x040
            filter := t.filter } := fun h => by
        have hk := hrep.kept h
        rw [hk] at hframe
        exact hframe
      refine ⟨?_, ?_, ?_, ?_, fun hgate h0 => ?_, fun hgate h0 hst => ?_, hkept, fun hpress hb ha => ?_, fun b hb => ?_,
        fun hgate => ?_⟩
      · rw [State.flagSet_congr (s := s.raise .stationChange) (hflags.trans hrep.flags)]
        exact s.flagSet_raise_self _
      · rw [hstation, hrep.self]
        exact hr
      · rw [hstation, hrep.self]
      · rw [hstation, hrep.self]
      · rw [hstation]
        exact hrep.unmarked hgate h0
      · have htu : t = u := hset fun h => by simp [h.1] at hgate
        have hd := hrep.dropped hgate h0 hst
        rw [htu]
        refine ⟨?_, ?_, ?_, ?_, ?_, hd⟩ <;> rw [hd]
      · rw [hstation]
        exact hrep.released hpress hb ha
      · rw [hstation]
        exact hrep.others b hb
      · have hk := hkept fun h => hgate h.1
        have hself : t.station a = { s.station a with abilities := taken, orders := keptOrders r (s.station a) taken } := by
          rw [hk]
          exact (s.station_setStation a a _).trans (if_pos rfl)
        rw [hself]
        exact hk
  · rw [if_neg hr] at hu
    have hjoin := StationsSound.rejoined hs hr taken
    rw [hu] at hjoin
    have hlost : (Unsettles r taken ∨ (r = .press ∧ (s.station a).role ≠ some r ∧ ∃ b, Holds s b .press) ∨
        (r ≠ .press ∧ Holds s a .press)) ↔
        (Holds s a .press ∨ (r = .press ∧ ∃ b, Holds s b .press)) ∨ Unsettles r taken := by
      have hpress : Holds s a .press → r ≠ .press := fun h e => hr (e ▸ h.1)
      tauto
    have hmove : RoleMove (Holds s a .gate ∨ (r = .gate ∧ ∃ b, Holds s b .gate))
        ((Holds s a .press ∨ (r = .press ∧ ∃ b, Holds s b .press)) ∨ Unsettles r taken) s t := by
      by_cases h : Unsettles r taken
      · rw [hun h]
        exact (hjoin.move.trans (RoleMove.unsettleFilter u)).congr (by simp) (by simp [h])
      · rw [hset h]
        exact hjoin.move.congr Iff.rfl (by simp [h])
    have htflags : t.flags = s.flags ||| 0x040 := hflags.trans hjoin.flags
    refine ⟨fun h => hmove.unsettled (hlost.1 h), fun h => hmove.settled (mt hlost.2 h), fun h => absurd h hr,
      fun h => absurd h hr, fun _ => ⟨?_, ?_, fun b hb hbr => ?_, fun b hb hbr => ?_, fun hgate => ?_, fun hgate => ⟨?_, fun b hb hbr => ?_⟩⟩⟩
    · rw [State.flagSet_congr (s := s.raise .stationChange) htflags]
      exact s.flagSet_raise_self _
    · rw [hstation]
      exact hjoin.self
    · rw [hstation]
      exact hjoin.rivals b hb hbr
    · rw [hstation]
      split
      · next h => exact hjoin.recovers b hb hbr ((StationsSound.recovers_iff hs).2 h)
      · next h => exact hjoin.still b hb hbr (mt (StationsSound.recovers_iff hs).1 h)
    · have hline := (hmove.gone hgate).frame
      rw [htflags] at hline
      refine ⟨?_, ?_, ?_, ?_, ?_, hline, fun b hb hbr => ?_⟩
      · rw [hline]
        exact s.loseGateStation_gateQueue
      · rw [hline]
      · rw [hline]
      · rw [hline]
      · rw [hline]
      · rw [hstation]
        exact hjoin.ordersGone hgate b hb hbr
    · have hline := (hmove.kept hgate).frame
      rw [htflags] at hline
      exact hline
    · rw [hstation]
      exact hjoin.ordersKept hgate b hb hbr

end Sys2Proof.Machine
end

section
/-! SUPPORT. The marriage checker (R131 to R142): a CASE_SCAN and a JACKET_SCAN by their rows. -/

namespace Sys2Proof.Machine

open Sys2Proof.Safety

theorem mayHold_iff {policy : MismatchPolicy} {refeed : Bool} {count limit : Nat} :
    mayHold policy refeed count limit = true ↔ policy = .holdStation ∧ refeed = true ∧ count + 1 < limit := by
  simp [mayHold, and_assoc]

theorem mayHold_not {policy : MismatchPolicy} {refeed : Bool} {count limit : Nat}
    (h : policy = .divertPiece ∨ refeed = false ∨ limit ≤ count + 1) : ¬mayHold policy refeed count limit = true := by
  rw [mayHold_iff]
  rintro ⟨rfl, rfl, hlt⟩
  rcases h with h | h | h
  · cases h
  · cases h
  · omega

/-! ### The casing slot (R132) -/

/-- R8, R134: the piece leaves the casing slot with its case status settled. -/
def State.leftCasing (s : State) (t : Tag) (p : Piece) (c : CaseStatus) (f : FaultSet) (flags : BitVec 9) : State :=
  { s with
    casing := none
    flags := flags
    pool := s.pool.set t (some { p with
      caseStatus := if p.caseStatus = CaseStatus.pending then c else p.caseStatus
      faults := f }) }.handOver .z2 t

theorem Piece.settleCase_eq (p : Piece) (c : CaseStatus) :
    p.settleCase c = { p with caseStatus := if p.caseStatus = CaseStatus.pending then c else p.caseStatus } := by
  unfold Piece.settleCase
  split <;> rfl

theorem State.leaveCasing_settled {s : State} {t : Tag} {p : Piece} (hp : s.piece t = some p) (c : CaseStatus) :
    (s.updatePiece t (·.settleCase c)).leaveCasing t = s.leftCasing t p c p.faults s.flags := by
  rw [State.leaveCasing, State.updatePiece_some hp, Piece.settleCase_eq, State.leftCasing]

theorem State.passCaseMismatch_some {s : State} {t : Tag} {p : Piece} (hp : s.piece t = some p) :
    s.passCaseMismatch t = s.leftCasing t p .skipped (p.faults ||| 0x0020) (s.flags ||| 0x004) := by
  rw [State.passCaseMismatch, State.updatePiece_some hp, Piece.settleCase_eq]
  rfl

section CaseScan

variable {s : State} {t : Tag} {p : Piece} {code : Word24} {refeed : Bool}

theorem State.caseScan_empty (h : s.casing = none) : s.caseScan code refeed = (.hold, s) := by
  simp only [State.caseScan, h]

theorem State.caseScan_blocked (h : s.casing = some t) (hblocked : s.z2.mode = .halt ∨ 8 ≤ s.z2.queue.length) :
    s.caseScan code refeed = (.hold, s) := by
  simp only [State.caseScan, h]
  exact if_pos hblocked

theorem State.caseScan_diverted (h : s.casing = some t) (hp : s.piece t = some p)
    (hfree : ¬(s.z2.mode = .halt ∨ 8 ≤ s.z2.queue.length)) (hd : s.disposition p = .divert) :
    s.caseScan code refeed = (.skip, s.leftCasing t p .skipped p.faults s.flags) := by
  rw [← State.leaveCasing_settled hp]
  simp only [State.caseScan, h, hp, hd, if_true]
  exact if_neg hfree

theorem State.caseScan_judged (h : s.casing = some t) (hp : s.piece t = some p)
    (hfree : ¬(s.z2.mode = .halt ∨ 8 ≤ s.z2.queue.length)) (hd : s.disposition p ≠ .divert) :
    s.caseScan code refeed = s.judgeCase t (p.job.bind s.job) code refeed := by
  simp only [State.caseScan, h, hp, if_neg hd]
  exact if_neg hfree

end CaseScan

/-! ### The jacketing slot (R139) -/

/-- R9, R142: the piece leaves the jacketing slot with its jacket status settled. -/
def State.leftJacketing (s : State) (t : Tag) (p : Piece) (c : JacketStatus) (verified : Bool) (f : FaultSet)
    (flags : BitVec 9) : State :=
  { s with
    jacketing := none
    flags := flags
    pool := s.pool.set t (some { p with
      jacketStatus := if p.jacketStatus = JacketStatus.pending then c else p.jacketStatus
      copyVerified := verified
      faults := f }) }.handOver .z5 t

theorem Piece.settleJacket_eq (p : Piece) (c : JacketStatus) :
    p.settleJacket c = { p with jacketStatus := if p.jacketStatus = JacketStatus.pending then c else p.jacketStatus } := by
  unfold Piece.settleJacket
  split <;> rfl

theorem State.leaveJacketing_settled {s : State} {t : Tag} {p : Piece} (hp : s.piece t = some p) (c : JacketStatus) :
    (s.updatePiece t (·.settleJacket c)).leaveJacketing t = s.leftJacketing t p c p.copyVerified p.faults s.flags := by
  rw [State.leaveJacketing, State.updatePiece_some hp, Piece.settleJacket_eq, State.leftJacketing]

theorem State.leaveJacketing_accepted {s : State} {t : Tag} {p : Piece} (hp : s.piece t = some p) (verified : Bool) :
    (s.updatePiece t (·.acceptJacket verified)).leaveJacketing t =
      s.leftJacketing t p .married (p.copyVerified || verified) p.faults s.flags := by
  rw [State.leaveJacketing, State.updatePiece_some hp, Piece.acceptJacket, Piece.settleJacket_eq, State.leftJacketing]

theorem State.passJacketMismatch_some {s : State} {t : Tag} {p : Piece} (hp : s.piece t = some p) :
    s.passJacketMismatch t = s.leftJacketing t p .skipped p.copyVerified (p.faults ||| 0x0800) (s.flags ||| 0x004) := by
  rw [State.passJacketMismatch, State.updatePiece_some hp, Piece.settleJacket_eq]
  rfl

theorem State.setPiece_piece {s : State} {t : Tag} {p : Piece} (hp : s.piece t = some p) :
    s.pool.set t (some p) = s.pool := by
  have hp' : s.pool[t.val] = some p := hp
  simp [← hp']

/-- R141: a piece that takes no jacket leaves as it is. -/
theorem State.leaveJacketing_bare {s : State} {t : Tag} {p : Piece} (hp : s.piece t = some p)
    (hj : p.jacketStatus = .notRequired) (c : JacketStatus) :
    s.leaveJacketing t = s.leftJacketing t p c p.copyVerified p.faults s.flags := by
  have hsame : ({ p with
      jacketStatus := if p.jacketStatus = JacketStatus.pending then c else p.jacketStatus
      copyVerified := p.copyVerified
      faults := p.faults } : Piece) = p := by
    rw [if_neg (by simp [hj])]
  rw [State.leftJacketing, hsame, State.setPiece_piece hp]
  rfl

theorem jacketMatches_iff {b : Job} {p : Piece} {code : Word24} {copy : Nat} {copyRead : Bool} :
    jacketMatches b p code copy copyRead = true ↔
      b.jacketCode = some code ∧ ((b.numbered ≠ none ∧ copyRead = true) → p.copy = some copy) := by
  cases hn : b.numbered <;> cases copyRead <;> simp [jacketMatches, comparesCopy, hn]

theorem comparesCopy_iff {b : Job} {copyRead : Bool} :
    comparesCopy b copyRead = true ↔ b.numbered ≠ none ∧ copyRead = true := by
  cases hn : b.numbered <;> simp [comparesCopy, hn]

section JacketScan

variable {s : State} {t : Tag} {p : Piece} {code : Word24} {copy : Word16} {refeed copyRead : Bool}

theorem State.jacketScan_empty (h : s.jacketing = none) : s.jacketScan code copy refeed copyRead = (.hold, s) := by
  simp only [State.jacketScan, h]

theorem State.jacketScan_blocked (h : s.jacketing = some t) (hblocked : s.z5.mode = .halt ∨ 12 ≤ s.z5.queue.length) :
    s.jacketScan code copy refeed copyRead = (.hold, s) := by
  simp only [State.jacketScan, h]
  exact if_pos hblocked

theorem State.jacketScan_bare (h : s.jacketing = some t) (hp : s.piece t = some p)
    (hfree : ¬(s.z5.mode = .halt ∨ 12 ≤ s.z5.queue.length)) (hj : p.jacketStatus = .notRequired) :
    s.jacketScan code copy refeed copyRead = (.skip, s.leftJacketing t p .skipped p.copyVerified p.faults s.flags) := by
  rw [← State.leaveJacketing_bare hp hj]
  simp only [State.jacketScan, h, hp, hj, if_true]
  exact if_neg hfree

theorem State.jacketScan_diverted (h : s.jacketing = some t) (hp : s.piece t = some p)
    (hfree : ¬(s.z5.mode = .halt ∨ 12 ≤ s.z5.queue.length)) (hj : p.jacketStatus ≠ .notRequired)
    (hd : s.disposition p = .divert) :
    s.jacketScan code copy refeed copyRead = (.skip, s.leftJacketing t p .skipped p.copyVerified p.faults s.flags) := by
  rw [← State.leaveJacketing_settled hp]
  simp only [State.jacketScan, h, hp, if_neg hj, hd, if_true]
  exact if_neg hfree

theorem State.jacketScan_judged (h : s.jacketing = some t) (hp : s.piece t = some p)
    (hfree : ¬(s.z5.mode = .halt ∨ 12 ≤ s.z5.queue.length)) (hj : p.jacketStatus ≠ .notRequired)
    (hd : s.disposition p ≠ .divert) :
    s.jacketScan code copy refeed copyRead = s.judgeJacket t p (p.job.bind s.job) code copy.toNat refeed copyRead := by
  simp only [State.jacketScan, h, hp, if_neg hj, if_neg hd]
  exact if_neg hfree

end JacketScan

/-- Settles O53. -/
theorem scansFollowRows : Obligations.ScansFollowRows := by
  refine ⟨fun s code refeed => ⟨State.caseScan_empty, fun t p ht hp => ⟨State.caseScan_blocked ht,
      fun moved hmoved hmode hroom => ?_⟩⟩,
    fun s code copy refeed copyRead => ⟨State.jacketScan_empty, fun t p ht hp => ⟨State.jacketScan_blocked ht,
      fun moved hmoved hmode hroom => ?_⟩⟩⟩
  · obtain rfl : moved = s.leftCasing t p := funext fun c => funext fun f => funext fun flags => hmoved c f flags
    have hfree : ¬(s.z2.mode = .halt ∨ 8 ≤ s.z2.queue.length) := not_or.2 ⟨hmode, by omega⟩
    refine ⟨State.caseScan_diverted ht hp hfree, fun b hd hb => ⟨fun hcode => ?_, fun hcode hpolicy hrefeed hcount => ?_,
      fun hcode hpass => ?_⟩⟩
    all_goals rw [State.caseScan_judged ht hp hfree hd, hb, State.judgeCase]
    · rw [if_pos hcode, State.leaveCasing_settled hp]
    · rw [if_neg hcode, if_pos (mayHold_iff.2 ⟨hpolicy, hrefeed, hcount⟩)]
    · rw [if_neg hcode, if_neg (mayHold_not hpass), State.passCaseMismatch_some hp]
  · obtain rfl : moved = s.leftJacketing t p :=
      funext fun c => funext fun v => funext fun f => funext fun flags => hmoved c v f flags
    have hfree : ¬(s.z5.mode = .halt ∨ 12 ≤ s.z5.queue.length) := not_or.2 ⟨hmode, by omega⟩
    refine ⟨State.jacketScan_bare ht hp hfree, State.jacketScan_diverted ht hp hfree,
      fun b compared fits hj hd hb hcompared hfits => ?_⟩
    have hmatch : jacketMatches b p code copy.toNat copyRead = true ↔ fits := by
      rw [jacketMatches_iff, hfits, hcompared]
    refine ⟨fun hf hc => ?_, fun hf hc => ?_, fun hf hpolicy hrefeed hcount => ?_, fun hf hpass => ?_⟩
    all_goals rw [State.jacketScan_judged ht hp hfree hj hd, hb, State.judgeJacket]
    · rw [if_pos (hmatch.2 hf), State.leaveJacketing_accepted hp, comparesCopy_iff.2 (hcompared.1 hc), Bool.or_true]
    · have hnot : comparesCopy b copyRead = false := Bool.eq_false_of_not_eq_true fun h => hc (hcompared.2 (comparesCopy_iff.1 h))
      rw [if_pos (hmatch.2 hf), State.leaveJacketing_accepted hp, hnot, Bool.or_false]
    · rw [if_neg (mt hmatch.1 hf), if_pos (mayHold_iff.2 ⟨hpolicy, hrefeed, hcount⟩)]
    · rw [if_neg (mt hmatch.1 hf), if_neg (mayHold_not hpass), State.passJacketMismatch_some hp]

end Sys2Proof.Machine
end

section
/-! SUPPORT. The admission unit (R65 to R74): a BLOCK_SCAN by its rows. -/

namespace Sys2Proof.Machine

open Sys2Proof.Safety

/-! ### The admission faults (R69 to R74) -/

/-- R71: the copy number of a numbered job is 0 or outside its range. -/
def outOfRange (b : Job) (copy : Nat) : Bool :=
  b.numbered.any fun n => decide (copy = 0) || !n.inRange copy

/-- R73: the copy is in line or delivered already. -/
def State.copyTaken (s : State) (b : Job) (copy : Nat) : Bool := b.numbered.any fun n => takenCopy (s.copyEntry n copy)

/-- R70 to R73: the faults of a block of a known job. -/
def knownFaults (surplus range taken caliper : Bool) : FaultSet :=
  FaultSet.addIf (FaultSet.addIf (if range then FaultKind.copyRange.bit else FaultSet.addIf 0 taken .duplicateCopy) surplus
    .overQuantity) caliper .caliper

theorem State.copyFaults_eq (s : State) (b : Job) (copy : Nat) : s.copyFaults b copy =
    if outOfRange b copy then FaultKind.copyRange.bit else FaultSet.addIf 0 (s.copyTaken b copy) .duplicateCopy := by
  unfold State.copyFaults outOfRange State.copyTaken
  cases b.numbered with
  | none => rfl
  | some n => exact if_congr (by simp) rfl rfl

theorem State.admissionFaults_known (s : State) (measured : Bool) (b : Job) (copy thickness : Nat) :
    s.admissionFaults measured (some b) copy thickness =
      knownFaults (overQuantity b) (outOfRange b copy) (s.copyTaken b copy) (measured && offCaliper b thickness) := by
  simp only [State.admissionFaults, State.copyFaults_eq, knownFaults]

theorem knownFaults_bits (surplus range taken caliper : Bool) :
    knownFaults surplus range taken caliper &&& 0xFFE1 = 0 ∧
      (knownFaults surplus range taken caliper &&& 0x0002 ≠ 0 ↔ surplus = true) ∧
      (knownFaults surplus range taken caliper &&& 0x0004 ≠ 0 ↔ range = true) ∧
      (knownFaults surplus range taken caliper &&& 0x0008 ≠ 0 ↔ range = false ∧ taken = true) ∧
      (knownFaults surplus range taken caliper &&& 0x0010 ≠ 0 ↔ caliper = true) ∧
      (knownFaults surplus range taken caliper &&& 0x000C = 0 ↔ range = false ∧ taken = false) := by
  revert surplus range taken caliper
  decide

theorem overQuantity_iff {b : Job} (h : b.state = .running ∨ b.state = .complete) :
    overQuantity b = true ↔ b.state = .complete ∨ b.ordered + b.allowance ≤ b.good + b.live := by
  rcases h with h | h <;> simp [overQuantity, h]

theorem outOfRange_iff {b : Job} {copy : Nat} :
    outOfRange b copy = true ↔ ∃ n, b.numbered = some n ∧ (copy = 0 ∨ copy < n.first ∨ n.last < copy) := by
  unfold outOfRange
  cases b.numbered with
  | none => simp
  | some n =>
    simp only [Option.any_some, Option.some.injEq, exists_eq_left', Bool.or_eq_true, decide_eq_true_eq, Bool.not_eq_true',
      Numbering.inRange, Bool.and_eq_false_iff, decide_eq_false_iff_not, not_le]

theorem State.copyTaken_iff {s : State} {b : Job} {copy : Nat} {entry : Option CopyState}
    (hentry : entry = b.numbered.bind fun n => (s.copyTables[n.table])[copy - n.first]?) (hrange : outOfRange b copy = false) :
    s.copyTaken b copy = true ↔
      b.numbered ≠ none ∧ (entry = some .inLine ∨ entry = some .delivered ∨ entry = some .deliveredUnverified) := by
  have htaken : ∀ e : Option CopyState, takenCopy e = true ↔
      e = some .inLine ∨ e = some .delivered ∨ e = some .deliveredUnverified := fun e => by
    rcases e with - | e
    · simp [takenCopy]
    · cases e <;> simp [takenCopy]
  unfold State.copyTaken
  cases hn : b.numbered with
  | none => simp
  | some n =>
    have hin : n.first ≤ copy ∧ copy ≤ n.last := by
      by_contra hout
      exact absurd (outOfRange_iff (copy := copy).2 ⟨n, hn, by omega⟩) (ne_true_of_eq_false hrange)
    rw [hn] at hentry
    have he : s.copyEntry n copy = entry := by
      rw [hentry, State.copyEntry, if_pos hin]
      rfl
    simp only [Option.any_some, he, htaken, ne_eq, reduceCtorEq, not_false_eq_true, true_and]

theorem offCaliper_iff {b : Job} {reported : Nat} : offCaliper b reported = true ↔
    (b.tolerance : ℤ) < (reported : ℤ) - b.nominal ∨ (b.tolerance : ℤ) < b.nominal - reported := by
  simp only [offCaliper, Bool.or_eq_true, decide_eq_true_eq]
  omega

/-! ### The admitted piece (R66, R67) -/

theorem State.enterJob_apart (s : State) (pool : Vector (Option Piece) 96) (n : Word16) (found : Option (JobSlot × Job)) (p : Piece) :
    ({ s with pool := pool, admissionCounter := n } : State).enterJob found p =
      { s.enterJob found p with pool := pool, admissionCounter := n } := by
  cases found with
  | none => rfl
  | some f =>
    obtain ⟨j, b⟩ := f
    simp only [State.enterJob, State.setCopyEntry]
    cases b.numbered <;> cases p.copy <;> dsimp only
    · rfl
    · rfl
    · rfl
    · split
      · split <;> rfl
      · rfl

/-- R66: the state of the part when a block is admitted. -/
theorem State.admitted_eq {s : State} {p : Piece} (t : Tag) (found : Option (JobSlot × Job)) (hplace : p.place = .conveyor .z1)
    (hentry : p.entryCount = some s.z1.encoder) : s.admitted t p found = { s with
      pool := s.pool.set t (some p)
      admissionCounter := s.admissionCounter + 1
      jobs := (s.enterJob found p).jobs
      copyTables := (s.enterJob found p).copyTables
      z1 := { s.z1 with queue := s.z1.queue ++ [t] } } := by
  have hmade : ({ s.setPiece t (some p) with admissionCounter := s.admissionCounter + 1 } : State).enterJob found p = { s with
      pool := s.pool.set t (some p)
      admissionCounter := s.admissionCounter + 1
      jobs := (s.enterJob found p).jobs
      copyTables := (s.enterJob found p).copyTables } := by
    have happart := s.enterJob_apart (s.pool.set t (some p)) (s.admissionCounter + 1) found p
    have hframe := s.enterJob_frame found p
    refine happart.trans ?_
    generalize s.enterJob found p = w at hframe ⊢
    conv_lhs => rw [hframe]
  have hsame : ({ p with place := .conveyor .z1, entryCount := some s.z1.encoder } : Piece) = p := by rw [← hplace, ← hentry]
  rw [State.admitted, hmade, State.joinQueue_eq]
  generalize (s.enterJob found p).jobs = jobs
  generalize (s.enterJob found p).copyTables = copyTables
  have hpiece : ({ s with
      pool := s.pool.set t (some p)
      admissionCounter := s.admissionCounter + 1
      jobs := jobs
      copyTables := copyTables } : State).piece t = some p := by simp [State.piece]
  have hpool : (s.pool.set t (some p)).set t (some p) = s.pool.set t (some p) := Vector.set_set ..
  rw [hpiece]
  conv_rhs => rw [← hpool]
  exact congrArg (fun q => ({ s with
    pool := (s.pool.set t (some p)).set t (some q)
    admissionCounter := s.admissionCounter + 1
    jobs := jobs
    copyTables := copyTables
    z1 := { s.z1 with queue := s.z1.queue ++ [t] } } : State)) hsame

theorem State.blockScan_entered {s : State} {measured : Bool} {key : Word32} {copy thickness : Word16} {t : Tag}
    (hmode : s.z1.mode = .run) (hroom : s.z1.queue.length < 24) (hfree : s.lowestFree = some t) (hwait : s.jobWaits key = false) :
    s.blockScan measured key copy thickness =
      (admissionVerdict t (s.newPiece measured (s.admittingJob key) copy.toNat thickness.toNat),
        s.admitted t (s.newPiece measured (s.admittingJob key) copy.toNat thickness.toNat) (s.admittingJob key)) := by
  have hcap : ¬ConveyorZone.z1.capacity ≤ s.z1.queue.length := by
    simp only [ConveyorZone.capacity]
    omega
  simp only [State.blockScan, hmode, ne_eq, not_true, if_false, if_neg hcap, hfree, hwait, Bool.false_eq_true]

theorem State.admittingJob_none {s : State} {key : Word32}
    (h : key = 0 ∨ (∀ j b, s.job j = some b → b.key ≠ key) ∨ ∃ j b, s.findJob key = some (j, b) ∧ b.state = .closing) :
    s.admittingJob key = none := by
  unfold State.admittingJob
  split
  · rfl
  · next h0 =>
    rcases h with h | h | ⟨j, b, hf, hb⟩
    · exact absurd h h0
    · rw [State.findJob_eq_none h]
    · rw [hf]
      exact if_pos hb

theorem State.admittingJob_found {s : State} {key : Word32} {j : JobSlot} {b : Job} (hkey : key ≠ 0)
    (hf : s.findJob key = some (j, b)) (hb : b.state ≠ .closing) : s.admittingJob key = some (j, b) := by
  rw [State.admittingJob, if_neg hkey, hf]
  exact if_neg hb

theorem State.jobTable_enterJob (s : State) (j : JobSlot) (b : Job) (p : Piece) :
    (s.enterJob (some (j, b)) p).jobs = s.jobs.set j (some { b with live := b.live + 1 }) := by
  have hset : ∀ n copy, ((s.setJob j (some { b with live := b.live + 1 })).setCopyEntry n copy .inLine).jobs =
      s.jobs.set j (some { b with live := b.live + 1 }) := fun n copy => by
    rw [State.setCopyEntry_frame]
    rfl
  rcases hn : b.numbered with - | n <;> rcases hc : p.copy with - | copy <;> simp only [State.enterJob, hn, hc]
  case some.some =>
    split
    · rw [← hn]
      exact hset n copy
    · rfl
  all_goals rfl

/-- R76: the copy table of the job, when a block of it is admitted. -/
theorem State.copyTables_enterJob {s : State} {j : JobSlot} {b : Job} {p : Piece} {copy : Nat}
    (hcopy : p.copy = if b.numbered = none ∨ copy = 0 then none else some copy)
    (hclean : p.faults &&& 0x000C = 0 ↔ outOfRange b copy = false ∧ s.copyTaken b copy = false) :
    (b.numbered = none ∨ outOfRange b copy = true ∨ s.copyTaken b copy = true →
      (s.enterJob (some (j, b)) p).copyTables = s.copyTables) ∧
    ∀ n, b.numbered = some n → outOfRange b copy = false → s.copyTaken b copy = false →
      (s.enterJob (some (j, b)) p).copyTables =
        s.copyTables.set n.table ((s.copyTables[n.table]).set (copy - n.first) .inLine) := by
  rw [← FaultSet.cleanCopy_iff] at hclean
  constructor
  · intro h
    rcases hn : b.numbered with - | n
    · simp [State.enterJob, hn]
    · have hunclean : p.faults.cleanCopy = false := Bool.eq_false_of_not_eq_true fun hc => by
        obtain ⟨hr, ht⟩ := hclean.1 hc
        rcases h with h | h | h
        · simp [hn] at h
        · simp [hr] at h
        · simp [ht] at h
      cases hp : p.copy <;> simp [State.enterJob, hn, hp, hunclean]
  · intro n hn hr ht
    have hin : copy ≠ 0 ∧ n.first ≤ copy ∧ copy ≤ n.last := by
      have hout := mt outOfRange_iff.2 (ne_true_of_eq_false hr)
      by_contra hnot
      exact hout ⟨n, hn, by omega⟩
    rw [hn, if_neg (by simp [hin.1])] at hcopy
    simp only [State.enterJob, hn, hcopy, hclean.2 ⟨hr, ht⟩, if_true, State.setCopyEntry]
    rw [if_pos hin.2]
    rfl

/-- Settles O52. -/
theorem blockScanFollowsRows : Obligations.BlockScanFollowsRows := by
  intro s measured key copy thickness
  refine ⟨fun hmode => if_pos hmode, fun hmode hfull => ?_, fun hmode hroom hused => ?_,
    fun t hmode hroom hfree hlower => ?_⟩
  · exact (if_neg (not_not.2 hmode)).trans (if_pos hfull)
  · have hcap : ¬ConveyorZone.z1.capacity ≤ s.z1.queue.length := by
      simp only [ConveyorZone.capacity]
      omega
    have hnone : s.lowestFree = none := List.find?_eq_none.2 fun u _ => by simpa using hused u
    simp only [State.blockScan, hmode, ne_eq, not_true, if_false, if_neg hcap, hnone]
    rfl
  · have hlowest : s.lowestFree = some t :=
      find_finRange (by simp [hfree]) fun u hu => by simpa [Option.isSome_iff_ne_none] using hlower u hu
    refine ⟨fun j b hkey hf hb => ?_, fun hnone => ?_,
      fun j b entry surplus range duplicate caliper hkey hf hb hentry hsurplus hrange hduplicate hcaliper => ?_⟩
    · have hjob := State.admittingJob_found hkey hf (by rcases hb with h | h <;> simp [h])
      have hcap : ¬ConveyorZone.z1.capacity ≤ s.z1.queue.length := by
        simp only [ConveyorZone.capacity]
        omega
      have hwait : s.jobWaits key = true := by
        simp only [State.jobWaits, hjob]
        rcases hb with h | h <;> simp [h]
      simp only [State.blockScan, hmode, ne_eq, not_true, if_false, if_neg hcap, hlowest, hwait, if_true]
    · have hjob := State.admittingJob_none hnone
      rw [State.blockScan_entered hmode hroom hlowest (by simp only [State.jobWaits, hjob]), hjob,
        State.admitted_eq t none rfl rfl]
      rfl
    · have hjob := State.admittingJob_found hkey hf (by rcases hb with h | h <;> simp [h])
      have hwait : s.jobWaits key = false := by
        simp only [State.jobWaits, hjob]
        rcases hb with h | h <;> simp [h]
      generalize hp : s.newPiece measured (some (j, b)) copy.toNat thickness.toNat = p
      have hfaults : p.faults = knownFaults (overQuantity b) (outOfRange b copy.toNat) (s.copyTaken b copy.toNat)
          (measured && offCaliper b thickness.toNat) := by
        rw [← hp]
        exact s.admissionFaults_known measured b copy.toNat thickness.toNat
      have hzero : copy = 0 ↔ copy.toNat = 0 := by
        rw [← BitVec.toNat_inj]
        rfl
      have hcopy : p.copy = if b.numbered = none ∨ copy.toNat = 0 then none else some copy.toNat := by
        rw [← hp]
        change admittedCopy (some b) copy.toNat = _
        cases hn : b.numbered <;> simp [admittedCopy, hn]
      have hplace : p.place = .conveyor .z1 := hp ▸ rfl
      have hcount : p.entryCount = some s.z1.encoder := hp ▸ rfl
      obtain ⟨h1, h2, h3, h4, h5, hclean⟩ := knownFaults_bits (overQuantity b) (outOfRange b copy.toNat)
        (s.copyTaken b copy.toNat) (measured && offCaliper b thickness.toNat)
      rw [← hfaults] at h1 h2 h3 h4 h5 hclean
      have hrange' : range ↔ outOfRange b copy.toNat = true := by rw [hrange, outOfRange_iff, hzero]
      have htaken : outOfRange b copy.toNat = false → (duplicate ↔ s.copyTaken b copy.toNat = true) := fun hr => by
        rw [hduplicate, State.copyTaken_iff hentry hr, hrange', hr]
        simp
      obtain ⟨hkept, hset⟩ := State.copyTables_enterJob (s := s) (j := j) hcopy hclean
      refine ⟨p, (s.enterJob (some (j, b)) p).copyTables, ?_, ?_, h1, ?_, ?_, ?_, ?_, fun h => hkept ?_, fun n hn hr hd => ?_⟩
      · rw [State.blockScan_entered hmode hroom hlowest hwait, hjob, hp, State.admitted_eq t _ hplace hcount,
          State.jobTable_enterJob]
        rfl
      · have hcopy' : p.copy = if b.numbered = none ∨ copy = 0 then none else some copy.toNat :=
          hcopy.trans (if_congr (by rw [hzero]) rfl rfl)
        have hjacket : p.jacketStatus = if b.jacketCode = none then .notRequired else .pending := by
          rw [← hp]
          change admittedJacket (some b) = _
          cases hc : b.jacketCode <;> simp [admittedJacket, hc]
        rw [← hcopy', ← hjacket, ← hp]
        rfl
      · rw [h2, hsurplus, overQuantity_iff hb]
      · rw [h3, hrange']
      · rw [h4]
        cases hr : outOfRange b copy.toNat with
        | false => rw [htaken hr, eq_self, true_and]
        | true =>
          have hno : ¬duplicate := fun h => (hduplicate.1 h).2.1 (hrange'.2 hr)
          simp [hno]
      · rw [h5, hcaliper, Bool.and_eq_true, offCaliper_iff]
      · rcases h with h | h | h
        · exact .inl h
        · exact .inr (.inl (hrange'.1 h))
        · have hr : outOfRange b copy.toNat = false :=
            Bool.eq_false_of_not_eq_true fun hr => (hduplicate.1 h).2.1 (hrange'.2 hr)
          exact .inr (.inr ((htaken hr).1 h))
      · have hr' : outOfRange b copy.toNat = false := Bool.eq_false_of_not_eq_true fun h => hr (hrange'.2 h)
        exact hset n hn hr' (Bool.eq_false_of_not_eq_true fun h => hd ((htaken hr').2 h))

end Sys2Proof.Machine
end
